-- ==== Sys2Proof/Word.lean ====
section
/-! DEFINITION. The plainest words and arithmetic of the Walbrig 3116 model: a byte, a count that saturates, and a
value clamped between two limits ("Arithmetic" in the conventions of spec/00_scope.md). -/

namespace Sys2Proof

/-- One byte of a telegram, of a request or of the configuration memory. -/
abbrev Byte := BitVec 8

/-- A count that stops at its stated maximum and does not wrap. -/
def satInc (top n : Nat) : Nat := min (n + 1) top

/-- An increase by `d` that stops at the stated maximum. -/
def satAdd (top n d : Nat) : Nat := min (n + d) top

/-- A signed value clamped between two limits. -/
def clampInt (lo hi x : Int) : Int := max lo (min hi x)

/-- An unsigned value clamped between two limits. -/
def clampNat (lo hi x : Nat) : Nat := max lo (min hi x)

end Sys2Proof
end

