-- ==== Sys2Proof/Syntax.lean ====
section
/-! DEFINITION. The commands of the block: one constructor of `Instr` for each row of spec/opcode_table.json, in the
table's order. A row is a step of the part, whole and indivisible (spec/95_what_each_step_holds.md). Its operands are what
the outside gives at that step: the channel, the levels of the sampled lines, the bytes received, the result of a word's
verification, the supply; and, where the spec says that either of two effects "may be taken first", which one is
(log entries 4 and 6). -/

namespace Sys2Proof

/-- The two channels of the station time bus (R19). -/
inductive Channel where
  | a
  | b
  deriving DecidableEq, Repr

/-- How much of an elapsed microsecond one ELAPSED_MICROSECOND command takes (log entry 6). `whole` is the advance and
the station second it may signal; `advance` leaves the signal due and `signal` delivers it, so that the commands between
the two are taken in that same elapsed microsecond before the station second acts (R8, R58, R64, R118, R146, R147). -/
inductive MicroPart where
  | whole
  | advance
  | signal
  deriving DecidableEq, Repr

/-- The orders that a station second leaves open (R11: "no order among them is stated"; R104): whether the shift unit
acts before the agreement unit, and which groups reached by a step append their GROUP_CLOSE before its TIME_STEP. -/
structure SecondOrder where
  shiftFirst : Bool
  closeFirst : List Nat
  deriving DecidableEq, Repr

/-- What START finds outside the part (R187 to R192) and how long it took (log entries 4 and 7): the configuration
memory's bytes, `none` when it does not answer; the five straps ST4 to ST0; the console strap; the supply in mV at the end
of START; the elapsed counts at step 4, at step 5 and at the end; and what ended the reset (R169, R186): the supply in mV
that was reached since a power-on or supply reset last held the part, and whether RST is high. -/
structure StartInputs where
  memory   : Option (List Byte)
  straps   : BitVec 5
  cons     : Bool
  supply   : Nat
  initAt   : Nat
  recordAt : Nat
  endAt    : Nat
  released : Nat
  rstHigh  : Bool
  deriving DecidableEq, Repr

/-- The commands, one constructor per row of the table. -/
inductive Instr where
  /-- ELAPSED_MICROSECOND (R3). -/
  | elapsedMicrosecond (part : MicroPart) (order : SecondOrder)
  /-- SECOND_MARK_PULSE_END (R12). -/
  | secondMarkPulseEnd
  /-- MARK (R14): a rising edge on MARK. -/
  | mark
  /-- MARK_TIMEOUT (R15). -/
  | markTimeout
  /-- CHANNEL_QUIET (R20). -/
  | channelQuiet (ch : Channel)
  /-- CHANNEL_ACTIVITY (R26). -/
  | channelActivity (ch : Channel)
  /-- DEFERRAL_END (R26). -/
  | deferralEnd (ch : Channel)
  /-- BEACON_STAMP (R22). -/
  | beaconStamp (ch : Channel)
  /-- COLLISION (R27). -/
  | collision (ch : Channel)
  /-- SENDING_COMPLETE (R27). -/
  | sendingComplete (ch : Channel)
  /-- TIMING_MARK (R20). -/
  | timingMark (ch : Channel)
  /-- RECEPTION (R28): the bytes received after the sync pattern, and how many bits stood after the last whole byte. -/
  | reception (ch : Channel) (data : List Byte) (oddBits : Nat)
  /-- CONSOLE_REQUEST (R23): target and payload of a REQUEST handed over on CRX. -/
  | consoleRequest (target : Nat) (payload : List Byte)
  /-- CONSOLE_HANDOVER_NOTICE (R23): payload of a HANDOVER NOTICE handed over on CRX. -/
  | consoleHandoverNotice (payload : List Byte)
  /-- INPUT_SAMPLE (R63): the electrical levels of I15 to I0, and the order in which changes that qualify together are
  taken (R68). -/
  | inputSample (lines : BitVec 16) (order : List Nat)
  /-- CHATTER_WINDOW_END (R70) of one input. -/
  | chatterWindowEnd (input : Nat)
  /-- CHATTER_END (R73) of one input. -/
  | chatterEnd (input : Nat)
  /-- GROUP_CLOSE (R103) of one group. -/
  | groupClose (group : Nat)
  /-- GROUP_HOLD_END (R106) of one group. -/
  | groupHoldEnd (group : Nat)
  /-- STATUS_SAMPLE (R112): the levels of S5 to S0. -/
  | statusSample (lines : BitVec 6)
  /-- DWELL_END (R116). -/
  | dwellEnd
  /-- ELAPSED_MILLISECOND_TICK (R118). -/
  | elapsedMillisecondTick
  /-- CHECKPOINT_INTERVAL_EXPIRY (R163). -/
  | checkpointIntervalExpiry
  /-- STORE_WRITE_BEGIN (R158). -/
  | storeWriteBegin
  /-- STORE_WRITE_END (R158): whether every word passed verification. -/
  | storeWriteEnd (verified : Bool)
  /-- ERASE_BEGIN (R165). -/
  | eraseBegin
  /-- ERASE_SUSPEND (R166). -/
  | eraseSuspend
  /-- ERASE_RESUME (R166). -/
  | eraseResume
  /-- ERASE_COMPLETE (R157): the page under erase reads blank. -/
  | eraseComplete
  /-- ERASE_FAIL (R167). -/
  | eraseFail
  /-- STORE_READ (R174). -/
  | storeRead
  /-- SUPPLY_WARNING (R170): the supply has fallen to `supply` mV. -/
  | supplyWarning (supply : Nat)
  /-- SUPPLY_RISE (R169): the supply has risen to `supply` mV. -/
  | supplyRise (supply : Nat)
  /-- SUPPLY_HOLD_FALL (R169): the supply has fallen back to `supply` mV. -/
  | supplyHoldFall (supply : Nat)
  /-- POWER_DIP (R171). -/
  | powerDip
  /-- STATUS (R179). -/
  | status
  /-- READ_TIME (R179). -/
  | readTime
  /-- READ_PEERS (R180). -/
  | readPeers
  /-- FETCH_LOG (R86). -/
  | fetchLog
  /-- READ_ARCHIVE (R181). -/
  | readArchive
  /-- FETCH_NOTICES (R93). -/
  | fetchNotices
  /-- READ_GROUP (R109). -/
  | readGroup
  /-- ACK_GROUP (R108). -/
  | ackGroup
  /-- READ_TALLIES (R132). -/
  | readTallies
  /-- READ_SHIFT (R153). -/
  | readShift
  /-- PRESET_TALLY (R127). -/
  | presetTally
  /-- PROTECT_TALLY (R128). -/
  | protectTally
  /-- LOCK_DOWN_TALLY (R129). -/
  | lockDownTally
  /-- SET_TIME (R183): which groups reached by its step append GROUP_CLOSE before TIME_STEP (R104). -/
  | setTime (closeFirst : List Nat)
  /-- CLEAR_FLAGS (R184): the clearing, or at the clearing's own service its answer (log entry 42). -/
  | clearFlags
  /-- RESTART (R185). -/
  | restart
  /-- RESTART_RESET (R185). -/
  | restartReset
  /-- POWER_ON (R186). -/
  | powerOn
  /-- SUPPLY_RESET (R186): the supply has fallen to `supply` mV. -/
  | supplyReset (supply : Nat)
  /-- RESET_LINE (R186): RST is held low. -/
  | resetLine
  /-- START (R187). -/
  | start (inputs : StartInputs)
  /-- UNKNOWN_REQUEST (R178). -/
  | unknownRequest
  deriving DecidableEq, Repr

end Sys2Proof
end

