-- ==== Sys2Proof/Config.lean ====
section
/-! DEFINITION. The FREE VALUES of the model: what R154 leaves "in an unknown state" when a reset cuts off a word program
or an erase. Each is an opaque constant without a body, applied to a counter of State (`freeIndex`), so that nothing can
be proved of the value it gives (log entry 8). -/

namespace Sys2Proof.Config

/-- What a reset leaves of a record whose programming it cut off (R154, log entry 8): 0 leaves the slot blank (no word was
changed), 1 leaves the record whole (the marker word had just been programmed), any other value leaves it incomplete. -/
opaque cutProgram : Nat → BitVec 2

/-- What is left of one slot of a page whose erase was begun and never completed (R154, log entry 8), by the index of the
free value, the page and the slot: 0 blank, 1 incomplete, 2 torn, 3 as it was. The model never lets a slot come out
with more programmed than it held. -/
opaque cutErase : Nat → Nat → Nat → BitVec 2

end Sys2Proof.Config
end

