-- ==== Sys2Proof/Machine/Types.lean ====
section
/-! DEFINITION. The data the blocks of the 3116 hold: plain structures and inductive types, each field named as the spec
names it and each type citing the rule that gives it. `Machine/State.lean` puts them together. -/

namespace Sys2Proof.Machine

/-! ## Time -/

/-- Station time S and U (R2). -/
structure StationTime where
  s : Nat
  u : Nat
  deriving DecidableEq, Repr

/-- Time quality 0 to 3 (R44). -/
abbrev Quality := Fin 4

/-- S, U, G and the time quality, read together (R8). -/
structure Dating where
  time    : StationTime
  g       : Nat
  quality : Quality
  deriving DecidableEq, Repr

/-- A station second that has been signalled and not yet handed on (log entry 6): its S, and whether a step taken since
bars it from being a round boundary (R58). -/
structure SecondDue where
  s       : Nat
  noRound : Bool
  deriving DecidableEq, Repr

/-- The timebase (table of spec/01). -/
structure Timebase where
  elapsed      : Nat
  time         : StationTime
  g            : Nat
  acc          : Int
  a            : Int
  hold         : Option Nat
  pulseEnd     : Option Nat
  secondsKnown : Bool
  secondDue    : Option SecondDue
  deriving DecidableEq, Repr

/-- The mark monitor without its enable, which is configuration (R13). -/
structure MarkMonitor where
  prev  : Option Nat
  run   : Nat
  valid : Bool
  phase : Option Int
  deriving DecidableEq, Repr

/-- Why a step was ordered (R6). -/
inductive StepCause where
  | join
  | agree
  | set
  | anchor
  deriving DecidableEq, Repr

/-! ## Time agreement -/

/-- The agreement states (R42). -/
inductive AgreementState where
  | free
  | joining
  | agreed
  | holdover
  | anchored
  deriving DecidableEq, Repr

/-- The agreement unit without its peer table (table of spec/03). -/
structure Agreement where
  state    : AgreementState
  f        : Int
  good     : Nat
  disagree : Nat
  holdover : Nat
  deriving DecidableEq, Repr

/-- A duplicate window (R30): H, and for the sequences H − 1 to H − 16 whether each was accepted (bit 0 for H − 1). -/
structure Window where
  h        : Nat
  recorded : BitVec 16
  deriving DecidableEq, Repr

/-- One entry of the peer table (R38). -/
structure Peer where
  present     : Bool
  state       : Byte
  statusFlags : BitVec 16
  offset      : Int
  far         : Bool
  heard       : Bool
  heardA      : Bool
  heardB      : Bool
  missed      : Nat
  window      : Option Window
  restarts    : Nat
  deriving DecidableEq, Repr

/-! ## The bus -/

/-- The five telegram kinds (R36). -/
inductive TelegramKind where
  | beacon
  | tripNotice
  | handoverNotice
  | request
  | answer
  deriving DecidableEq, Repr

/-- One telegram copy in a transmit list (R24): its header fields, its payload, its retried mark, whether it is the copy
being sent, and whether the loss of its answer has been counted already (R25, R27). -/
structure Copy where
  kind        : TelegramKind
  target      : Nat
  seq         : Nat
  payload     : List Byte
  retried     : Bool
  sending     : Bool
  lossCounted : Bool
  deriving DecidableEq, Repr

/-- A receive stamp: station time and generation at a reception's timing mark (R20). -/
structure Stamp where
  time : StationTime
  g    : Nat
  deriving DecidableEq, Repr

/-- A line controller (table of spec/02). `lastActivity` is the latest elapsed count at which the model knows of activity
on the channel (log entry 26); `sendStart` is when the copy being sent was begun. -/
structure LineController where
  list         : List Copy
  quiet        : Bool
  deferral     : Option Nat
  sendStart    : Option Nat
  lastActivity : Nat
  stamp        : Option Stamp
  collisions   : Nat
  errors       : Nat
  roundErrors  : Nat
  degraded     : Bool
  deriving DecidableEq, Repr

/-- What the part has driven out (log entry 22): a whole telegram sent on a channel, an ANSWER or a BEACON handed to the
console computer over CTX with its sender (R23, R177). -/
inductive Output where
  | sent (ch : Channel) (bytes : List Byte)
  | ctxAnswer (sender : Nat) (payload : List Byte)
  | ctxBeacon (sender : Nat) (payload : List Byte) (stamp : Stamp)
  deriving DecidableEq, Repr

/-! ## Trip inputs, modes -/

/-- The classes of a trip input (R59). -/
inductive InputClass where
  | indication
  | protection
  | unitTrip
  deriving DecidableEq, Repr

/-- The onset latch of a trip input with the level under test (R62). -/
structure InputTest where
  level   : Bool
  elapsed : Nat
  dating  : Dating
  deriving DecidableEq, Repr

/-- One input channel without its configuration (table of spec/04). The channel is QUALIFYING while `qual` is present;
`chatter` is set in CHATTER. -/
structure InputChannel where
  qual      : Option InputTest
  recorded  : Option Bool
  chatter   : Bool
  events    : Nat
  windowEnd : Option Nat
  quietEnd  : Option Nat
  deriving DecidableEq, Repr

/-- The operating modes that can be accepted, codes 0 to 6 (R111); INVALID is `none` where a mode is decoded. -/
inductive Mode where
  | standstill
  | spin
  | generating
  | condensing
  | pumpStart
  | pumping
  | isolated
  deriving DecidableEq, Repr

/-- The status qualifier's combination under test and its onset latch with the tick counts (R113). -/
structure StatusTest where
  comb    : Nat
  elapsed : Nat
  dating  : Dating
  d       : Nat
  ds      : Nat
  deriving DecidableEq, Repr

/-- A candidate (R116). -/
structure Candidate where
  mode     : Mode
  elapsed  : Nat
  onset    : StationTime
  dwellEnd : Nat
  d        : Nat
  ds       : Nat
  deriving DecidableEq, Repr

/-- The tally unit (table of spec/07) without the lock-down latch. The seven-fold lists stand in the order of the mode
codes. -/
structure Tally where
  qual           : Option StatusTest
  qualified      : Option Nat
  invalidLogged  : Bool
  accepted       : Mode
  candidate      : Option Candidate
  lifetime       : List Nat
  entries        : List Nat
  tripStops      : Nat
  normalStops    : Nat
  service        : Nat
  serviceDue     : Bool
  protectLife    : Bool
  protectService : Bool
  association    : Option Nat
  deriving DecidableEq, Repr

/-- The tally sets that carry protection bits (R126). -/
inductive TallySet where
  | lifetime
  | service
  deriving DecidableEq, Repr

/-- What a PRESET TALLY names (R127): a lifetime mode tally or the service tally. -/
inductive TallyTarget where
  | mode (m : Mode)
  | service
  deriving DecidableEq, Repr

/-- The action of a PROTECT record (R128, R129). -/
inductive ProtectAction where
  | off
  | on
  | lockDown
  deriving DecidableEq, Repr

/-! ## Shift records -/

/-- How a shift was opened (R136). -/
inductive OpenCause where
  | takeover
  | forced
  | powerUp
  deriving DecidableEq, Repr

/-- How a shift was closed (R135). -/
inductive CloseCause where
  | takeover
  | forced
  | powerGap
  deriving DecidableEq, Repr

/-- The fields of an open shift record (R135). The incoming crew and the takeover time are always filled together. -/
structure ShiftRecord where
  number       : Option Nat
  openedAt     : Dating
  openCause    : OpenCause
  crew         : Option (Nat × StationTime)
  lateTakeover : Bool
  signOff      : Option StationTime
  outgoing     : Option Nat
  powered      : Nat
  durations    : List Nat
  entries      : List Nat
  tripStops    : Nat
  normalStops  : Nat
  localTrips   : Nat
  firstOuts    : Nat
  timeSteps    : Nat
  netStep      : Int
  worst        : Quality
  uncertain    : Bool
  powerGaps    : Nat
  strays       : Nat
  noSignOff    : Bool
  deriving DecidableEq, Repr

/-- A closed shift record: the open record's fields with closed-at, its generation and the close cause (R135). -/
structure ClosedShift where
  shift    : ShiftRecord
  closedAt : StationTime
  closedG  : Nat
  cause    : CloseCause
  deriving DecidableEq, Repr

/-- The handover states (R137). -/
inductive HandoverState where
  | running
  | window
  | signedOff
  deriving DecidableEq, Repr

/-- The shift unit (table of spec/08). `recovered` is the station time of the checkpoint the open shift was recovered
from, absent when the shift was opened at this START (R151). -/
structure ShiftUnit where
  current   : ShiftRecord
  state     : HandoverState
  deferred  : Bool
  recovered : Option StationTime
  deriving DecidableEq, Repr

/-! ## Trip log records -/

/-- The four kinds of reset, as the START record names them (R186). -/
inductive ResetCause where
  | powerOn
  | resetLine
  | supplyLow
  | restart
  deriving DecidableEq, Repr

/-- The three kinds of record the input unit appends (R76). -/
inductive InputKind where
  | change
  | chatterStart
  | chatterEnd
  deriving DecidableEq, Repr

/-- Why a member was a stray (R101, R105). -/
inductive StrayReason where
  | beforeWindow
  | afterWindow
  | afterClose
  deriving DecidableEq, Repr

/-- The regions of the record store (R155). -/
inductive Region where
  | journal
  | shifts
  | trips
  deriving DecidableEq, Repr

/-- What a STORE_FAULT record reports (R159, R167). -/
inductive StoreFault where
  | program
  | erase
  deriving DecidableEq, Repr

/-- One trip offered to a first-out group (table of spec/06, 6.2). -/
structure Member where
  station : Nat
  input   : Nat
  logSeq  : Nat
  dating  : Dating
  deriving DecidableEq, Repr

/-- The kind-dependent part of a trip log record (R78). -/
inductive RecordBody where
  | start (cause : ResetCause) (restored : Option Nat) (torn queued : Nat) (interrupted clamped faulted : Bool)
  | input (kind : InputKind) (input : Nat) (level : Bool) (cls : InputClass) (group : Nat) (stepCrossed : Bool)
  | timeStep (amount : Int) (cause : StepCause)
  | modeChange (old new : Mode) (onset : StationTime) (tripStop : Bool)
  | invalidCombination (comb : Nat)
  | groupClose (group : Nat) (first : Member) (members overflow : Nat)
  | groupStray (group : Nat) (reason : StrayReason) (station input logSeq : Nat) (time : StationTime)
  | shiftClose (number : Option Nat) (cause : CloseCause)
  | preset (target : TallyTarget) (old new : Nat)
  | protect (set : TallySet) (action : ProtectAction)
  | serviceDue (service : Nat)
  | powerDip (ms : Nat) (eraseAbandoned : Bool)
  | storeFault (region : Region) (fault : StoreFault) (page : Nat)
  deriving DecidableEq, Repr

/-- A trip log record: the common part and the kind-dependent part (R77). -/
structure Record where
  seq    : Nat
  dating : Dating
  body   : RecordBody
  deriving DecidableEq, Repr

/-- The trip log (R79, R82): the records from oldest to newest, the get position in the ring of 256 places, and the next
log sequence. The put position is get + fill modulo 256. -/
structure TripLog where
  records : List Record
  get     : Nat
  next    : Nat
  deriving DecidableEq, Repr

/-- An entry of the notice queue: the sender and the 18 payload bytes as received (R89, R93). -/
structure Notice where
  sender  : Nat
  payload : List Byte
  deriving DecidableEq, Repr

/-! ## First-out groups -/

/-- The states of a group (table of spec/06). -/
inductive GroupState where
  | idle
  | opened
  | closed
  deriving DecidableEq, Repr

/-- One group entry (table of spec/06). -/
structure Group where
  state    : GroupState
  t0       : Option StationTime
  members  : List Member
  overflow : Nat
  firstOut : Option Nat
  holdEnd  : Option Nat
  deriving DecidableEq, Repr

/-! ## The record store -/

/-- A checkpoint's content (R162). -/
structure Checkpoint where
  time           : StationTime
  quality        : Quality
  f              : Int
  lifetime       : List Nat
  entries        : List Nat
  tripStops      : Nat
  normalStops    : Nat
  service        : Nat
  serviceDue     : Bool
  protectLife    : Bool
  protectService : Bool
  accepted       : Mode
  nextLog        : Nat
  shift          : ShiftRecord
  deriving DecidableEq, Repr

/-- What one slot of the array holds (R155). -/
inductive StoredRecord where
  | checkpoint (c : Checkpoint)
  | shift (c : ClosedShift)
  | archive (r : Record)
  deriving DecidableEq, Repr

/-- The condition of a slot (R156); `incomplete` is the spec's "partial". -/
inductive Slot where
  | blank
  | incomplete
  | torn
  | valid (seq : Nat) (content : StoredRecord)
  deriving DecidableEq, Repr

/-- One page of the array; `disturbed` while its erase has been begun and not completed (R154, log entry 34). -/
structure Page where
  slots     : List Slot
  disturbed : Bool
  deriving DecidableEq, Repr

/-- What a region keeps (R157, R158, R168): the active page and its first slot not yet begun (the append point, none
when the page is full), the ready page, the next store sequence and the stopped mark. -/
structure RegionState where
  active  : Option Nat
  slot    : Nat
  ready   : Option Nat
  nextSeq : Nat
  stopped : Bool
  deriving DecidableEq, Repr

/-- The kinds of write queue entry (R160); the two kinds of checkpoint refer to the staging image. -/
inductive EntryKind where
  | powerFail
  | archive (r : Record)
  | shift (c : ClosedShift)
  | checkpoint
  deriving DecidableEq, Repr

/-- A write queue entry: `busy` while its record is being programmed, `failedOnce` after its first failure, and
`retryNext` while its retry is the next record the controller begins (R159). -/
structure Entry where
  kind       : EntryKind
  busy       : Bool
  failedOnce : Bool
  retryNext  : Bool
  deriving DecidableEq, Repr

/-- The states of the staging image (R164). -/
inductive ImageState where
  | empty
  | filled
  | writing
  deriving DecidableEq, Repr

/-- The staging image (R164): its state, its content, whether its entry is a power-fail checkpoint, the pending mark and
whether that mark has priority 1. It waits for a place while it is FILLED and no entry of the queue refers to it. -/
structure Image where
  state       : ImageState
  content     : Option Checkpoint
  powerFail   : Bool
  pending     : Bool
  pendingFail : Bool
  deriving DecidableEq, Repr

/-- The erase in hand (R165, R166): its page, whether it runs or is suspended, the running time before `since`, and the
elapsed count at which it was begun or last resumed. -/
structure EraseInHand where
  page    : Nat
  running : Bool
  ran     : Nat
  since   : Nat
  deriving DecidableEq, Repr

/-- The record being programmed (R158): where, and under which store sequence. Its entry is the busy one of the queue. -/
structure Programming where
  region : Region
  page   : Nat
  slot   : Nat
  seq    : Nat
  deriving DecidableEq, Repr

/-- The record store (table of spec/09) without the supply monitor. -/
structure Store where
  pages       : List Page
  journal     : RegionState
  shifts      : RegionState
  trips       : RegionState
  leftOut     : List Nat
  queue       : List Entry
  image       : Image
  eraseList   : List Nat
  erase       : Option EraseInHand
  abandoned   : Option Nat
  programming : Option Programming
  timer       : Option Nat
  dropped     : Nat
  deriving DecidableEq, Repr

/-- The states of the supply monitor (R169). -/
inductive SupplyState where
  | normal
  | warning
  | hold
  deriving DecidableEq, Repr

/-- The supply monitor (R169, R171): the elapsed counts of the warning and of the latest rise, and the hold end. -/
structure SupplyMonitor where
  state   : SupplyState
  warnAt  : Nat
  riseAt  : Nat
  holdEnd : Option Nat
  deriving DecidableEq, Repr

/-! ## Requests -/

/-- A request as the receive filter or the console computer gave it (R175). -/
structure Request where
  sender  : Nat
  payload : List Byte
  deriving DecidableEq, Repr

/-- A request in service that waits (R176): a store read, a CLEAR FLAGS whose flags are cleared and whose answer is due
(R184, log entry 42), or a RESTART whose answer took `seq` and was queued at the elapsed count `queuedAt` (R185). -/
inductive Service where
  | storeRead (r : Request)
  | clearFlags (r : Request)
  | restart (seq queuedAt : Nat)
  deriving DecidableEq, Repr

/-- The request handler (table of spec/10). -/
structure RequestHandler where
  queue       : List Request
  service     : Option Service
  overflow    : Nat
  lostAnswers : Nat
  deriving DecidableEq, Repr

/-- The nine sticky flags (R184). -/
structure StickyFlags where
  logOverrun       : Bool
  noticeOverrun    : Bool
  noticeLoss       : Bool
  archiveLoss      : Bool
  programFault     : Bool
  eraseFault       : Bool
  protectionFault  : Bool
  duplicateStation : Bool
  configFault      : Bool
  deriving DecidableEq, Repr

/-! ## Configuration -/

/-- The configuration of one trip input (R59). -/
structure InputConfig where
  enabled   : Bool
  activeLow : Bool
  cls       : InputClass
  group     : Nat
  q         : Nat
  deriving DecidableEq, Repr

/-- What the configuration load found (R191). -/
inductive ConfigStatus where
  | good
  | clamped
  | faulted
  deriving DecidableEq, Repr

/-- The loaded configuration (R190), each field within its range. `modeTable` gives `none` for INVALID. -/
structure Configuration where
  status           : ConfigStatus
  inputs           : List InputConfig
  qualMs           : Nat
  modeTable        : List (Option Mode)
  dwell            : Nat
  associationWin   : Nat
  serviceLimit     : Nat
  protectLife      : Bool
  protectService   : Bool
  chatterWindow    : Nat
  chatterLimit     : Nat
  wg               : Nat
  settle           : Nat
  hold             : Nat
  logCritical      : Nat
  noticeCritical   : Nat
  senderReject     : BitVec 31
  chatterReject    : Bool
  rejectIndication : Bool
  rejectProtection : Bool
  rejectUnitTrip   : Bool
  groupReject      : BitVec 8
  roundLength      : Nat
  dropped          : Nat
  stepThreshold    : Nat
  holdoverLimit    : Nat
  lineDelay        : Nat
  markEnable       : Bool
  shiftsPerDay     : Nat
  firstBoundary    : Nat
  lead             : Nat
  grace            : Nat
  checkpointEvery  : Nat
  warningMv        : Nat
  alarmMask        : BitVec 15
  deriving DecidableEq, Repr

/-- Whether the part is held in reset (or has not yet run START), with the reset cause of the period so far, or runs
(R186). -/
inductive Phase where
  | inReset (cause : ResetCause)
  | running
  deriving DecidableEq, Repr

end Sys2Proof.Machine
end

