-- ==== Sys2Proof/Machine/Defaults.lean ====
section
/-! DEFINITION. The value of each block after every kind of reset, from the tables that head the chapters, and the default
configuration of R191. `Machine/State.lean` builds `State.reset` from them and `Machine/Resets.lean` every later reset. -/

namespace Sys2Proof.Machine

/-- 0 s 0 µs. -/
def StationTime.zero : StationTime := ⟨0, 0⟩

/-- 0 s 0 µs, generation 0, quality 3: the dating in force from a reset until the timebase initialisation (R18). -/
def Dating.zero : Dating := ⟨StationTime.zero, 0, 3⟩

/-- The timebase while the part is held in reset (R1, R12, R18). -/
def Timebase.cleared : Timebase :=
  { elapsed := 0, time := StationTime.zero, g := 0, acc := 0, a := 0, hold := none, pulseEnd := none,
    secondsKnown := false, secondDue := none }

/-- The mark monitor after every kind of reset (R13). -/
def MarkMonitor.cleared : MarkMonitor := { prev := none, run := 0, valid := false, phase := none }

/-- The agreement unit in FREE with frequency term `f` and its counts 0 (R42). -/
def Agreement.free (f : Int) : Agreement := { state := .free, f := f, good := 0, disagree := 0, holdover := 0 }

/-- A peer table entry at its reset value (R38). -/
def Peer.cleared : Peer :=
  { present := false, state := 0, statusFlags := 0, offset := 0, far := false, heard := false, heardA := false,
    heardB := false, missed := 0, window := none, restarts := 0 }

/-- A line controller at its reset values (table of spec/02), treating its channel as busy from the elapsed count `at'`
on (R20). -/
def LineController.cleared (at' : Nat) : LineController :=
  { list := [], quiet := false, deferral := none, sendStart := none, lastActivity := at', stamp := none, collisions := 0,
    errors := 0, roundErrors := 0, degraded := false }

/-- An input channel after every kind of reset (table of spec/04, R75). -/
def InputChannel.cleared : InputChannel :=
  { qual := none, recorded := none, chatter := false, events := 0, windowEnd := none, quietEnd := none }

/-- A first-out group after every kind of reset, and once its hold has passed (table of spec/06, R106). -/
def Group.idle : Group :=
  { state := .idle, t0 := none, members := [], overflow := 0, firstOut := none, holdEnd := none }

/-- Seven counts or durations of 0, one for each mode. -/
def zeros : List Nat := [0, 0, 0, 0, 0, 0, 0]

/-- The tally unit with no checkpoint and the given protect bits (R131). -/
def Tally.blank (protectLife protectService : Bool) : Tally :=
  { qual := none, qualified := none, invalidLogged := false, accepted := .standstill, candidate := none,
    lifetime := zeros, entries := zeros, tripStops := 0, normalStops := 0, service := 0, serviceDue := false,
    protectLife := protectLife, protectService := protectService, association := none }

/-- A shift record at its opening (R136): durations, counts and tallies 0, the sign-off fields absent, the flags clear,
worst quality the current one and time-uncertain where that is 3. -/
def ShiftRecord.opening (number : Option Nat) (openedAt : Dating) (cause : OpenCause)
    (crew : Option (Nat × StationTime)) : ShiftRecord :=
  { number := number, openedAt := openedAt, openCause := cause, crew := crew, lateTakeover := false, signOff := none,
    outgoing := none, powered := 0, durations := zeros, entries := zeros, tripStops := 0, normalStops := 0,
    localTrips := 0, firstOuts := 0, timeSteps := 0, netStep := 0, worst := openedAt.quality,
    uncertain := decide (openedAt.quality = 3), powerGaps := 0, strays := 0, noSignOff := false }

/-- The shift unit before START has taken up an open shift (R150, log entry 10). -/
def ShiftUnit.cleared : ShiftUnit :=
  { current := ShiftRecord.opening none Dating.zero .powerUp none, state := .running, deferred := true,
    recovered := none }

/-- The trip log after every kind of reset (R82), the next log sequence standing at `next`. -/
def TripLog.empty (next : Nat) : TripLog := { records := [], get := 0, next := next }

/-- The staging image EMPTY (R164). -/
def Image.empty : Image :=
  { state := .empty, content := none, powerFail := false, pending := false, pendingFail := false }

/-- The region that holds page `p` (R155). -/
def regionOfPage (p : Nat) : Region := if p < 4 then .journal else if p < 8 then .shifts else .trips

/-- The pages of a region in ascending order (R155). -/
def Region.pages : Region → List Nat
  | .journal => [0, 1, 2, 3]
  | .shifts  => [4, 5, 6, 7]
  | .trips   => [8, 9, 10, 11, 12, 13, 14, 15]

/-- How many slots a page of the region has (R155). -/
def Region.slots : Region → Nat
  | .journal => 16
  | .shifts  => 16
  | .trips   => 64

/-- A blank page of a region. -/
def Page.blankOf (r : Region) : Page := { slots := List.replicate r.slots .blank, disturbed := false }

/-- The sixteen pages, every one blank (log entry 9). -/
def blankArray : List Page := (List.range 16).map fun p => Page.blankOf (regionOfPage p)

/-- A region with no page settled (log entry 10; R173 settles it). -/
def RegionState.unsettled : RegionState :=
  { active := none, slot := 0, ready := none, nextSeq := 0, stopped := false }

/-- The record store after every kind of reset, with the array it keeps (table of spec/09). -/
def Store.cleared (pages : List Page) : Store :=
  { pages := pages, journal := RegionState.unsettled, shifts := RegionState.unsettled, trips := RegionState.unsettled,
    leftOut := [], queue := [], image := Image.empty, eraseList := [], erase := none, abandoned := none,
    programming := none, timer := none, dropped := 0 }

/-- The supply monitor NORMAL (R169). -/
def SupplyMonitor.normal : SupplyMonitor := { state := .normal, warnAt := 0, riseAt := 0, holdEnd := none }

/-- The request handler after every kind of reset (R175). -/
def RequestHandler.cleared : RequestHandler := { queue := [], service := none, overflow := 0, lostAnswers := 0 }

/-- Every sticky flag clear (R184). -/
def StickyFlags.clear : StickyFlags :=
  { logOverrun := false, noticeOverrun := false, noticeLoss := false, archiveLoss := false, programFault := false,
    eraseFault := false, protectionFault := false, duplicateStation := false, configFault := false }

/-- A disabled input (R59, R191). -/
def InputConfig.disabled : InputConfig :=
  { enabled := false, activeLow := false, cls := .indication, group := 0, q := 0 }

/-- The defaults of R191, with the status given. -/
def Configuration.defaults (status : ConfigStatus) : Configuration :=
  { status := status
    inputs := List.replicate 16 InputConfig.disabled
    qualMs := 20
    modeTable := List.replicate 64 (some .standstill)
    dwell := 5
    associationWin := 10
    serviceLimit := 0
    protectLife := true
    protectService := false
    chatterWindow := 10
    chatterLimit := 8
    wg := 20
    settle := 50
    hold := 60
    logCritical := 192
    noticeCritical := 48
    senderReject := 0
    chatterReject := false
    rejectIndication := false
    rejectProtection := false
    rejectUnitTrip := false
    groupReject := 0
    roundLength := 4
    dropped := 1
    stepThreshold := 1000
    holdoverLimit := 60
    lineDelay := 0
    markEnable := false
    shiftsPerDay := 3
    firstBoundary := 21600
    lead := 900
    grace := 1800
    checkpointEvery := 60
    warningMv := 4350
    alarmMask := BitVec.allOnes 15 }

end Sys2Proof.Machine
end

