-- ==== Sys2Proof/Machine/State.lean ====
section
/-! DEFINITION. The state of the 3116: every piece of state the spec gives the part, block by block, plus four fields of
the model's own (`pending`, `out`, `freeIndex` and the timebase's `secondDue`; log entries 2, 22, 8 and 6). Plain data. -/

namespace Sys2Proof.Machine

/-- The whole machine. `pending` is the queue of commands that are waiting, the front first. -/
structure State where
  pending     : List Instr
  phase       : Phase
  cfg         : Configuration
  ownNumber   : Nat
  console     : Bool
  flags       : StickyFlags
  tb          : Timebase
  marks       : MarkMonitor
  agr         : Agreement
  peers       : List Peer
  chA         : LineController
  chB         : LineController
  senderSeq   : Nat
  inputs      : List InputChannel
  log         : TripLog
  notices     : List Notice
  groups      : List Group
  tally       : Tally
  lockLife    : Bool
  lockService : Bool
  shift       : ShiftUnit
  store       : Store
  supply      : SupplyMonitor
  req         : RequestHandler
  out         : List Output
  freeIndex   : Nat
  deriving DecidableEq, Repr

/-- The faults of the model: none. Every fault the spec names is an effect on State (a sticky flag, a status, a stopped
region, a reset), so no command stops the block. -/
inductive Fault where
  deriving DecidableEq, Repr

/-- The refusals of the model. -/
inductive Refusal where
  /-- Raised by `exec` alone, for a row of the table that has no meaning yet, by its mnemonic; no row is left so. Safe:
  nothing is claimed of a command that is refused. -/
  | notModelled (mnemonic : String)
  deriving DecidableEq, Repr

/-- The machine right after reset: the part held in reset by power-on, with START not yet run (R186, R187; log entries 5,
9 and 10). The queue of commands is empty. -/
def State.reset : State :=
  { pending     := []
    phase       := .inReset .powerOn
    cfg         := Configuration.defaults .good
    ownNumber   := 0
    console     := false
    flags       := StickyFlags.clear
    tb          := Timebase.cleared
    marks       := MarkMonitor.cleared
    agr         := Agreement.free 0
    peers       := List.replicate 31 Peer.cleared
    chA         := LineController.cleared 0
    chB         := LineController.cleared 0
    senderSeq   := 0
    inputs      := List.replicate 16 InputChannel.cleared
    log         := TripLog.empty 0
    notices     := []
    groups      := List.replicate 7 Group.idle
    tally       := Tally.blank false false
    lockLife    := false
    lockService := false
    shift       := ShiftUnit.cleared
    store       := Store.cleared blankArray
    supply      := SupplyMonitor.normal
    req         := RequestHandler.cleared
    out         := []
    freeIndex   := 0 }

end Sys2Proof.Machine
end

