-- ==== Sys2Proof/Machine/Operands.lean ====
section
/-! DEFINITION. The forms of data seen outside the part, from the layouts of R36 and R37 and the configuration memory of
R190: numbers as bytes most significant first, the code of every coded value, the telegram with its check (R28), the
payloads, the trip log record, the parts of a shift record, and the loading of the configuration (R191). -/

namespace Sys2Proof.Machine

/-! ## Numbers and bytes (R36) -/

/-- The low `n` bytes of `v`, most significant byte first. -/
def beBytes : Nat → Nat → List Byte
  | 0, _ => []
  | n + 1, v => beBytes n (v / 256) ++ [BitVec.ofNat 8 v]

/-- The number that bytes spell, most significant byte first. -/
def beNat (bs : List Byte) : Nat := bs.foldl (fun acc b => acc * 256 + b.toNat) 0

/-- A signed field of `n` bytes in two's complement. -/
def beInt (n : Nat) (v : Int) : List Byte := beBytes n (v % ((256 ^ n : Nat) : Int)).toNat

/-- An optional number of `n` bytes; absent, it is sent with every bit set. -/
def optBytes (n : Nat) : Option Nat → List Byte
  | some v => beBytes n v
  | none   => List.replicate n 0xFF

/-- A station time field pair: S and U, four bytes each. -/
def StationTime.bytes (t : StationTime) : List Byte := beBytes 4 t.s ++ beBytes 4 t.u

/-- An optional station time field pair. -/
def optTimeBytes : Option StationTime → List Byte
  | some t => t.bytes
  | none   => List.replicate 8 0xFF

/-- Flags as a number, the first of the list bit 0. -/
def bitsNat (bs : List Bool) : Nat := bs.foldr (fun b acc => b.toNat + 2 * acc) 0

/-- The byte at a place of a payload, 0 past its end. -/
def byteAt (bs : List Byte) (i : Nat) : Nat := (bs.getD i 0).toNat

/-- The number in `n` bytes from place `i` on. -/
def fieldAt (bs : List Byte) (i n : Nat) : Nat := beNat ((bs.drop i).take n)

/-! ## Codes (R36, R37) -/

def AgreementState.code : AgreementState → Nat
  | .free => 0
  | .joining => 1
  | .agreed => 2
  | .holdover => 3
  | .anchored => 4

/-- A reported state; a code above 4 counts as FREE (R46). -/
def AgreementState.ofCode : Nat → AgreementState
  | 1 => .joining
  | 2 => .agreed
  | 3 => .holdover
  | 4 => .anchored
  | _ => .free

def Mode.code : Mode → Nat
  | .standstill => 0
  | .spin => 1
  | .generating => 2
  | .condensing => 3
  | .pumpStart => 4
  | .pumping => 5
  | .isolated => 6

/-- The mode of a code; INVALID (7) and everything above it is `none`. -/
def Mode.ofCode : Nat → Option Mode
  | 0 => some .standstill
  | 1 => some .spin
  | 2 => some .generating
  | 3 => some .condensing
  | 4 => some .pumpStart
  | 5 => some .pumping
  | 6 => some .isolated
  | _ => none

def InputClass.code : InputClass → Nat
  | .indication => 0
  | .protection => 1
  | .unitTrip => 2

/-- The class of a code; a code above 2 is clamped to UNIT_TRIP (R191). -/
def InputClass.ofCode : Nat → InputClass
  | 0 => .indication
  | 1 => .protection
  | _ => .unitTrip

def TelegramKind.code : TelegramKind → Nat
  | .beacon => 1
  | .tripNotice => 2
  | .handoverNotice => 3
  | .request => 4
  | .answer => 5

/-- The medium class of a kind (R26). -/
def TelegramKind.mediumClass : TelegramKind → Nat
  | .tripNotice => 0
  | .handoverNotice => 1
  | .request => 2
  | .answer => 2
  | .beacon => 3

def StepCause.code : StepCause → Nat
  | .join => 1
  | .agree => 2
  | .set => 3
  | .anchor => 4

def ResetCause.code : ResetCause → Nat
  | .powerOn => 1
  | .resetLine => 2
  | .supplyLow => 3
  | .restart => 4

def Region.code : Region → Nat
  | .journal => 0
  | .shifts => 1
  | .trips => 2

def StoreFault.code : StoreFault → Nat
  | .program => 1
  | .erase => 2

def StrayReason.code : StrayReason → Nat
  | .beforeWindow => 1
  | .afterWindow => 2
  | .afterClose => 3

def InputKind.code : InputKind → Nat
  | .change => 2
  | .chatterStart => 3
  | .chatterEnd => 4

def OpenCause.code : OpenCause → Nat
  | .takeover => 1
  | .forced => 2
  | .powerUp => 3

def CloseCause.code : CloseCause → Nat
  | .takeover => 1
  | .forced => 2
  | .powerGap => 3

def TallySet.code : TallySet → Nat
  | .lifetime => 0
  | .service => 1

def ProtectAction.code : ProtectAction → Nat
  | .off => 0
  | .on => 1
  | .lockDown => 2

def GroupState.code : GroupState → Nat
  | .idle => 0
  | .opened => 1
  | .closed => 2

/-- The set and mode bytes of a preset's target; FFh names the service tally. -/
def TallyTarget.bytes : TallyTarget → List Byte
  | .mode m  => [0, BitVec.ofNat 8 m.code]
  | .service => [1, 0xFF]

/-- The status codes of an ANSWER (R36). -/
inductive Status where
  | ok
  | empty
  | badArgument
  | refusedState
  | isProtected
  | flagPending
  | modePending
  | storeFault
  | unknownRequest
  deriving DecidableEq, Repr

def Status.code : Status → Nat
  | .ok => 0
  | .empty => 1
  | .badArgument => 2
  | .refusedState => 3
  | .isProtected => 4
  | .flagPending => 5
  | .modePending => 6
  | .storeFault => 7
  | .unknownRequest => 8

/-! ## Telegrams (R19, R28, R36) -/

/-- One bit of the check: x^16 + x^12 + x^5 + 1, most significant bit first. -/
def crcBit (c : BitVec 16) : BitVec 16 := if c.msb then (c <<< 1) ^^^ 0x1021 else c <<< 1

/-- The check taken on by one byte. -/
def crcByte (c : BitVec 16) (b : Byte) : BitVec 16 :=
  crcBit (crcBit (crcBit (crcBit (crcBit (crcBit (crcBit (crcBit (c ^^^ (b.setWidth 16 <<< 8)))))))))

/-- The check over bytes, initial value FFFFh, no final inversion (R28). -/
def crc (bs : List Byte) : BitVec 16 := bs.foldl crcByte 0xFFFF

/-- Header and payload of a copy as station `own` sends it. -/
def Copy.content (own : Nat) (c : Copy) : List Byte :=
  beBytes 1 c.kind.code ++ beBytes 1 own ++ beBytes 1 c.target ++ beBytes 1 c.payload.length ++ beBytes 2 c.seq
    ++ c.payload

/-- The bytes of a telegram: header, payload and check, the check most significant byte first. -/
def Copy.frame (own : Nat) (c : Copy) : List Byte := c.content own ++ beBytes 2 (crc (c.content own)).toNat

/-- How many bit times, and so µs, a copy takes to send (R19). A BEACON's payload always has 12 bytes. -/
def Copy.bitTimes (c : Copy) : Nat :=
  16 + 8 * (8 + if c.kind = .beacon then 12 else c.payload.length)

/-- A checked reception (R28). -/
structure Received where
  kind    : Nat
  sender  : Nat
  target  : Nat
  seq     : Nat
  payload : List Byte
  deriving DecidableEq, Repr

/-- The payload lengths a kind allows (R28, sixth item); a kind not in the layout tables is not checked. -/
def payloadLengthAllowed (kind : Nat) (payload : List Byte) : Bool :=
  let n := payload.length
  match kind with
  | 1 => n == 12
  | 2 => n == 18
  | 3 => n == 15 || (n == 23 && byteAt payload 0 != 1)
  | 4 => decide (2 ≤ n) && decide (n ≤ 48)
  | 5 => decide (3 ≤ n) && decide (n ≤ 48)
  | _ => true

/-- The checking of R28: the telegram a reception holds, `none` when the reception is discarded. -/
def checkReception (data : List Byte) (oddBits : Nat) : Option Received :=
  let len := byteAt data 3
  let body := data.take (data.length - 2)
  let r : Received :=
    { kind := byteAt data 0, sender := byteAt data 1, target := byteAt data 2, seq := fieldAt data 4 2,
      payload := (data.drop 6).take len }
  if oddBits = 0 ∧ 8 ≤ data.length ∧ len ≤ 48 ∧ data.length = 8 + len
      ∧ fieldAt data (6 + len) 2 = (crc body).toNat
      ∧ r.sender ≤ 30 ∧ r.target ≤ 31 ∧ payloadLengthAllowed r.kind r.payload = true
  then some r else none

/-- The payload of a TRIP NOTICE, each field as the number received. -/
structure TripNotice where
  logSeq  : Nat
  kind    : Nat
  input   : Nat
  level   : Nat
  cls     : Nat
  group   : Nat
  quality : Nat
  g       : Nat
  time    : StationTime
  deriving DecidableEq, Repr

/-- Reading an 18-byte TRIP NOTICE payload (R36). -/
def TripNotice.ofBytes (p : List Byte) : TripNotice :=
  { logSeq := fieldAt p 0 2, kind := byteAt p 2, input := byteAt p 3, level := byteAt p 4, cls := byteAt p 5,
    group := byteAt p 6, quality := byteAt p 7, g := byteAt p 8, time := ⟨fieldAt p 10 4, fieldAt p 14 4⟩ }

/-- The TRIP NOTICE payload composed from an input record (R87). -/
def tripNoticeBytes (seq : Nat) (dating : Dating) (kind : InputKind) (input : Nat) (level : Bool) (cls : InputClass)
    (group : Nat) (stepCrossed : Bool) : List Byte :=
  beBytes 2 seq ++ beBytes 1 kind.code ++ beBytes 1 input ++ beBytes 1 level.toNat ++ beBytes 1 cls.code
    ++ beBytes 1 group ++ beBytes 1 dating.quality.val ++ beBytes 1 dating.g ++ beBytes 1 stepCrossed.toNat
    ++ dating.time.bytes

/-- The payload of a HANDOVER NOTICE, the sign-off time present in the longer form alone. -/
structure HandoverNotice where
  action  : Nat
  number  : Nat
  crew    : Nat
  time    : StationTime
  signOff : Option StationTime
  deriving DecidableEq, Repr

/-- Reading a HANDOVER NOTICE payload of 15 or 23 bytes (R36). A sign-off time sent with every bit set is absent. -/
def HandoverNotice.ofBytes (p : List Byte) : HandoverNotice :=
  { action := byteAt p 0, number := fieldAt p 1 4, crew := fieldAt p 5 2, time := ⟨fieldAt p 7 4, fieldAt p 11 4⟩,
    signOff := if 23 ≤ p.length ∧ ¬(fieldAt p 15 4 = 0xFFFFFFFF ∧ fieldAt p 19 4 = 0xFFFFFFFF)
      then some ⟨fieldAt p 15 4, fieldAt p 19 4⟩ else none }

/-! ## Trip log records (R37) -/

/-- The record kind code (R36). -/
def RecordBody.code : RecordBody → Nat
  | .start .. => 1
  | .input kind _ _ _ _ _ => kind.code
  | .timeStep .. => 5
  | .modeChange .. => 6
  | .invalidCombination .. => 7
  | .groupClose .. => 8
  | .groupStray .. => 9
  | .shiftClose .. => 10
  | .preset .. => 11
  | .protect .. => 12
  | .serviceDue .. => 13
  | .powerDip .. => 14
  | .storeFault .. => 15

/-- The kind-dependent fields of a record (R37). -/
def RecordBody.bytes : RecordBody → List Byte
  | .start cause restored torn queued interrupted clamped faulted =>
      beBytes 1 cause.code ++ optBytes 4 restored ++ beBytes 1 torn ++ beBytes 1 queued
        ++ beBytes 1 (bitsNat [interrupted, clamped, faulted])
  | .input _ line level cls group stepCrossed =>
      beBytes 1 line ++ beBytes 1 level.toNat ++ beBytes 1 cls.code ++ beBytes 1 group ++ beBytes 1 stepCrossed.toNat
  | .timeStep amount cause => beInt 8 amount ++ beBytes 1 cause.code
  | .modeChange old new onset tripStop =>
      beBytes 1 old.code ++ beBytes 1 new.code ++ onset.bytes ++ beBytes 1 tripStop.toNat
  | .invalidCombination comb => beBytes 1 comb
  | .groupClose group first members overflow =>
      beBytes 1 group ++ beBytes 1 first.station ++ beBytes 1 first.input ++ beBytes 2 first.logSeq
        ++ first.dating.time.bytes ++ beBytes 1 first.dating.quality.val ++ beBytes 1 members ++ beBytes 1 overflow
  | .groupStray group reason station line logSeq time =>
      beBytes 1 group ++ beBytes 1 reason.code ++ beBytes 1 station ++ beBytes 1 line ++ beBytes 2 logSeq ++ time.bytes
  | .shiftClose number cause => optBytes 4 number ++ beBytes 1 cause.code
  | .preset target old new => target.bytes ++ beBytes 6 old ++ beBytes 6 new
  | .protect set action => beBytes 1 set.code ++ beBytes 1 action.code
  | .serviceDue service => beBytes 6 service
  | .powerDip ms eraseAbandoned => beBytes 4 ms ++ beBytes 1 eraseAbandoned.toNat
  | .storeFault region fault page => beBytes 1 region.code ++ beBytes 1 fault.code ++ beBytes 1 page

/-- A record as FETCH LOG and READ ARCHIVE send it: the common 13 bytes, then its kind's. -/
def Record.bytes (r : Record) : List Byte :=
  beBytes 2 r.seq ++ beBytes 1 r.body.code ++ r.dating.time.bytes ++ beBytes 1 r.dating.g
    ++ beBytes 1 r.dating.quality.val ++ r.body.bytes

/-! ## Shift records (R36, R153) -/

/-- A part of a shift record: the record, its closed fields when it is closed, and its region store sequence when it is
programmed. -/
def shiftPartBytes (r : ShiftRecord) (closed : Option (StationTime × Nat × CloseCause)) (stored : Option Nat)
    (part : Nat) : List Byte :=
  match part with
  | 0 =>
      optBytes 4 r.number
        ++ beBytes 1 (bitsNat [r.number.isSome, r.crew.isSome, r.crew.isSome, r.signOff.isSome, r.outgoing.isSome,
            closed.isSome])
        ++ beBytes 1 r.openCause.code ++ r.openedAt.time.bytes ++ beBytes 1 r.openedAt.g
        ++ beBytes 1 r.openedAt.quality.val
        ++ (match closed with
            | some (t, g, cause) => beBytes 1 cause.code ++ t.bytes ++ beBytes 1 g
            | none => beBytes 1 0 ++ List.replicate 9 0xFF)
  | 1 =>
      optBytes 2 (r.crew.map Prod.fst) ++ optTimeBytes (r.crew.map Prod.snd)
        ++ beBytes 1 (bitsNat [r.lateTakeover, r.noSignOff, r.uncertain])
        ++ optBytes 2 r.outgoing ++ optTimeBytes r.signOff ++ beBytes 2 r.strays
  | 2 => beBytes 4 r.powered ++ r.durations.flatMap (beBytes 4)
  | 3 =>
      r.entries.flatMap (beBytes 3) ++ beBytes 3 r.tripStops ++ beBytes 3 r.normalStops ++ beBytes 3 r.localTrips
        ++ beBytes 3 r.firstOuts
  | 4 => beBytes 2 r.timeSteps ++ beInt 8 r.netStep ++ beBytes 1 r.worst.val ++ beBytes 2 r.powerGaps
  | 5 => optBytes 4 stored ++ beBytes 1 stored.isSome.toNat
  | _ => []

/-! ## The configuration memory (R190, R191, R133) -/

/-- The allowed number of shifts per day nearest to `v`, the lower of two that are equally near (R133). -/
def nearestShifts (v : Nat) : Nat :=
  if v ≤ 1 then 1 else if v ≤ 3 then v else if v ≤ 5 then 4 else if v ≤ 7 then 6 else 8

/-- The configuration of input `i` from its three bytes. -/
def loadInput (m : List Byte) (i : Nat) : InputConfig :=
  let flags := m.getD (3 * i) 0
  { enabled := flags.getLsbD 0
    activeLow := flags.getLsbD 1
    cls := InputClass.ofCode (flags.toNat / 4 % 4)
    group := min 7 (byteAt m (3 * i + 1))
    q := min 127 (byteAt m (3 * i + 2)) }

/-- The supply warning threshold in mV of a selection (R190). -/
def warningThreshold : Nat → Nat
  | 0 => 4200
  | 1 => 4350
  | 2 => 4500
  | _ => 4650

/-- Every numeric field that has a range, as (value found, lowest, highest) (R59, R95, R43, R111, R133, R163, R85, R94). -/
def rangedFields (m : List Byte) : List (Nat × Nat × Nat) :=
  let lsh := 86400 / nearestShifts (byteAt m 142)
  ((List.range 16).flatMap fun i =>
      [(byteAt m (3 * i) / 4 % 4, 0, 2), (byteAt m (3 * i + 1), 0, 7), (byteAt m (3 * i + 2), 0, 127)])
    ++ ((List.range 64).map fun i => (byteAt m (49 + i), 0, 7))
    ++ [(byteAt m 113, 0, 120), (byteAt m 114, 0, 60), (byteAt m 118, 1, 60), (byteAt m 119, 3, 31),
        (fieldAt m 120 2, 10, 2000), (fieldAt m 122 2, 0, 500), (fieldAt m 124 2, 0, 3600),
        (fieldAt m 126 2, 1, 256), (byteAt m 128, 1, 64), (byteAt m 135, 2, 16), (byteAt m 136, 0, 3),
        (fieldAt m 137 2, 100, 50000), (byteAt m 139, 1, 255), (byteAt m 140, 0, 50),
        (byteAt m 142, nearestShifts (byteAt m 142), nearestShifts (byteAt m 142)),
        (fieldAt m 143 4, 0, lsh - 1), (fieldAt m 147 2, 0, lsh / 2), (fieldAt m 149 2, 0, lsh / 2),
        (fieldAt m 151 2, 10, 600), (byteAt m 153, 0, 3)]

/-- The configuration of a memory that passed its check, every field clamped to its range. -/
def loadedConfiguration (m : List Byte) : Configuration :=
  let p := nearestShifts (byteAt m 142)
  let lsh := 86400 / p
  let reject := m.getD 133 0
  { status := if (rangedFields m).all fun (v, lo, hi) => decide (lo ≤ v) && decide (v ≤ hi) then .good else .clamped
    inputs := (List.range 16).map (loadInput m)
    qualMs := byteAt m 48
    modeTable := (List.range 64).map fun i => Mode.ofCode (byteAt m (49 + i))
    dwell := min 120 (byteAt m 113)
    associationWin := min 60 (byteAt m 114)
    serviceLimit := fieldAt m 115 2
    protectLife := (m.getD 117 0).getLsbD 0
    protectService := (m.getD 117 0).getLsbD 1
    chatterWindow := clampNat 1 60 (byteAt m 118)
    chatterLimit := clampNat 3 31 (byteAt m 119)
    wg := clampNat 10 2000 (fieldAt m 120 2)
    settle := min 500 (fieldAt m 122 2)
    hold := min 3600 (fieldAt m 124 2)
    logCritical := clampNat 1 256 (fieldAt m 126 2)
    noticeCritical := clampNat 1 64 (byteAt m 128)
    senderReject := BitVec.ofNat 31 (fieldAt m 129 4)
    chatterReject := reject.getLsbD 0
    rejectIndication := reject.getLsbD 1
    rejectProtection := reject.getLsbD 2
    rejectUnitTrip := reject.getLsbD 3
    groupReject := m.getD 134 0 &&& 0xFE
    roundLength := clampNat 2 16 (byteAt m 135)
    dropped := min 3 (byteAt m 136)
    stepThreshold := clampNat 100 50000 (fieldAt m 137 2)
    holdoverLimit := clampNat 1 255 (byteAt m 139)
    lineDelay := min 50 (byteAt m 140)
    markEnable := (m.getD 141 0).getLsbD 0
    shiftsPerDay := p
    firstBoundary := min (lsh - 1) (fieldAt m 143 4)
    lead := min (lsh / 2) (fieldAt m 147 2)
    grace := min (lsh / 2) (fieldAt m 149 2)
    checkpointEvery := clampNat 10 600 (fieldAt m 151 2)
    warningMv := warningThreshold (byteAt m 153)
    alarmMask := BitVec.ofNat 15 (fieldAt m 154 2) }

/-- Whether the memory's 256 bytes carry the check of their first 254 (R191). -/
def memoryCheckMatches (m : List Byte) : Bool :=
  m.length == 256 && fieldAt m 254 2 == (crc (m.take 254)).toNat

/-- Step 1 of START: the loaded configuration, defaults when the memory is absent or fails its check (R191). -/
def loadConfiguration : Option (List Byte) → Configuration
  | none => Configuration.defaults .faulted
  | some m => if memoryCheckMatches m then loadedConfiguration m else Configuration.defaults .faulted

/-- The station number the straps give; 31 is taken as 30 (R192). -/
def strapNumber (straps : BitVec 5) : Nat := if straps.toNat = 31 then 30 else straps.toNat

end Sys2Proof.Machine
end

