-- ==== Sys2Proof/Machine/Flags.lean ====
section
/-! DEFINITION. Everything that is a flag or is computed from flags: the time quality (R44), the sticky flags (R184), the
conditions LOG_HIGH and NOTICE_HIGH (R85, R94), the alarm causes and the two lines ALM and SMO (R193, R194, R12), the
beacon's status flags (R22) and the protection bits (R126). Views, not state (log entry 33). -/

namespace Sys2Proof.Machine

/-- The time quality of an agreement state (R44). -/
def AgreementState.quality : AgreementState → Quality
  | .anchored => 0
  | .agreed => 1
  | .holdover => 2
  | .free => 3
  | .joining => 3

/-- The time quality in force. -/
def State.quality (s : State) : Quality := s.agr.state.quality

/-- A record's or member's date is timed when its quality is 0, 1 or 2 (R98). -/
def Dating.timed (d : Dating) : Bool := decide (d.quality ≠ 3)

/-- The sticky flags in bit order (R36). -/
def StickyFlags.list (f : StickyFlags) : List Bool :=
  [f.logOverrun, f.noticeOverrun, f.noticeLoss, f.archiveLoss, f.programFault, f.eraseFault, f.protectionFault,
    f.duplicateStation, f.configFault]

/-- The sticky flags cleared by a mask, CONFIG_FAULT staying as it is (R184). -/
def StickyFlags.clearMask (f : StickyFlags) (mask : Nat) : StickyFlags :=
  { logOverrun       := f.logOverrun && !mask.testBit 0
    noticeOverrun    := f.noticeOverrun && !mask.testBit 1
    noticeLoss       := f.noticeLoss && !mask.testBit 2
    archiveLoss      := f.archiveLoss && !mask.testBit 3
    programFault     := f.programFault && !mask.testBit 4
    eraseFault       := f.eraseFault && !mask.testBit 5
    protectionFault  := f.protectionFault && !mask.testBit 6
    duplicateStation := f.duplicateStation && !mask.testBit 7
    configFault      := f.configFault }

/-- LOG_HIGH (R85). -/
def State.logHigh (s : State) : Bool := decide (s.cfg.logCritical ≤ s.log.records.length)

/-- NOTICE_HIGH (R94). -/
def State.noticeHigh (s : State) : Bool := decide (s.cfg.noticeCritical ≤ s.notices.length)

/-- The fifteen alarm causes in bit order, each present while its condition holds (R193). -/
def State.alarmCauses (s : State) : List Bool :=
  s.flags.list ++ [s.logHigh, s.noticeHigh, s.inputs.any (·.chatter), s.tally.serviceDue, decide (s.quality = 3),
    s.chA.degraded || s.chB.degraded]

/-- ALM is asserted (driven low) while a present cause has its mask bit set, and throughout reset and START (R194). -/
def State.alm (s : State) : Bool :=
  match s.phase with
  | .inReset _ => true
  | .running   => bitsNat s.alarmCauses &&& s.cfg.alarmMask.toNat != 0

/-- The second-mark output SMO: high while a pulse runs (R12). -/
def State.smo (s : State) : Bool := s.tb.pulseEnd.isSome

/-- The two bytes of beacon status flags (R22, R36). -/
def State.beaconFlags (s : State) : Nat :=
  bitsNat [s.tb.secondsKnown, s.alm, s.logHigh, s.flags.configFault, s.flags.duplicateStation]

/-- The protection bits byte (R36, R126). -/
def State.protectionBits (s : State) : Nat :=
  bitsNat [s.tally.protectLife, s.lockLife, s.tally.protectService, s.lockService]

end Sys2Proof.Machine
end

