-- ==== Sys2Proof/Machine/Ops.lean ====
section
/-! DEFINITION. The shared operations over the blocks: station instants and dating, access to a channel and to a region,
the record store's queue and staging image (R160 to R168), appending a trip log record (R79, R80, R83), and queuing a
telegram to both transmit lists (R21, R25). Every meaning that appends, requests a checkpoint or sends does so here. -/

namespace Sys2Proof.Machine

/-! ## Lists and time -/

/-- The list with its `i`-th element changed by `f`; unchanged where there is none. -/
def modifyAt {α : Type} (f : α → α) : List α → Nat → List α
  | [], _ => []
  | x :: xs, 0 => f x :: xs
  | x :: xs, i + 1 => x :: modifyAt f xs i

/-- The list without its last element that `p` holds of. -/
def dropLastWhere {α : Type} (p : α → Bool) (l : List α) : List α := (l.reverse.eraseP p).reverse

/-- The station instant S × 1,000,000 + U (1.2). -/
def StationTime.instant (t : StationTime) : Nat := t.s * 1000000 + t.u

/-- The station time of an instant, with the carries of R2. -/
def StationTime.ofInstant (n : Nat) : StationTime := ⟨n / 1000000, n % 1000000⟩

/-- The highest station instant, 4,294,967,295 s 999,999 µs (R2). -/
def topInstant : Nat := 4294967295999999

/-- The later of two station times. -/
def StationTime.later (a b : StationTime) : StationTime := if a.instant < b.instant then b else a

/-- S, U, G and the time quality as they stand (R8). -/
def State.dating (s : State) : Dating := ⟨s.tb.time, s.tb.g, s.quality⟩

/-- The current station instant. -/
def State.instant (s : State) : Nat := s.tb.time.instant

/-- Whether the part runs: it is neither held in reset nor waiting for START. -/
def State.isRunning (s : State) : Bool := decide (s.phase = .running)

/-- An instant kept as an elapsed count has been reached (log entry 3). -/
def State.reached (s : State) : Option Nat → Bool
  | some t => decide (t ≤ s.tb.elapsed)
  | none   => false

/-- The supply monitor is NORMAL. -/
def State.supplyNormal (s : State) : Bool := decide (s.supply.state = .normal)

/-! ## Channels and regions -/

/-- The line controller of a channel. -/
def State.line (s : State) : Channel → LineController
  | .a => s.chA
  | .b => s.chB

/-- The state with the line controller of a channel replaced. -/
def State.setLine (s : State) : Channel → LineController → State
  | .a, lc => { s with chA := lc }
  | .b, lc => { s with chB := lc }

/-- What a region keeps. -/
def Store.region (st : Store) : Region → RegionState
  | .journal => st.journal
  | .shifts  => st.shifts
  | .trips   => st.trips

/-- The store with a region's state replaced. -/
def Store.setRegion (st : Store) : Region → RegionState → Store
  | .journal, r => { st with journal := r }
  | .shifts, r  => { st with shifts := r }
  | .trips, r   => { st with trips := r }

/-- The region's pages that are not left out, in ring order from its first (R155, R167). -/
def Store.usablePages (st : Store) (r : Region) : List Nat := r.pages.filter fun p => !st.leftOut.contains p

/-- A region accepts no writes while its stopped mark is set or it has fewer than two usable pages (R168). -/
def Store.regionStopped (st : Store) (r : Region) : Bool :=
  (st.region r).stopped || decide ((st.usablePages r).length < 2)

/-- The append point of a region: the first slot of its active page not yet begun (R157). -/
def Store.appendPoint (st : Store) (r : Region) : Option (Nat × Nat) :=
  match (st.region r).active with
  | some p => if (st.region r).slot < r.slots then some (p, (st.region r).slot) else none
  | none => none

/-! ## The write queue and the staging image -/

/-- The region an entry is written to (R155). -/
def EntryKind.region : EntryKind → Region
  | .powerFail  => .journal
  | .archive _  => .trips
  | .shift _    => .shifts
  | .checkpoint => .journal

/-- The priority of an entry, 1 the highest (R160). -/
def EntryKind.priority : EntryKind → Nat
  | .powerFail  => 1
  | .archive _  => 2
  | .shift _    => 3
  | .checkpoint => 4

/-- Whether an entry refers to the staging image (R160). -/
def EntryKind.isImage : EntryKind → Bool
  | .powerFail  => true
  | .checkpoint => true
  | _           => false

/-- Whether an entry copies a closed shift record. -/
def EntryKind.isShift : EntryKind → Bool
  | .shift _ => true
  | _        => false

/-- Whether an entry copies a trip log record. -/
def EntryKind.isArchive : EntryKind → Bool
  | .archive _ => true
  | _          => false

/-- An entry as it is queued. -/
def Entry.fresh (k : EntryKind) : Entry := { kind := k, busy := false, failedOnce := false, retryNext := false }

/-- Whether an entry may be removed to make a place: its record is neither being programmed nor awaiting its retry
(R161, log entry 17). -/
def Entry.removable (e : Entry) : Bool := !e.busy && !e.failedOnce

/-- The state with ARCHIVE_LOSS set. -/
def State.loseArchive (s : State) : State := { s with flags := { s.flags with archiveLoss := true } }

/-- A checkpoint's content taken from live state (R162). -/
def State.snapshot (s : State) : Checkpoint :=
  { time := s.tb.time, quality := s.quality, f := s.agr.f, lifetime := s.tally.lifetime, entries := s.tally.entries,
    tripStops := s.tally.tripStops, normalStops := s.tally.normalStops, service := s.tally.service,
    serviceDue := s.tally.serviceDue, protectLife := s.tally.protectLife, protectService := s.tally.protectService,
    accepted := s.tally.accepted, nextLog := s.log.next, shift := s.shift.current }

/-- The checkpoint interval timer started again, one interval ahead (R163). -/
def State.restartTimer (s : State) : State :=
  { s with store := { s.store with timer := some (s.tb.elapsed + s.cfg.checkpointEvery * 1000000) } }

/-- A new entry at the newest end of the write queue. -/
def State.enqueue (s : State) (k : EntryKind) : State :=
  { s with store := { s.store with queue := s.store.queue ++ [Entry.fresh k] } }

/-- The write queue holds 16 entries (R160). -/
def Store.queueFull (st : Store) : Bool := decide (16 ≤ st.queue.length)

/-- The entry kind under which the staging image is queued. -/
def Image.entryKind (i : Image) : EntryKind := if i.powerFail then .powerFail else .checkpoint

/-- Whether the FILLED image waits for a place: no entry of the queue refers to it (R161). -/
def Store.imageWaits (st : Store) : Bool :=
  decide (st.image.state = .filled) && !st.queue.any (·.kind.isImage)

/-- A waiting image joins the queue, at its priority, at the first moment a place is free (R161). -/
def State.placeImage (s : State) : State :=
  if s.store.imageWaits && !s.store.queueFull then s.enqueue s.store.image.entryKind else s

/-- A place made for an arriving power-fail checkpoint: the newest shift record is removed, or the newest archive record
where there is none, and ARCHIVE_LOSS is set (R161). -/
def State.displaceNewest (s : State) : State :=
  let q := s.store.queue
  let p := fun (e : Entry) => e.removable && e.kind.isShift
  let p' := fun (e : Entry) => e.removable && e.kind.isArchive
  { s.loseArchive with store := { s.store with queue := if q.any p then dropLastWhere p q else dropLastWhere p' q } }

/-- The waiting image placed, a power-fail checkpoint finding or making a place (R161, R164). -/
def State.placeFilled (s : State) : State :=
  if s.store.imageWaits && s.store.queueFull && s.store.image.powerFail then s.displaceNewest.placeImage
  else s.placeImage

/-- The staging image filled from live state, which starts the interval timer again (R163, R164). -/
def State.fillImage (s : State) (powerFail : Bool) : State :=
  { s.restartTimer with store := { s.restartTimer.store with
      image := { s.store.image with state := .filled, content := some s.snapshot, powerFail := powerFail } } }

/-- A checkpoint dropped: the dropped-checkpoint count rises, the image is EMPTY and its pending mark clear (R168). -/
def State.dropCheckpoint (s : State) : State :=
  { s with store := { s.store with image := Image.empty, dropped := satInc 65535 s.store.dropped } }

/-- A queued checkpoint entry raised to priority 1 in place (R164). -/
def raiseImageEntry (e : Entry) : Entry := if e.kind.isImage then { e with kind := .powerFail } else e

/-- A checkpoint request handed to the staging image (R164); `powerFail` for the request of a supply warning. -/
def State.requestCheckpoint (s : State) (powerFail : Bool) : State :=
  if s.store.regionStopped .journal then
    { s with store := { s.store with dropped := satInc 65535 s.store.dropped } }
  else match s.store.image.state with
    | .empty => (s.fillImage powerFail).placeFilled
    | .filled =>
        let t := s.fillImage (s.store.image.powerFail || powerFail)
        if powerFail then
          ({ t with store := { t.store with queue := t.store.queue.map raiseImageEntry } }).placeFilled
        else t
    | .writing =>
        { s with store := { s.store with image := { s.store.image with
            pending := true, pendingFail := s.store.image.pendingFail || powerFail } } }

/-- An archive record queued for the trip archive, or dropped with ARCHIVE_LOSS (R80, R161, R168). -/
def State.queueArchive (s : State) (r : Record) : State :=
  if s.store.regionStopped .trips || s.store.queueFull then s.loseArchive else s.enqueue (.archive r)

/-- A queued checkpoint entry (priority 4) that an arriving shift record may take the place of (R161). -/
def Entry.yields (e : Entry) : Bool := e.removable && decide (e.kind = .checkpoint)

/-- A closed shift record queued for the shift archive (R140, R161, R168). -/
def State.queueShift (s : State) (c : ClosedShift) : State :=
  if s.store.regionStopped .shifts then s.loseArchive
  else if !s.store.queueFull then s.enqueue (.shift c)
  else if s.store.queue.any Entry.yields then
    State.enqueue { s with store := { s.store with queue := s.store.queue.eraseP Entry.yields } } (.shift c)
  else s.loseArchive

/-- The effect of dropping one removed entry (R168). -/
def State.dropEntry (s : State) (k : EntryKind) : State := if k.isImage then s.dropCheckpoint else s.loseArchive

/-- What a region's stopping removes (R168): each of its entries in the queue, with the effect of its kind; a filled
image that waits for a place is dropped with the journal's entries (log entry 36). -/
def State.stopWrites (s : State) (r : Region) : State :=
  let gone := s.store.queue.filter fun e => decide (e.kind.region = r)
  let waits := decide (r = .journal) && s.store.imageWaits
  let t := gone.foldl (fun u e => u.dropEntry e.kind)
    { s with store := { s.store with queue := s.store.queue.filter fun e => !decide (e.kind.region = r) } }
  (if waits then t.dropCheckpoint else t).placeImage

/-! ## The trip log -/

/-- A record written to the ring; with 256 held, the oldest gives way (R83). -/
def TripLog.push (l : TripLog) (r : Record) : TripLog :=
  if l.records.length < 256 then { l with records := l.records ++ [r], next := (l.next + 1) % 65536 }
  else { records := l.records.tail ++ [r], get := (l.get + 1) % 256, next := (l.next + 1) % 65536 }

/-- A record appended: it takes the next log sequence, is written to the log, and is handed to the record store
(R79, R80, R83). -/
def State.append (s : State) (dating : Dating) (body : RecordBody) : State :=
  let r : Record := { seq := s.log.next, dating := dating, body := body }
  State.queueArchive
    { s with
      log := s.log.push r
      flags := { s.flags with logOverrun := s.flags.logOverrun || decide (256 ≤ s.log.records.length) } } r

/-- A record dated at its appending (R77). -/
def State.appendNow (s : State) (body : RecordBody) : State := s.append s.dating body

/-! ## Transmit lists -/

/-- A BEACON in the list that is not being sent (R25). -/
def Copy.pendingBeacon (c : Copy) : Bool := decide (c.kind = .beacon) && !c.sending

/-- Whether the list takes a copy of a kind (R25): a beacon replaces a pending one; otherwise there must be room. -/
def LineController.takes (lc : LineController) (k : TelegramKind) : Bool :=
  (decide (k = .beacon) && lc.list.any Copy.pendingBeacon) || decide (lc.list.length < 8)

/-- A copy joins the newest place of the list, a beacon replacing a pending one; if the channel is quiet and no deferral
is counted, one starts at this instant (R24, R25, R26). Where two beacons are pending, one of them taken back after a
collision (R27), the new one replaces both, which is the model's choice (log entry 39). -/
def LineController.enter (lc : LineController) (now : Nat) (c : Copy) : LineController :=
  { lc with
    list := (if c.kind = .beacon then lc.list.filter fun x => !x.pendingBeacon else lc.list) ++ [c]
    deferral := if lc.quiet && lc.deferral.isNone then some now else lc.deferral }

/-- A copy offered to one transmit list (R25). -/
def LineController.offer (lc : LineController) (now : Nat) (c : Copy) : LineController :=
  if lc.takes c.kind then lc.enter now c else lc

/-- A telegram takes the next sender sequence and is queued to both transmit lists; a lost TRIP NOTICE copy sets
NOTICE_LOSS, and an ANSWER with a copy lost is counted once (R21, R25). -/
def State.send (s : State) (kind : TelegramKind) (target : Nat) (payload : List Byte) : State :=
  let lost := !s.chA.takes kind || !s.chB.takes kind
  let lostAnswer := lost && decide (kind = .answer)
  let c : Copy :=
    { kind := kind, target := target, seq := s.senderSeq, payload := payload, retried := false, sending := false,
      lossCounted := lostAnswer }
  { s with
    senderSeq := (s.senderSeq + 1) % 65536
    chA := s.chA.offer s.tb.elapsed c
    chB := s.chB.offer s.tb.elapsed c
    flags := { s.flags with noticeLoss := s.flags.noticeLoss || (lost && decide (kind = .tripNotice)) }
    req := { s.req with lostAnswers := if lostAnswer then satInc 65535 s.req.lostAnswers else s.req.lostAnswers } }

/-- Something driven out (log entry 22). -/
def State.emit (s : State) (o : Output) : State := { s with out := s.out ++ [o] }

end Sys2Proof.Machine
end

