-- ==== Sys2Proof/Machine/StoreOps.lean ====
section
/-! DEFINITION. The record store's controller (spec/09): the roles of pages and the page change (R157), the choice and the
writing of a record (R158 to R160), erases (R165 to R167), the supply warning (R170), what a reset leaves of the array
(R154), the recovery scan (R172, R173) and the reading of records (R174). -/

namespace Sys2Proof.Machine

/-! ## Pages and their roles (R155, R157) -/

/-- A slot that is not blank. -/
def Slot.written (x : Slot) : Bool := decide (x ≠ .blank)

/-- A valid slot (R156). -/
def Slot.isValid : Slot → Bool
  | .valid _ _ => true
  | _ => false

/-- A page in which every slot is blank. -/
def Page.isBlank (p : Page) : Bool := p.slots.all fun x => !x.written

/-- Page `p` of the array. -/
def Store.page (st : Store) (p : Nat) : Page := st.pages.getD p (Page.blankOf (regionOfPage p))

/-- A slot of a page set. -/
def Store.setSlot (st : Store) (p i : Nat) (x : Slot) : Store :=
  { st with pages := modifyAt (fun g => { g with slots := g.slots.set i x }) st.pages p }

/-- A page that is queued for erase, under erase, abandoned or left out. -/
def Store.outOfUse (st : Store) (p : Nat) : Bool :=
  st.eraseList.contains p || decide (st.erase.map (·.page) = some p) || decide (st.abandoned = some p)
    || st.leftOut.contains p

/-- The pages of a region that follow its active page in ring order (R155). -/
def Store.ringAfter (st : Store) (r : Region) : List Nat :=
  match (st.region r).active with
  | some a => (r.pages.dropWhile (· ≠ a)).tail ++ r.pages.takeWhile (· ≠ a)
  | none   => r.pages

/-- A page that is neither active nor ready nor out of use. -/
def Store.idlePage (st : Store) (r : Region) (p : Nat) : Bool :=
  decide ((st.region r).active ≠ some p) && decide ((st.region r).ready ≠ some p) && !st.outOfUse p

/-- The first blank page after the active one in ring order (R157). -/
def Store.nextBlank (st : Store) (r : Region) : Option Nat :=
  (st.ringAfter r).find? fun p => st.idlePage r p && (st.page p).isBlank

/-- The oldest used page: the first used page after the active one in ring order (R157). -/
def Store.oldestUsed (st : Store) (r : Region) : Option Nat :=
  (st.ringAfter r).find? fun p => st.idlePage r p && !(st.page p).isBlank

/-- The region's oldest used page added to the erase list, where there is one. -/
def Store.queueOldest (st : Store) (r : Region) : Store :=
  match st.oldestUsed r with
  | some p => { st with eraseList := st.eraseList ++ [p] }
  | none   => st

/-- Steps 2 and 3 of a page change: another blank page becomes ready, or the oldest used page is queued for erase
(R157; in every case alike, log entry 45). -/
def Store.prepareReady (st : Store) (r : Region) : Store :=
  match st.nextBlank r with
  | some p => st.setRegion r { st.region r with ready := some p }
  | none   => st.queueOldest r

/-- A page change (R157). DESIGN CHOICE (log entry 45, unsafe): step 3 is taken at every one, also while another page of the
region is queued or under erase already. -/
def Store.pageChange (st : Store) (r : Region) : Store :=
  let t := match (st.region r).ready with
    | some p => st.setRegion r { st.region r with active := some p, slot := 0, ready := none }
    | none   => st
  t.prepareReady r

/-- The append point moved past a slot, with a page change when it was the page's last (R157). -/
def Store.moveAppendPoint (st : Store) (r : Region) : Store :=
  let t := st.setRegion r { st.region r with slot := (st.region r).slot + 1 }
  if (t.region r).slot < r.slots then t else t.pageChange r

/-! ## Writing a record (R158 to R160) -/

/-- Whether a read is waiting for the store (R174). -/
def State.readWaiting (s : State) : Bool :=
  match s.req.service with
  | some (.storeRead _) => true
  | _ => false

/-- Whether an entry's region has an append point. -/
def Store.servable (st : Store) (e : Entry) : Bool := (st.appendPoint e.kind.region).isSome

/-- The place in the queue of the oldest entry of a priority that can be served. -/
def Store.oldestOf (st : Store) (priority : Nat) : Option Nat :=
  st.queue.findIdx? fun e => decide (e.kind.priority = priority) && st.servable e

/-- The entry the controller serves next: a retry that is due, then the highest priority, within it the oldest (R159,
R160; log entry 16). -/
def Store.nextEntry (st : Store) : Option Nat :=
  (st.queue.findIdx? fun e => e.retryNext && st.servable e).or
    ((st.oldestOf 1).or ((st.oldestOf 2).or ((st.oldestOf 3).or (st.oldestOf 4))))

/-- Whether an erase is running (R154). -/
def Store.eraseRunning (st : Store) : Bool :=
  match st.erase with
  | some e => e.running
  | none   => false

/-- A record's programming begun at the append point of its region with the region's next store sequence (R158); the
staging image becomes WRITING (R164). -/
def Store.beginRecord (st : Store) (i : Nat) (e : Entry) (page slot : Nat) : Store :=
  let r := e.kind.region
  let seq := (st.region r).nextSeq
  let t := st.setRegion r { st.region r with nextSeq := (seq + 1) % 4294967296 }
  { t with
    queue := modifyAt (fun x => { x with busy := true, retryNext := false }) t.queue i
    programming := some { region := r, page := page, slot := slot, seq := seq }
    image := if e.kind.isImage then { t.image with state := .writing } else t.image }

/-- The record that an entry writes (R158). -/
def Store.contentOf (st : Store) (e : Entry) : Option StoredRecord :=
  match e.kind with
  | .archive r => some (.archive r)
  | .shift c   => some (.shift c)
  | _          => st.image.content.map .checkpoint

/-- The end of the image's write (R164): EMPTY, and a pending mark fills it again. -/
def State.endImageWrite (s : State) : State :=
  let i := s.store.image
  let t : State := { s with store := { s.store with image := Image.empty } }
  if i.pending then t.requestCheckpoint i.pendingFail else t

/-- A record programmed whole (R158): the slot is valid, the entry leaves the queue, the append point moves, the image's
write ends, and a waiting image takes the freed place. -/
def State.recordWritten (s : State) (p : Programming) (i : Nat) (e : Entry) : State :=
  let st := match s.store.contentOf e with
    | some c => s.store.setSlot p.page p.slot (.valid p.seq c)
    | none   => s.store
  let st' : Store := { st with queue := st.queue.eraseIdx i, programming := none }
  let t : State := { s with store := st'.moveAppendPoint p.region }
  (if e.kind.isImage then t.endImageWrite else t).placeImage

/-- The sticky flag of a store fault set. -/
def State.setStoreFlag (s : State) : StoreFault → State
  | .program => { s with flags := { s.flags with programFault := true } }
  | .erase   => { s with flags := { s.flags with eraseFault := true } }

/-- A record whose word failed verification (R159): the slot is left incomplete and the append point moves; the first
failure leaves a retry due, the second stops the region. -/
def State.recordFailed (s : State) (p : Programming) (i : Nat) (e : Entry) : State :=
  let st := Store.moveAppendPoint { s.store.setSlot p.page p.slot .incomplete with programming := none } p.region
  if e.failedOnce then
    let t := State.setStoreFlag
      { s with store := st.setRegion p.region { st.region p.region with stopped := true } } .program
    (t.appendNow (.storeFault p.region .program p.page)).stopWrites p.region
  else
    let due := (st.appendPoint p.region).isSome
    { s with store := { st with
        queue := modifyAt (fun x => { x with busy := false, failedOnce := true, retryNext := due }) st.queue i } }

/-! ## Erases (R165 to R167) and the supply warning (R170) -/

/-- The running time of an erase at an elapsed count (R165). -/
def EraseInHand.runningTime (e : EraseInHand) (now : Nat) : Nat := e.ran + if e.running then now - e.since else 0

/-- An erase begun: the first page leaves the list and its records are gone from then on (R165). -/
def Store.beginErase (st : Store) (p : Nat) (rest : List Nat) (now : Nat) : Store :=
  { st with
    eraseList := rest
    erase := some { page := p, running := true, ran := 0, since := now }
    pages := modifyAt (fun g => { g with disturbed := true }) st.pages p }

/-- An erase completed: the page reads blank and takes its place in its region (R157), with the further page change's
step 3 as in `Store.pageChange` (log entry 45). -/
def Store.completeErase (st : Store) (p : Nat) : Store :=
  let r := regionOfPage p
  let t : Store := { st with erase := none, pages := modifyAt (fun _ => Page.blankOf r) st.pages p }
  if (t.appendPoint r).isNone then
    (t.setRegion r { t.region r with active := some p, slot := 0 }).prepareReady r
  else if (t.region r).ready.isNone then t.setRegion r { t.region r with ready := some p }
  else t

/-- An erase that has failed: the page is left out, STORE_FAULT appended, and its region left a page shorter or stopped
(R167). -/
def State.failErase (s : State) (p : Nat) : State :=
  let r := regionOfPage p
  let t := State.setStoreFlag
    { s with store := { s.store with erase := none, leftOut := s.store.leftOut ++ [p] } } .erase
  let u := t.appendNow (.storeFault r .erase p)
  if (u.store.usablePages r).length < 2 then u.stopWrites r
  else if (u.store.region r).ready.isNone then { u with store := u.store.queueOldest r }
  else u

/-- What the store does at a warning (R170): an erase in hand is abandoned and a power-fail checkpoint requested. -/
def State.warnStore (s : State) : State :=
  let t : State := match s.store.erase with
    | some e => { s with store := { s.store with erase := none, abandoned := some e.page } }
    | none   => s
  t.requestCheckpoint true

/-! ## What a reset leaves of the array (R154, log entry 8) -/

/-- A slot of a page whose erase was cut off: something between what it held and blank, by a free value. -/
def Slot.cut (v : BitVec 2) : Slot → Slot
  | .blank => .blank
  | .incomplete => if v = 0 then .blank else .incomplete
  | .torn => if v = 0 then .blank else if v = 1 then .incomplete else .torn
  | .valid seq c =>
      if v = 0 then .blank else if v = 1 then .incomplete else if v = 2 then .torn else .valid seq c

/-- The slots of a disturbed page as a reset leaves them. -/
def Page.settle (index number : Nat) (g : Page) : Page :=
  if g.disturbed then
    { slots := g.slots.mapIdx fun i x => x.cut (Config.cutErase index number i), disturbed := false }
  else g

/-- The slot of a record whose programming a reset cuts off. -/
def cutRecord (v : BitVec 2) (seq : Nat) : Option StoredRecord → Slot
  | some c => if v = 0 then .blank else if v = 1 then .valid seq c else .incomplete
  | none   => if v = 0 then .blank else .incomplete

/-- The array as a reset leaves it: a record in programming and every disturbed page in an unknown state (R154). -/
def Store.cutOff (st : Store) (index : Nat) : List Page :=
  let t : Store := match st.programming with
    | some p => st.setSlot p.page p.slot (cutRecord (Config.cutProgram index) p.seq
        ((st.queue.find? Entry.busy).bind st.contentOf))
    | none   => st
  t.pages.mapIdx fun n g => g.settle index n

/-! ## The recovery scan (R172, R173) -/

/-- No slot that is not blank follows a blank slot. -/
def noGap : List Slot → Bool
  | [] => true
  | x :: xs => if x.written then noGap xs else xs.all fun y => !y.written

/-- The classes of a page (R172). -/
inductive PageClass where
  | blank
  | used
  | inconsistent
  deriving DecidableEq, Repr

/-- The class of a page (R172). -/
def Page.classify (g : Page) : PageClass :=
  if g.isBlank then .blank
  else if g.slots.any Slot.isValid && noGap g.slots then .used
  else .inconsistent

/-- Whether the last slot of a page that is not blank is incomplete (R172). -/
def Page.interrupted (g : Page) : Bool :=
  match (g.slots.filter Slot.written).getLast? with
  | some x => decide (x = .incomplete)
  | none   => false

/-- The valid records among slots, with their store sequences. -/
def validRecords (slots : List Slot) : List (Nat × StoredRecord) :=
  slots.filterMap fun
    | .valid seq c => some (seq, c)
    | _ => none

/-- The record of highest store sequence. -/
def newestRecord (l : List (Nat × StoredRecord)) : Option (Nat × StoredRecord) :=
  l.foldl (fun best x => match best with
    | some b => if b.1 < x.1 then some x else best
    | none   => some x) none

/-- The pages of a region of a class, in page order. -/
def Store.pagesOfClass (st : Store) (r : Region) (k : PageClass) : List Nat :=
  r.pages.filter fun p => decide ((st.page p).classify = k)

/-- The newest valid record of some pages. -/
def Store.newestAmong (st : Store) (pages : List Nat) : Option (Nat × StoredRecord) :=
  newestRecord (pages.flatMap fun p => validRecords (st.page p).slots)

/-- The newest valid record of a region's used pages, which names its active page (R173). -/
def Store.newestUsed (st : Store) (r : Region) : Option (Nat × StoredRecord) := st.newestAmong (st.pagesOfClass r .used)

/-- The valid record of highest store sequence in a region, whatever the class of its page (R173; log entry 40): the latest
valid checkpoint, the newest valid archive record. -/
def Store.newestIn (st : Store) (r : Region) : Option (Nat × StoredRecord) := st.newestAmong r.pages

/-- The next store sequence of a region: one more than its highest valid one, 0 with no valid slot (R173). -/
def Store.sequenceAfter (st : Store) (r : Region) : Nat :=
  match st.newestIn r with
  | some (seq, _) => (seq + 1) % 4294967296
  | none => 0

/-- The used page that holds a store sequence. -/
def Store.pageHolding (st : Store) (r : Region) (seq : Nat) : Option Nat :=
  (st.pagesOfClass r .used).find? fun p => (validRecords (st.page p).slots).any fun x => x.1 == seq

/-- A region settled from its used pages (R173; log entries 19 and 40): active page and append point, next store sequence,
ready page, with a page change where the active page is full, and the oldest used page queued for erase where no ready page
is found. -/
def Store.settleRegion (st : Store) (r : Region) : Store :=
  match st.newestUsed r with
  | some (seq, _) =>
      let active := st.pageHolding r seq
      let slot := match active with
        | some p => ((st.page p).slots.filter Slot.written).length
        | none   => 0
      let t := st.setRegion r
        { active := active, slot := slot, ready := none, nextSeq := st.sequenceAfter r, stopped := false }
      let u := match t.nextBlank r with
        | some p => t.setRegion r { t.region r with ready := some p }
        | none   => t
      if r.slots ≤ slot then u.pageChange r
      else if (u.region r).ready.isNone then u.queueOldest r
      else u
  | none =>
      (st.setRegion r
        { active := (st.pagesOfClass r .blank).head?, slot := 0, ready := none, nextSeq := st.sequenceAfter r
          stopped := false }).prepareReady r

/-- What the scan finds for the START record (R173). -/
structure ScanFindings where
  checkpoint  : Option (Nat × Checkpoint)
  newest      : Option Nat
  torn        : Nat
  queued      : Nat
  interrupted : Bool
  deriving DecidableEq, Repr

/-- Every page number of the array. -/
def allPages : List Nat := List.range 16

/-- The used pages of the array. -/
def Store.usedPages (st : Store) : List Nat := allPages.filter fun p => decide ((st.page p).classify = .used)

/-- The store after the recovery scan (R172, R173): inconsistent pages queued for erase in page order, each region
settled, both orders being the model's choice (log entry 19). -/
def Store.scan (st : Store) : Store :=
  let t : Store := { st with eraseList := allPages.filter fun p => decide ((st.page p).classify = .inconsistent) }
  ((t.settleRegion .journal).settleRegion .shifts).settleRegion .trips

/-- The findings of the scan (R172, R173). -/
def Store.findings (st : Store) : ScanFindings :=
  { checkpoint := match st.newestIn .journal with
      | some (seq, .checkpoint c) => some (seq, c)
      | _ => none
    newest := match st.newestIn .trips with
      | some (_, .archive r) => some r.seq
      | _ => none
    torn := min 255 ((st.usedPages.map fun p => ((st.page p).slots.filter fun x => decide (x = .torn)).length).sum)
    queued := st.scan.eraseList.length
    interrupted := st.usedPages.any fun p => (st.page p).interrupted }

/-! ## Reading (R174) -/

/-- A record put in its place among records of descending store sequence. -/
def insertDescending (x : Nat × StoredRecord) : List (Nat × StoredRecord) → List (Nat × StoredRecord)
  | [] => [x]
  | y :: ys => if y.1 ≤ x.1 then x :: y :: ys else y :: insertDescending x ys

/-- Records sorted by store sequence, the highest first. -/
def sortDescending (l : List (Nat × StoredRecord)) : List (Nat × StoredRecord) := l.foldr insertDescending []

/-- A page that can be read: not taken for erase, abandoned or left out, and no erase of it begun and not completed, since
its records are gone from the moment its erase begins (R165, R174, log entries 32 and 34). -/
def Store.readable (st : Store) (p : Nat) : Bool :=
  decide (st.erase.map (·.page) ≠ some p) && decide (st.abandoned ≠ some p) && !st.leftOut.contains p
    && !(st.page p).disturbed

/-- The valid records of a region, the highest store sequence first (R174). -/
def Store.recordsDown (st : Store) (r : Region) : List (Nat × StoredRecord) :=
  sortDescending ((r.pages.filter st.readable).flatMap fun p => validRecords (st.page p).slots)

/-- The archive records that READ ARCHIVE counts, from the newest (R174). -/
def Store.archiveDown (st : Store) : List Record :=
  (st.recordsDown .trips).filterMap fun
    | (_, .archive r) => some r
    | _ => none

/-- The closed shift records that READ SHIFT counts from index 1 on, with the store sequence of a programmed one: those
still in the write queue first, newest first, then the programmed ones (R153, R174). -/
def Store.shiftsDown (st : Store) : List (ClosedShift × Option Nat) :=
  (st.queue.reverse.filterMap fun e => match e.kind with
    | .shift c => some (c, none)
    | _ => none)
  ++ (st.recordsDown .shifts).filterMap fun
    | (seq, .shift c) => some (c, some seq)
    | _ => none

end Sys2Proof.Machine
end

