-- ==== Sys2Proof/Machine/GroupOps.lean ====
section
/-! DEFINITION. The group table (spec/06): list order and rank (R98), the window and the close instant (R95), opening,
admitting, straying and closing (R99 to R105). -/

namespace Sys2Proof.Machine

/-- The entry of group `g`, 1 to 7. -/
def State.group (s : State) (g : Nat) : Group := s.groups.getD (g - 1) Group.idle

/-- The state with the entry of group `g` replaced; a number outside 1 to 7 names no group. -/
def State.setGroup (s : State) (g : Nat) (x : Group) : State :=
  if 1 ≤ g ∧ g ≤ 7 then { s with groups := s.groups.set (g - 1) x } else s

/-- A member's date as a station instant. -/
def Member.instant (m : Member) : Nat := m.dating.time.instant

/-- List order: earlier date first, then lower station, then lower input (R98). -/
def Member.before (a b : Member) : Bool :=
  decide (a.instant < b.instant ∨ (a.instant = b.instant ∧ (a.station < b.station ∨
    (a.station = b.station ∧ a.input < b.input))))

/-- The member put at its place in list order; one equal in all three to a listed member goes after it (R98). -/
def insertMember (m : Member) : List Member → List Member
  | [] => [m]
  | x :: xs => if m.before x then m :: x :: xs else x :: insertMember m xs

/-- The position of the first timed member, from position `i` on. -/
def firstTimed : List Member → Nat → Option Nat
  | [], _ => none
  | m :: ms, i => if m.dating.timed then some i else firstTimed ms (i + 1)

/-- The position of the best-ranked member: the first timed one, or the first where none is timed (R98). -/
def bestRanked (ms : List Member) : Option Nat :=
  match firstTimed ms 0 with
  | some i => some i
  | none   => if ms.isEmpty then none else some 0

/-- The lower bound of the window, 0 where it would fall below (R95). -/
def Configuration.windowFrom (c : Configuration) (t0 : StationTime) : Nat := t0.instant - c.wg * 1000

/-- The upper bound of the window (R95). -/
def Configuration.windowTo (c : Configuration) (t0 : StationTime) : Nat := t0.instant + c.wg * 1000

/-- The close instant (R95). -/
def Configuration.closeInstant (c : Configuration) (t0 : StationTime) : Nat := t0.instant + (c.wg + c.settle) * 1000

/-- Whether an OPEN group's close instant has been reached by station time (R103). -/
def State.groupDue (s : State) (g : Nat) : Bool :=
  match (s.group g).state, (s.group g).t0 with
  | .opened, some t0 => decide (s.cfg.closeInstant t0 ≤ s.instant)
  | _, _ => false

/-- One first-out more in the open shift (R103). -/
def State.countFirstOut (s : State) : State :=
  { s with shift := { s.shift with current := { s.shift.current with
      firstOuts := satInc 16777215 s.shift.current.firstOuts } } }

/-- The group after its close, its hold ending at `holdEnd` (R103). -/
def Group.close (x : Group) (holdEnd : Option Nat) : Group := { x with state := .closed, holdEnd := holdEnd }

/-- The hold end of a group that closes now; none with a hold of 0 (R103). -/
def State.holdEndNow (s : State) : Option Nat :=
  if s.cfg.hold = 0 then none else some (s.tb.elapsed + s.cfg.hold * 1000000)

/-- A group opened by its first member (R99). -/
def Group.openedBy (m : Member) : Group :=
  { state := .opened, t0 := some m.dating.time, members := [m], overflow := 0, firstOut := some 0, holdEnd := none }

/-- The group closes: it becomes CLOSED with its hold end, GROUP_CLOSE is appended, and an own first-out is counted in
the open shift (R103). -/
def State.closeGroup (s : State) (g : Nat) : State :=
  let x := s.group g
  let t := s.setGroup g (x.close s.holdEndNow)
  match x.firstOut.bind fun i => x.members[i]? with
  | none => t
  | some m =>
      let u := t.appendNow (.groupClose g m x.members.length x.overflow)
      if m.station = s.ownNumber then u.countFirstOut else u

/-- A GROUP_STRAY record for a member (R101, R105, R107). -/
def State.strayMember (s : State) (g : Nat) (m : Member) (why : StrayReason) : State :=
  s.appendNow (.groupStray g why m.station m.input m.logSeq m.dating.time)

/-- A member opens an IDLE group, which closes at once if its close instant has been reached (R99). -/
def State.openGroup (s : State) (g : Nat) (m : Member) : State :=
  let t := s.setGroup g (Group.openedBy m)
  if t.groupDue g then t.closeGroup g else t

/-- A member within the window of an OPEN group joins the list, or is counted in overflow when it holds 16 (R100). -/
def Group.takeMember (x : Group) (m : Member) : Group :=
  if x.members.length < 16 then
    { x with members := insertMember m x.members, firstOut := bestRanked (insertMember m x.members) }
  else { x with overflow := satInc 255 x.overflow }

/-- A member handed to group `g` is taken whole by its entry (R102). -/
def State.handMember (s : State) (g : Nat) (m : Member) : State :=
  let x := s.group g
  match x.state, x.t0 with
  | .opened, some t0 =>
      if m.instant < s.cfg.windowFrom t0 then s.strayMember g m .beforeWindow
      else if s.cfg.windowTo t0 < m.instant then s.strayMember g m .afterWindow
      else s.setGroup g (x.takeMember m)
  | .closed, _ => s.strayMember g m .afterClose
  | _, _ => s.openGroup g m

/-- Group `g` closes where it is due; a number outside 1 to 7 names no group (R103). -/
def State.closeIfDue (s : State) (g : Nat) : State :=
  if decide (1 ≤ g ∧ g ≤ 7) && s.groupDue g then s.closeGroup g else s

/-- The groups of a list that are due close, in the list's order (R104). -/
def State.closeDue (s : State) (gs : List Nat) : State := gs.foldl State.closeIfDue s

end Sys2Proof.Machine
end

