-- ==== Sys2Proof/Machine/TallyOps.lean ====
section
/-! DEFINITION. The tally unit (spec/07): crediting (R118, R119), the service limit (R125), acceptance (R120 to R123), and
what a qualified combination does (R114 to R116). -/

namespace Sys2Proof.Machine

/-- The modes in which the unit turns (R111). -/
def Mode.running : Mode → Bool
  | .standstill => false
  | .isolated   => false
  | _           => true

/-- The top of a lifetime or service tally, 2^47 − 1 ms (R119). -/
def tallyTop : Nat := 140737488355327

/-- The top of a 24-bit count (R119). -/
def countTop : Nat := 16777215

/-- The top of a shift duration (R119). -/
def durationTop : Nat := 4294967295

/-- The tally unit's part of the open shift record changed. -/
def State.modShift (s : State) (f : ShiftRecord → ShiftRecord) : State :=
  { s with shift := { s.shift with current := f s.shift.current } }

/-- The service limit's threshold in ms; none with a limit of 0 (R125). -/
def Configuration.serviceThreshold (c : Configuration) : Option Nat :=
  if c.serviceLimit = 0 then none else some (c.serviceLimit * 3600000)

/-- The service tally stands at or above the threshold (R125). -/
def State.serviceReached (s : State) : Bool :=
  match s.cfg.serviceThreshold with
  | some t => decide (t ≤ s.tally.service)
  | none   => false

/-- The service-due state set or cleared. -/
def State.setServiceDue (s : State) (b : Bool) : State := { s with tally := { s.tally with serviceDue := b } }

/-- The service tally judged after a tick or an acceptance: reaching the threshold with service-due clear sets it and
appends SERVICE_DUE (R125). -/
def State.judgeService (s : State) : State :=
  if !s.tally.serviceDue && s.serviceReached then
    (s.setServiceDue true).appendNow (.serviceDue s.tally.service)
  else s

/-- One tick more in the latch, in ds too where the tick was credited to the open shift; a tick at the onset's own
elapsed count is not counted (R113, R119). -/
def StatusTest.count (t : StatusTest) (now : Nat) (inShift : Bool) : StatusTest :=
  if t.elapsed < now then { t with d := t.d + 1, ds := t.ds + inShift.toNat } else t

/-- One tick more in the candidate, in the same way (R113). -/
def Candidate.count (c : Candidate) (now : Nat) (inShift : Bool) : Candidate :=
  if c.elapsed < now then { c with d := c.d + 1, ds := c.ds + inShift.toNat } else c

/-- One millisecond credited to the open shift (R118); at the top of the powered duration, to nothing of it (R119). -/
def ShiftRecord.credit (r : ShiftRecord) (m : Mode) : ShiftRecord :=
  if r.powered < durationTop then
    { r with powered := r.powered + 1, durations := modifyAt (· + 1) r.durations m.code }
  else r

/-- The tally unit after a tick (R118): `inShift` where the tick is credited to the open shift. -/
def Tally.credit (t : Tally) (now : Nat) (inShift : Bool) : Tally :=
  { t with
    lifetime := modifyAt (satInc tallyTop) t.lifetime t.accepted.code
    service := if t.accepted.running then satInc tallyTop t.service else t.service
    qual := t.qual.map (·.count now inShift)
    candidate := t.candidate.map (·.count now inShift) }

/-- The open shift and the tallies after a tick (R118). -/
def State.creditTallies (s : State) : State :=
  { s with
    shift := { s.shift with current := s.shift.current.credit s.tally.accepted }
    tally := s.tally.credit s.tb.elapsed (decide (s.shift.current.powered < durationTop)) }

/-- An elapsed-millisecond tick credited, the service limit judged where the service tally counts (R118, R125). -/
def State.creditTick (s : State) : State :=
  if s.tally.accepted.running then s.creditTallies.judgeService else s.creditTallies

/-- The trip association decides a stop (R122): its onset lies within the association window before the candidate's. -/
def isTripStop (window : Nat) (onset : Nat) : Option Nat → Bool
  | none   => false
  | some t => decide (onset ≤ t + window * 1000000) && decide (t ≤ onset)

/-- `d` ms moved from one mode's tally to another's (R120). -/
def moveBetween (top d : Nat) (l : List Nat) (old new : Mode) : List Nat :=
  modifyAt (fun n => satAdd top n d) (modifyAt (· - d) l old.code) new.code

/-- The service tally after an acceptance (R121). -/
def serviceAfter (old new : Mode) (d service : Nat) : Nat :=
  if old.running && !new.running then service - d
  else if !old.running && new.running then satAdd tallyTop service d
  else service

/-- Whether the acceptance of `c` counts a stop (R122). -/
def State.isStop (s : State) (c : Candidate) : Bool := s.tally.accepted.running && !c.mode.running

/-- Whether the stop that the acceptance of `c` counts is a trip stop (R122). -/
def State.tripStop (s : State) (c : Candidate) : Bool :=
  s.isStop c && isTripStop s.cfg.associationWin c.elapsed s.tally.association

/-- Whether the stop that the acceptance of `c` counts is a normal stop (R122). -/
def State.normalStop (s : State) (c : Candidate) : Bool := s.isStop c && !s.tripStop c

/-- A count one higher when `b` holds, stopping at its top (R119). -/
def countIf (b : Bool) (n : Nat) : Nat := if b then satInc countTop n else n

/-- The open shift record after an acceptance: ds ms moved, the entry and any stop counted (R120, R121, R122). -/
def ShiftRecord.acceptMode (r : ShiftRecord) (old : Mode) (c : Candidate) (trip normal : Bool) : ShiftRecord :=
  { r with
    durations := moveBetween durationTop c.ds r.durations old c.mode
    entries := modifyAt (satInc countTop) r.entries c.mode.code
    tripStops := countIf trip r.tripStops
    normalStops := countIf normal r.normalStops }

/-- The lifetime and service tallies after an acceptance: d ms moved, the entry and any stop counted (R120, R121, R122). -/
def Tally.acceptMode (t : Tally) (c : Candidate) (trip normal : Bool) : Tally :=
  { t with
    lifetime := moveBetween tallyTop c.d t.lifetime t.accepted c.mode
    entries := modifyAt (satInc countTop) t.entries c.mode.code
    tripStops := countIf trip t.tripStops
    normalStops := countIf normal t.normalStops
    service := serviceAfter t.accepted c.mode c.d t.service }

/-- The tallies of an acceptance moved and counted, in the open shift and in the tally unit. -/
def State.moveTallies (s : State) (c : Candidate) : State :=
  { s with
    shift := { s.shift with
      current := s.shift.current.acceptMode s.tally.accepted c (s.tripStop c) (s.normalStop c) }
    tally := s.tally.acceptMode c (s.tripStop c) (s.normalStop c) }

/-- The new mode becomes the accepted mode and the candidate is cleared (R120). -/
def State.takeMode (s : State) (m : Mode) : State :=
  { s with tally := { s.tally with accepted := m, candidate := none } }

/-- A candidate accepted (R120 to R123): the d and ds ms moved, the service tally adjusted, the entry and any stop
counted, the service limit judged, MODE_CHANGE appended, the mode taken and a checkpoint requested (log entries 14, 28). -/
def State.accept (s : State) (c : Candidate) : State :=
  State.requestCheckpoint
    (State.takeMode
      ((s.moveTallies c).judgeService.appendNow (.modeChange s.tally.accepted c.mode c.onset (s.tripStop c)))
      c.mode)
    false

/-- Any candidate cleared, whole (R114). -/
def State.clearCandidate (s : State) : State := { s with tally := { s.tally with candidate := none } }

/-- The invalid-logged flag set or cleared (R115). -/
def State.setInvalidLogged (s : State) (b : Bool) : State := { s with tally := { s.tally with invalidLogged := b } }

/-- The candidate that an onset latch forms (R116). -/
def StatusTest.candidate (t : StatusTest) (m : Mode) (dwell : Nat) : Candidate :=
  { mode := m, elapsed := t.elapsed, onset := t.dating.time, dwellEnd := t.elapsed + dwell * 1000000, d := t.d,
    ds := t.ds }

/-- The state with a candidate set. -/
def State.setCandidate (s : State) (c : Candidate) : State := { s with tally := { s.tally with candidate := some c } }

/-- A candidate formed from the onset latch, accepted at once where its dwell has already run out (R116). -/
def State.formCandidate (s : State) (m : Mode) (t : StatusTest) : State :=
  if (t.candidate m s.cfg.dwell).dwellEnd ≤ s.tb.elapsed then s.accept (t.candidate m s.cfg.dwell)
  else s.setCandidate (t.candidate m s.cfg.dwell)

/-- The status qualifier SETTLED with a qualified combination (R112). -/
def State.settleStatus (s : State) (comb : Nat) : State :=
  { s with tally := { s.tally with qual := none, qualified := some comb } }

/-- A combination qualifies: it becomes the qualified one, is decoded through the mode table and acted on (R112, R114,
R115). -/
def State.qualifyCombination (s : State) (t : StatusTest) : State :=
  match s.cfg.modeTable.getD t.comb none with
  | none =>
      if s.tally.invalidLogged then (s.settleStatus t.comb).clearCandidate
      else ((s.settleStatus t.comb).clearCandidate.setInvalidLogged true).appendNow (.invalidCombination t.comb)
  | some m =>
      if m = s.tally.accepted then (s.settleStatus t.comb).clearCandidate.setInvalidLogged false
      else if s.tally.candidate.map (·.mode) = some m then (s.settleStatus t.comb).setInvalidLogged false
      else ((s.settleStatus t.comb).setInvalidLogged false).formCandidate m t

end Sys2Proof.Machine
end

