-- ==== Sys2Proof/Machine/ShiftOps.lean ====
section
/-! DEFINITION. The shift unit (spec/08): the schedule (R133, R134), closing and opening (R136, R140), the evaluation
(R138, R139), the first evaluation (R151), handover notices (R141 to R145) and the entries of R148 and R149. -/

namespace Sys2Proof.Machine

/-- The shift length Lsh in seconds (R133). -/
def Configuration.shiftLength (c : Configuration) : Nat := 86400 / c.shiftsPerDay

/-- The shift number n(S) (R134). -/
def Configuration.shiftNumber (c : Configuration) (sec : Nat) : Nat :=
  if sec < c.firstBoundary then 0 else (sec - c.firstBoundary) / c.shiftLength + 1

/-- Window open W(n), in seconds (R134). -/
def Configuration.windowOpen (c : Configuration) (n : Nat) : Nat := c.firstBoundary + n * c.shiftLength - c.lead

/-- Force close C(n), in seconds (R134). -/
def Configuration.forceClose (c : Configuration) (n : Nat) : Nat := c.firstBoundary + n * c.shiftLength + c.grace

/-- ds becomes 0 in the onset latch and the candidate at a close (R113). -/
def State.zeroDs (s : State) : State :=
  { s with tally := { s.tally with
      qual := s.tally.qual.map fun t => { t with ds := 0 }
      candidate := s.tally.candidate.map fun c => { c with ds := 0 } } }

/-- The next shift opened in RUNNING (R136, R140). -/
def State.openShift (s : State) (next : ShiftRecord) : State :=
  { s with shift := { s.shift with current := next, state := .running } }

/-- The handover state set (R137). -/
def State.setHandover (s : State) (h : HandoverState) : State := { s with shift := { s.shift with state := h } }

/-- Evaluation no longer deferred (R151). -/
def State.endDeferral (s : State) : State := { s with shift := { s.shift with deferred := false, recovered := none } }

/-- A close processed as one operation with the opening that follows (R140): the closing record is fixed, SHIFT_CLOSE is
appended, the closed record queued, the next shift opened in RUNNING, and a checkpoint requested. -/
def State.closeShift (s : State) (closing : ShiftRecord) (closedAt : StationTime) (cause : CloseCause)
    (next : ShiftRecord) : State :=
  let t := (s.appendNow (.shiftClose closing.number cause)).queueShift
    { shift := closing, closedAt := closedAt, closedG := s.tb.g, cause := cause }
  (t.openShift next).zeroDs.requestCheckpoint false

/-- The opened-at dating of a shift that follows another: the closed-at, with G and quality current (R136). -/
def State.openedFrom (s : State) (closedAt : StationTime) : Dating := ⟨closedAt, s.tb.g, s.quality⟩

/-- The record with the no-sign-off flag set where it has no sign-off time (R139, R151). -/
def ShiftRecord.markNoSignOff (r : ShiftRecord) : ShiftRecord := { r with noSignOff := r.noSignOff || r.signOff.isNone }

/-- The forced close of shift `n` (R139). -/
def State.forcedClose (s : State) (n : Nat) : State :=
  let r := s.shift.current
  let closedAt := StationTime.later ⟨s.cfg.forceClose n, 0⟩ r.openedAt.time
  let next := if s.instant < s.cfg.forceClose (n + 1) * 1000000 then n + 1 else s.cfg.shiftNumber s.tb.time.s
  s.closeShift r.markNoSignOff closedAt .forced (ShiftRecord.opening (some next) (s.openedFrom closedAt) .forced none)

/-- An evaluation of the schedule (R138): a forced close, after which the new shift is evaluated in the same way, or
RUNNING giving way to WINDOW. Two closes never follow one another, so a depth of 2 is enough
(`Laws/Shift.lean`). -/
def State.evaluateDepth : Nat → State → State
  | 0, s => s
  | k + 1, s =>
    match s.shift.deferred, s.shift.current.number with
    | false, some n =>
        if s.cfg.forceClose n * 1000000 ≤ s.instant then (s.forcedClose n).evaluateDepth k
        else if s.shift.state = .running ∧ s.cfg.windowOpen n * 1000000 ≤ s.instant then
          s.setHandover .window
        else s
    | _, _ => s

/-- The schedule evaluated with station time as it stands (R138). -/
def State.evaluate (s : State) : State := s.evaluateDepth 2

/-- The handover state derived for a shift that continues (R151). -/
def State.derivedHandover (s : State) (n : Nat) : HandoverState :=
  if s.shift.current.signOff.isSome then .signedOff
  else if s.cfg.windowOpen n * 1000000 ≤ s.instant then .window else .running

/-- One power gap more (R151). -/
def ShiftRecord.gap (r : ShiftRecord) : ShiftRecord := { r with powerGaps := satInc 65535 r.powerGaps }

/-- The first evaluation, made when the agreement state first leaves FREE (R151). -/
def State.firstEvaluation (s : State) : State :=
  let r := s.shift.current
  let here := s.cfg.shiftNumber s.tb.time.s
  match s.shift.recovered, r.number with
  | none, none => (s.endDeferral.modShift fun r => { r with number := some here }).evaluate
  | none, some _ => s.endDeferral.evaluate
  | some _, none => (s.endDeferral.modShift fun r => { r.gap with number := some here }).evaluate
  | some at', some n =>
      if here ≤ n ∨ s.instant < s.cfg.forceClose n * 1000000 then
        ((s.endDeferral.modShift ShiftRecord.gap).setHandover (s.derivedHandover n)).evaluate
      else
        (s.endDeferral.closeShift r.markNoSignOff (StationTime.later at' r.openedAt.time) .powerGap
          (ShiftRecord.opening (some here) s.dating .powerUp none)).evaluate

/-- A change of time quality taken into the open shift (R148). -/
def State.takeQuality (s : State) : State :=
  s.modShift fun r => { r with worst := max r.worst s.quality, uncertain := r.uncertain || decide (s.quality = 3) }

/-- A step taken into the open shift (R149). -/
def State.countStep (s : State) (applied : Int) : State :=
  s.modShift fun r => { r with
    timeSteps := satInc 65535 r.timeSteps
    netStep := clampInt (-9223372036854775807) 9223372036854775807 (r.netStep + applied) }

/-- A stray handover notice counted (R141). -/
def State.strayNotice (s : State) : State := s.modShift fun r => { r with strays := satInc 65535 r.strays }

/-- A SIGN_OFF (R142). -/
def State.takeSignOff (s : State) (n : HandoverNotice) : State :=
  if s.shift.current.number = some n.number then
    match s.shift.state with
    | .window =>
        (s.modShift fun r => { r with signOff := some n.time, outgoing := some n.crew }).setHandover .signedOff
    | .signedOff => s
    | .running => s.strayNotice
  else s.strayNotice

/-- The closed-at of a TAKE_OVER: the action time, no later than the current time, no earlier than W(n), no earlier than
opened-at, in that order (R143). -/
def State.takeoverClosedAt (s : State) (n : Nat) (action : StationTime) : StationTime :=
  let first := if s.instant < action.instant then s.tb.time else action
  StationTime.later (StationTime.later first ⟨s.cfg.windowOpen n, 0⟩) s.shift.current.openedAt.time

/-- The closing record's sign-off fields at a TAKE_OVER (R143). -/
def ShiftRecord.signedAtTakeover (r : ShiftRecord) (state : HandoverState) (signOff : Option StationTime) : ShiftRecord :=
  match state, signOff with
  | .signedOff, _   => r
  | _, some t       => { r with signOff := some t }
  | _, none         => { r with noSignOff := true }

/-- A TAKE_OVER (R143 to R145). -/
def State.takeTakeOver (s : State) (n : HandoverNotice) : State :=
  let r := s.shift.current
  if r.number = some n.number then
    if s.shift.state = .running then s.strayNotice
    else
      let closedAt := s.takeoverClosedAt n.number n.time
      State.evaluate <| s.closeShift (r.signedAtTakeover s.shift.state n.signOff) closedAt .takeover
        (ShiftRecord.opening (some (n.number + 1)) (s.openedFrom closedAt) .takeover (some (n.crew, n.time)))
  else if r.openCause = .forced ∧ r.crew = none ∧ r.number = some (n.number + 1) then
    s.modShift fun r => { r with crew := some (n.crew, n.time), lateTakeover := true }
  else s.strayNotice

/-- The payload check of R141. -/
def HandoverNotice.wellFormed (n : HandoverNotice) : Bool :=
  (n.action == 1 || n.action == 2) && decide (n.time.u < 1000000)
    && (match n.signOff with
        | some t => decide (t.u < 1000000)
        | none => true)

/-- A HANDOVER NOTICE taken by the shift unit (R141). -/
def State.takeHandover (s : State) (n : HandoverNotice) : State :=
  if !n.wellFormed || s.shift.deferred || s.shift.current.number.isNone then s.strayNotice
  else if n.action = 1 then s.takeSignOff n else s.takeTakeOver n

end Sys2Proof.Machine
end

