-- ==== Sys2Proof/Machine/TimeOps.lean ====
section
/-! DEFINITION. The timebase and the agreement unit (spec/01, spec/03): the advance of an elapsed microsecond (R3), steps
(R5, R6), station seconds and their consumers (R9 to R12), offsets (R39, R40) and the agreement round (R41, R45 to R57). -/

namespace Sys2Proof.Machine

/-! ## Advance and step -/

/-- 2^24, the carry of the rate accumulator (R3). -/
def carry : Int := 16777216

/-- The rate accumulator over one elapsed microsecond: its new value, and by how many µs station time advances (R3). -/
def accumulate (acc a : Int) : Int × Nat :=
  if carry ≤ acc + a then (acc + a - carry, 2)
  else if acc + a ≤ -carry then (acc + a + carry, 0)
  else (acc + a, 1)

/-- Station time and Acc after one elapsed microsecond; station time stops at its top (R2, R3). -/
def Timebase.advance (tb : Timebase) : Timebase :=
  { tb with
    acc := (accumulate tb.acc tb.a).1
    time := StationTime.ofInstant (min topInstant (tb.time.instant + (accumulate tb.acc tb.a).2)) }

/-- One elapsed microsecond: the elapsed count and station time advance, and a carry into S leaves a station second due
(R1, R3, R9). -/
def Timebase.tick (tb : Timebase) : Timebase :=
  { tb.advance with
    elapsed := tb.elapsed + 1
    secondDue := if tb.time.s < tb.advance.time.s then some ⟨tb.advance.time.s, false⟩ else tb.secondDue }

/-- The rate adjustment written, clamped to ±3355 (R4). -/
def State.writeA (s : State) (a : Int) : State := { s with tb := { s.tb with a := clampInt (-3355) 3355 a } }

/-- A step's target instant, clamped to the range of station time (R5). -/
def stepTarget (from' : Nat) (c : Int) : Nat := (clampInt 0 topInstant (from' + c)).toNat

/-- The round hold of a step: the smallest multiple of L that lies at least L seconds after the target (R6). -/
def roundHold (l target : Nat) : Nat := l * ((target + l * 1000000 + (l * 1000000 - 1)) / (l * 1000000))

/-- The timebase after a step to `target` (R6). A station second still due is barred from being a round boundary (R58). -/
def Timebase.stepTo (tb : Timebase) (l target : Nat) : Timebase :=
  { tb with
    time := StationTime.ofInstant target
    g := (tb.g + 1) % 256
    acc := 0
    hold := some (roundHold l target)
    secondDue := tb.secondDue.map fun d => { d with noRound := true } }

/-- Heard-this-round and the channel marks cleared (R6, R41). -/
def Peer.clearRound (p : Peer) : Peer := { p with heard := false, heardA := false, heardB := false }

/-- The agreement state told to the shift unit that it has left FREE for the first time since START (R44, R151). -/
def State.tellLeftFree (s : State) (old : AgreementState) : State :=
  if s.shift.deferred ∧ old = .free ∧ s.agr.state ≠ .free then s.firstEvaluation else s

/-- A change of time quality handed to the shift unit (R44, R148). -/
def State.tellQuality (s : State) (old : AgreementState) : State :=
  if s.quality = old.quality then s else s.takeQuality

/-- The second-mark pulse at a station second: started or restarted while the quality is 0, 1 or 2 (R12). -/
def State.startPulse (s : State) : State :=
  if s.quality = 3 then s else { s with tb := { s.tb with pulseEnd := some (s.tb.elapsed + 10000) } }

/-- A BEACON queued to both channels with an empty payload (R11, R22). -/
def State.queueBeacon (s : State) : State := s.send .beacon 31 []

/-- The station second that a step itself signals: no round falls at it (R10, R11). -/
def State.stepSecond (s : State) : State := s.startPulse.queueBeacon.evaluate

/-- What a step changes at once: station time, G, Acc and the round hold, the latest phase error, the peers' flags of the
round, and the agreement state established with it (R6, R50). -/
def State.jump (s : State) (target : Nat) (new : AgreementState) : State :=
  { s with
    tb := s.tb.stepTo s.cfg.roundLength target
    marks := { s.marks with phase := none }
    peers := s.peers.map Peer.clearRound
    agr := { s.agr with state := new } }

/-- A step ordered with amount `c` and a cause, the agreement state `new` being established with it (R5, R6, R10, R50):
station time moves, A = F is written, TIME_STEP is appended, the shift unit counts the step and takes the quality, and a
station second crossed forward is signalled. The groups of `closeFirst` that the step reaches append their GROUP_CLOSE
before the TIME_STEP (R104); the others close by GROUP_CLOSE commands after it. Order within: log entries 6 and 23. -/
def State.step (s : State) (c : Int) (cause : StepCause) (new : AgreementState) (closeFirst : List Nat) : State :=
  let target := stepTarget s.instant c
  let applied : Int := (target : Int) - s.instant
  let u := (((s.jump target new).writeA s.agr.f).closeDue closeFirst).appendNow (.timeStep applied cause)
  let v := ((u.countStep applied).tellQuality s.agr.state).tellLeftFree s.agr.state
  if s.tb.time.s < target / 1000000 then v.stepSecond else v

/-! ## Offsets and beacons (R39, R40) -/

/-- A beacon's offset in µs (R39). -/
def beaconOffset (sb ub : Nat) (stamp : StationTime) (delay : Nat) : Int :=
  ((sb : Int) - stamp.s) * 1000000 + ((ub : Int) + delay - stamp.u)

/-- The mark for a channel set in channels heard this round (R40). -/
def Peer.markChannel (p : Peer) : Channel → Peer
  | .a => { p with heardA := true }
  | .b => { p with heardB := true }

/-- The entry after an accepted beacon whose receive stamp is of the current generation, or not (R39, R40). -/
def Peer.takeBeacon (p : Peer) (payload : List Byte) (stamp : Stamp) (g delay : Nat) : Peer :=
  let q : Peer :=
    { p with
      state := payload.getD 1 0
      statusFlags := BitVec.ofNat 16 (fieldAt payload 2 2)
      present := true
      missed := 0 }
  if stamp.g = g then
    let off := beaconOffset (fieldAt payload 4 4) (fieldAt payload 8 4) stamp.time delay
    { q with offset := off, far := decide (1000000 < off.natAbs), heard := true }
  else q

/-! ## The agreement round -/

/-- A round's outcome with its correction in µs (R45). -/
inductive RoundOutcome where
  | mark (c : Int)
  | anchored (c : Int)
  | midpoint (c : Int)
  | insufficient
  deriving DecidableEq, Repr

/-- What a round orders (R49 to R52). -/
inductive RoundAction where
  | slew (c : Int)
  | limited (c : Int)
  | step (c : Int) (cause : StepCause)
  | hold
  deriving DecidableEq, Repr

/-- What the rule of section 3.4 decides for a round: its action, the next state, the three counts, and whether
seconds-known is set. -/
structure Decision where
  action   : RoundAction
  state    : AgreementState
  good     : Nat
  disagree : Nat
  holdover : Nat
  known    : Bool
  deriving DecidableEq, Repr

/-- A value put in its place among sorted values. -/
def insertSorted (x : Int) : List Int → List Int
  | [] => [x]
  | y :: ys => if x ≤ y then x :: y :: ys else y :: insertSorted x ys

/-- Values sorted ascending, equal values kept as separate entries (R48). -/
def sortAscending : List Int → List Int
  | [] => []
  | x :: xs => insertSorted x (sortAscending xs)

/-- A peer's reported state as the round reads it (R46). -/
def Peer.reported (p : Peer) : AgreementState := AgreementState.ofCode p.state.toNat

/-- A peer whose offset is usable (R46). -/
def Peer.usable (p : Peer) : Bool := p.heard && decide (p.reported ≠ .free) && !p.far

/-- The peers of the round's offset set (R46): the usable ones, or in FREE with none of them every peer heard. -/
def roundPeers (state : AgreementState) (peers : List Peer) : List Peer :=
  let usable := peers.filter Peer.usable
  if state = .free ∧ usable = [] then peers.filter (·.heard) else usable

/-- The median of the ANCHORED peers' offsets, the lower of the two middle values of an even number (R47). -/
def anchoredMedian (offsets : List Int) : Int := (sortAscending offsets).getD ((offsets.length - 1) / 2) 0

/-- The fault-tolerant midpoint of a set of offsets, the own one included (R48). -/
def midpointOf (f : Nat) (offsets : List Int) : Int :=
  ((sortAscending offsets).getD f 0 + (sortAscending offsets).getD (offsets.length - 1 - f) 0).tdiv 2

/-- The round's outcome (R45 to R48). `mark` is the latest phase error when the own-mark condition holds. -/
def roundOutcome (state : AgreementState) (f : Nat) (mark : Option Int) (peers : List Peer) : RoundOutcome :=
  match mark with
  | some e => .mark e
  | none =>
    let set := roundPeers state peers
    let anchored := set.filter fun p => decide (p.reported = .anchored)
    if anchored ≠ [] then .anchored (anchoredMedian (anchored.map (·.offset)))
    else if set ≠ [] ∧ 2 * f + 1 ≤ set.length + 1 then .midpoint (midpointOf f (0 :: set.map (·.offset)))
    else .insufficient

/-- The latest phase error when the own-mark condition of R45 holds. -/
def State.ownMark (s : State) : Option Int := if s.marks.valid && s.tb.secondsKnown then s.marks.phase else none

/-- The mark outcome: step when the correction exceeds K, slew otherwise, into ANCHORED, with the counts 0 where the
state was another (R52, R56, R57). -/
def decideMark (k : Nat) (a : Agreement) (c : Int) : Decision :=
  let keep := fun (n : Nat) => if a.state = .anchored then n else 0
  { action := if k < c.natAbs then .step c .anchor else .slew c, state := .anchored, good := keep a.good,
    disagree := keep a.disagree, holdover := keep a.holdover, known := false }

/-- The rule of AGREED for a round without own mark, the disagreement count being `dis` before it (R54). -/
def decideAgreed (k dis : Nat) (a : Agreement) (correction : Option Int) : Decision :=
  match correction with
  | none =>
      { action := .hold, state := .holdover, good := a.good, disagree := 0, holdover := 0, known := false }
  | some c =>
      if c.natAbs ≤ k then
        { action := .slew c, state := .agreed, good := a.good, disagree := 0, holdover := a.holdover, known := false }
      else if dis < 2 then
        { action := .limited c, state := .agreed, good := a.good, disagree := dis + 1, holdover := a.holdover,
          known := false }
      else
        { action := .step c .agree, state := .joining, good := 0, disagree := 0, holdover := a.holdover, known := false }

/-- The rule of FREE for a round without own mark (R52). -/
def decideFree (a : Agreement) : Option Int → Decision
  | none =>
      { action := .hold, state := .free, good := a.good, disagree := a.disagree, holdover := a.holdover, known := false }
  | some c =>
      { action := .step c .join, state := .joining, good := 0, disagree := a.disagree, holdover := a.holdover,
        known := true }

/-- The rule of JOINING for a round without own mark (R53). -/
def decideJoining (k : Nat) (a : Agreement) : Option Int → Decision
  | none =>
      { action := .hold, state := .holdover, good := 0, disagree := a.disagree, holdover := 0, known := false }
  | some c =>
      if c.natAbs ≤ k then
        if 2 ≤ a.good + 1 then
          { action := .slew c, state := .agreed, good := a.good + 1, disagree := 0, holdover := a.holdover,
            known := false }
        else
          { action := .slew c, state := .joining, good := a.good + 1, disagree := a.disagree, holdover := a.holdover,
            known := false }
      else
        { action := .step c .join, state := .joining, good := 0, disagree := a.disagree, holdover := a.holdover,
          known := false }

/-- The rule of HOLDOVER for a round without own mark (R55). -/
def decideHoldover (k limit : Nat) (a : Agreement) : Option Int → Decision
  | none =>
      if a.holdover + 1 < limit then
        { action := .hold, state := .holdover, good := a.good, disagree := a.disagree, holdover := a.holdover + 1,
          known := false }
      else
        { action := .hold, state := .free, good := a.good, disagree := a.disagree, holdover := 0, known := false }
  | some c =>
      if c.natAbs ≤ k then
        { action := .slew c, state := .agreed, good := a.good, disagree := 0, holdover := a.holdover, known := false }
      else
        { action := .step c .agree, state := .joining, good := 0, disagree := a.disagree, holdover := a.holdover,
          known := false }

/-- The rule of ANCHORED for a round without own mark (R56): with the valid flag still set A is held at F (log entry 25
for a valid mark without seconds-known); with the flag clear the round is decided as in AGREED. -/
def decideAnchored (k : Nat) (valid : Bool) (a : Agreement) (correction : Option Int) : Decision :=
  if valid then
    { action := .hold, state := .anchored, good := a.good, disagree := a.disagree, holdover := a.holdover,
      known := false }
  else decideAgreed k 0 a correction

/-- What a round decides in the state in which it finds the station (R52 to R57). -/
def decideRound (k limit : Nat) (valid : Bool) (a : Agreement) (outcome : RoundOutcome) : Decision :=
  let correction : Option Int := match outcome with
    | .anchored c => some c
    | .midpoint c => some c
    | _ => none
  match outcome, a.state with
  | .mark c, _ => decideMark k a c
  | _, .free => decideFree a correction
  | _, .joining => decideJoining k a correction
  | _, .agreed => decideAgreed k a.disagree a correction
  | _, .holdover => decideHoldover k limit a correction
  | _, .anchored => decideAnchored k valid a correction

/-- The phase term P of a correction (R49). -/
def phaseTerm (l : Nat) (c : Int) : Int := (c * 16777216).tdiv (2 * l * 1000000)

/-- The frequency term after a slew (R49). -/
def slewedF (f p : Int) : Int := clampInt (-2516) 2516 (f + p.tdiv 4)

/-- A slew by R49. -/
def State.slew (s : State) (c : Int) : State :=
  let p := phaseTerm s.cfg.roundLength c
  let f := slewedF s.agr.f p
  State.writeA { s with agr := { s.agr with f := f } } (f + p)

/-- The limited slew of R51. -/
def State.limitedSlew (s : State) (c : Int) : State :=
  let room : Int := 3355 - s.agr.f.natAbs
  s.writeA (s.agr.f + clampInt (-room) room (phaseTerm s.cfg.roundLength c))

/-- The counts of a decision, and seconds-known where it sets it. -/
def State.setCounts (s : State) (d : Decision) : State :=
  { s with
    agr := { s.agr with good := d.good, disagree := d.disagree, holdover := d.holdover }
    tb := { s.tb with secondsKnown := s.tb.secondsKnown || d.known } }

/-- The agreement state set. -/
def State.setAgreement (s : State) (new : AgreementState) : State := { s with agr := { s.agr with state := new } }

/-- The next state of a round that does not step taken, and the shift unit told of it (R44). -/
def State.enterState (s : State) (new : AgreementState) : State :=
  ((s.setAgreement new).tellQuality s.agr.state).tellLeftFree s.agr.state

/-- The decision of a round applied (R45, second stage). -/
def State.applyDecision (s : State) (d : Decision) (closeFirst : List Nat) : State :=
  let t := s.setCounts d
  match d.action with
  | .slew c => (t.slew c).enterState d.state
  | .limited c => (t.limitedSlew c).enterState d.state
  | .hold => (t.writeA t.agr.f).enterState d.state
  | .step c cause => t.step c cause d.state closeFirst

/-- Stock taken of one entry (R41): a present peer not heard misses a round, and at the third is present no longer. -/
def Peer.takeStock (p : Peer) : Peer :=
  if p.present && !p.heard then
    { p with missed := satInc 255 p.missed, present := decide (satInc 255 p.missed < 3) }
  else p

/-- Every entry of the peer table changed. -/
def State.mapPeers (s : State) (f : Peer → Peer) : State := { s with peers := s.peers.map f }

/-- An agreement round (R41, R45): stock is judged on the flags as they stood before the round's step (log entry 13), and
the flags are cleared at its end. -/
def State.agreementRound (s : State) (closeFirst : List Nat) : State :=
  let outcome := roundOutcome s.agr.state s.cfg.dropped s.ownMark s.peers
  let d := decideRound s.cfg.stepThreshold s.cfg.holdoverLimit s.marks.valid s.agr outcome
  ((s.mapPeers Peer.takeStock).applyDecision d closeFirst).mapPeers Peer.clearRound

/-- A line controller's degraded mark judged at a round boundary (R35). -/
def LineController.judgeDegraded (lc : LineController) : LineController :=
  { lc with degraded := decide (8 < lc.roundErrors), roundErrors := 0 }

/-- The round hold removed and the channels' degraded marks judged (R11, R35). -/
def State.endHold (s : State) : State :=
  { s with
    tb := { s.tb with hold := none }
    chA := s.chA.judgeDegraded
    chB := s.chB.judgeDegraded }

/-- A round boundary: the hold is removed, the degraded marks are judged and the round is carried out (R11, R35). -/
def State.roundBoundary (s : State) (closeFirst : List Nat) : State :=
  s.endHold.agreementRound closeFirst

/-- Whether a station second is a round boundary (R11). -/
def State.isBoundary (s : State) (d : SecondDue) : Bool :=
  !d.noRound && decide (d.s % s.cfg.roundLength = 0)
    && (match s.tb.hold with
        | some h => decide (h ≤ d.s)
        | none => true)

/-- The agreement unit's part of a station second. -/
def State.roundIfBoundary (s : State) (d : SecondDue) (closeFirst : List Nat) : State :=
  if s.isBoundary d then s.roundBoundary closeFirst else s

/-- The station second due taken. -/
def State.takeSecond (s : State) : State := { s with tb := { s.tb with secondDue := none } }

/-- A station second that is due handed to its four consumers (R11, R12), in the order given for the agreement unit and
the shift unit; the pulse is judged by the quality before the round. -/
def State.deliverSecond (s : State) (order : SecondOrder) : State :=
  match s.tb.secondDue with
  | none => s
  | some d =>
      let t := s.takeSecond.startPulse.queueBeacon
      if order.shiftFirst then t.evaluate.roundIfBoundary d order.closeFirst
      else (t.roundIfBoundary d order.closeFirst).evaluate

end Sys2Proof.Machine
end

