-- ==== Sys2Proof/Machine/RequestOps.lean ====
section
/-! DEFINITION. The request handler's shared operations (spec/10): entry to the queue (R175), the checks of R178, taking
the oldest request into service (R176), the ANSWER (R177), and the supply warning, which answers a waiting read (R170,
R176). -/

namespace Sys2Proof.Machine

/-- A REQUEST entered in the request queue, or dropped with the overflow count raised when it holds 4 (R175). -/
def State.enterRequest (s : State) (r : Request) : State :=
  if s.req.queue.length < 4 then { s with req := { s.req with queue := s.req.queue ++ [r] } }
  else { s with req := { s.req with overflow := satInc 65535 s.req.overflow } }

/-- The request code. -/
def Request.code (r : Request) : Nat := byteAt r.payload 0

/-- The tag. -/
def Request.tag (r : Request) : Nat := byteAt r.payload 1

/-- The parameters after code and tag. -/
def Request.params (r : Request) : List Byte := r.payload.drop 2

/-- How many parameter bytes a request code takes (R178). -/
def parameterLength : Nat → Nat
  | 3 => 2
  | 4 => 1
  | 5 => 3
  | 6 => 1
  | 7 => 2
  | 8 => 1
  | 9 => 2
  | 10 => 2
  | 11 => 8
  | 12 => 2
  | 13 => 1
  | 14 => 8
  | 15 => 2
  | _ => 0

/-- Whether every parameter of a code lies in its range (R178, R181). -/
def parametersInRange (code : Nat) (p : List Byte) : Bool :=
  let x := byteAt p 0
  let y := byteAt p 1
  match code with
  | 3 => decide (x ≤ 30) && decide (1 ≤ y ∧ y ≤ 3)
  | 4 => decide (x = 1 ∨ x = 2)
  | 5 => decide (byteAt p 2 = 1 ∨ byteAt p 2 = 2)
  | 6 => decide (x = 1 ∨ x = 2)
  | 7 => decide (1 ≤ x ∧ x ≤ 7) && decide (y ≤ 7)
  | 8 => decide (1 ≤ x ∧ x ≤ 7)
  | 9 => decide ((x = 0 ∧ y ≤ 1) ∨ (x = 1 ∧ y = 0) ∨ (x = 2 ∧ y ≤ 1))
  | 10 => decide (y ≤ 5)
  | 11 => decide ((x = 0 ∧ y ≤ 6) ∨ (x = 1 ∧ y = 255))
  | 12 => decide (x ≤ 1) && decide (y ≤ 1)
  | 13 => decide (x ≤ 1)
  | 14 => decide (fieldAt p 4 4 ≤ 999999)
  | _ => true

/-- The checks of R178 that come after the code's: the payload length and the parameters. -/
def Request.acceptable (r : Request) : Bool :=
  decide (r.payload.length = 2 + parameterLength r.code) && parametersInRange r.code r.params

/-- The ANSWER to a request (R177): code and tag as received, the status, and the content when the status is OK. It takes
the next sender sequence and is queued to both channels; at a console station the answer to its own console computer is
handed over when it is queued. -/
def State.answer (s : State) (r : Request) (st : Status) (content : List Byte) : State :=
  let payload := beBytes 1 r.code ++ beBytes 1 r.tag ++ beBytes 1 st.code ++ (if st = .ok then content else [])
  let t := s.send .answer r.sender payload
  if s.console ∧ r.sender = s.ownNumber then t.emit (.ctxAnswer s.ownNumber payload) else t

/-- The oldest request of the queue, when the part runs and no request is in service (R176). -/
def State.oldestRequest (s : State) : Option Request :=
  match s.phase, s.req.service with
  | .running, none => s.req.queue.head?
  | _, _ => none

/-- The state with the oldest request taken from the queue. -/
def State.popRequest (s : State) : State := { s with req := { s.req with queue := s.req.queue.tail } }

/-- The oldest request, of the given code, served: refused with BAD_ARGUMENT where a check of R178 fails, else handed to
its owner. There is no effect while the oldest request is of another code (log entry 1). -/
def State.serve (s : State) (code : Nat) (owner : State → Request → State) : State :=
  match s.oldestRequest with
  | some r =>
      if r.code = code then
        if r.acceptable then owner s.popRequest r else s.popRequest.answer r .badArgument []
      else s
  | none => s

/-- A store read that is waiting is answered STORE_FAULT and its service ends (R174, R176). -/
def State.failRead (s : State) : State :=
  match s.req.service with
  | some (.storeRead r) => State.answer { s with req := { s.req with service := none } } r .storeFault []
  | _ => s

/-- Whether the request in service of a running part is a CLEAR FLAGS whose answer is due (log entry 42). -/
def State.clearingHeld (s : State) : Bool :=
  match s.phase, s.req.service with
  | .running, some (.clearFlags _) => true
  | _, _ => false

/-- The answer of a CLEAR FLAGS that is due is queued, with the sticky flags as they stand, and its service ends (R176,
R184). -/
def State.endClearFlags (s : State) : State :=
  match s.req.service with
  | some (.clearFlags r) =>
      State.answer { s with req := { s.req with service := none } } r .ok (beBytes 2 (bitsNat s.flags.list))
  | _ => s

/-- A supply warning taken (R169, R170). -/
def State.takeWarning (s : State) : State :=
  (State.warnStore { s with supply := { s.supply with state := .warning, warnAt := s.tb.elapsed, holdEnd := none } }).failRead

end Sys2Proof.Machine
end

