-- ==== Sys2Proof/Machine/Bus.lean ====
section
/-! DEFINITION. The bus commands (spec/02): medium access and sending (R20, R22, R24, R26, R27), receiving (R28 to R33),
the notice queue's filter and entry (R90 to R92), and what the console computer hands over (R23). -/

namespace Sys2Proof.Machine

/-! ## Medium access and sending -/

/-- The place of the oldest copy of a medium class. -/
def oldestOfClass (k : Nat) (l : List Copy) : Option Nat := l.findIdx? fun c => decide (c.kind.mediumClass = k)

/-- The head: the oldest copy of the lowest class present (R24). -/
def headIndex (l : List Copy) : Option Nat :=
  (oldestOfClass 0 l).or ((oldestOfClass 1 l).or ((oldestOfClass 2 l).or (oldestOfClass 3 l)))

/-- The length of a deferral in bit times (R26). -/
def deferralLength (cls own : Nat) : Nat := 256 * cls + 8 * own

/-- Activity on the channel at an elapsed count: it ends quiet and drops a deferral being counted (R20, R26). -/
def LineController.active (lc : LineController) (now : Nat) : LineController :=
  { lc with quiet := false, deferral := none, lastActivity := now }

/-- Whether the channel can become quiet: it is not quiet, neither a sending nor a reception is under way, and 16 bit
times have passed since the last activity the model knows of (R20, log entry 26). -/
def LineController.canQuiet (lc : LineController) (now : Nat) : Bool :=
  !lc.quiet && lc.sendStart.isNone && lc.stamp.isNone && decide (lc.lastActivity + 16 ≤ now)

/-- The channel becomes quiet, and a deferral starts when the list is not empty (R20, R26). -/
def LineController.becomeQuiet (lc : LineController) (now : Nat) : LineController :=
  { lc with quiet := true, deferral := if lc.list.isEmpty then none else some now }

/-- CHANNEL_QUIET (R20). -/
def execChannelQuiet (ch : Channel) (s : State) : Host.Outcome State Fault Refusal :=
  .next (if s.isRunning && (s.line ch).canQuiet s.tb.elapsed then s.setLine ch ((s.line ch).becomeQuiet s.tb.elapsed)
    else s)

/-- CHANNEL_ACTIVITY (R26). -/
def execChannelActivity (ch : Channel) (s : State) : Host.Outcome State Fault Refusal :=
  .next (if s.isRunning then s.setLine ch ((s.line ch).active s.tb.elapsed) else s)

/-- The head whose deferral has ended with the channel still quiet (R26). -/
def LineController.dueHead (lc : LineController) (own now : Nat) : Option Nat :=
  match lc.quiet, lc.deferral, headIndex lc.list with
  | true, some d, some i =>
      match lc.list[i]? with
      | some c => if d + deferralLength c.kind.mediumClass own ≤ now then some i else none
      | none   => none
  | _, _, _ => none

/-- The line controller begins to send a copy, which is activity on its own channel (R26). -/
def LineController.beginSend (lc : LineController) (i now : Nat) : LineController :=
  { lc.active now with list := modifyAt (fun c => { c with sending := true }) lc.list i, sendStart := some now }

/-- DEFERRAL_END (R26). -/
def execDeferralEnd (ch : Channel) (s : State) : Host.Outcome State Fault Refusal :=
  .next (match s.isRunning, (s.line ch).dueHead s.ownNumber s.tb.elapsed with
    | true, some i => s.setLine ch ((s.line ch).beginSend i s.tb.elapsed)
    | _, _ => s)

/-- The place of the copy being sent, with the elapsed count at which its sending began. -/
def LineController.sendingAt (lc : LineController) : Option (Nat × Nat) :=
  match lc.sendStart, lc.list.findIdx? (·.sending) with
  | some t, some i => some (i, t)
  | _, _ => none

/-- A BEACON's payload as its copy is stamped (R22, R36). -/
def State.beaconPayload (s : State) : List Byte :=
  beBytes 1 s.tb.g ++ beBytes 1 s.agr.state.code ++ beBytes 2 s.beaconFlags ++ s.tb.time.bytes

/-- BEACON_STAMP (R22): at the timing mark of a beacon copy being sent, 15 bit times after its sending began (R20), the
whole payload is filled. -/
def execBeaconStamp (ch : Channel) (s : State) : Host.Outcome State Fault Refusal :=
  .next (match s.isRunning, (s.line ch).sendingAt with
    | true, some (i, t) =>
        if (s.line ch).list[i]?.map (fun c => (c.kind, c.payload)) = some (.beacon, []) ∧ t + 15 ≤ s.tb.elapsed then
          s.setLine ch { s.line ch with
            list := modifyAt (fun c => { c with payload := s.beaconPayload }) (s.line ch).list i }
        else s
    | _, _ => s)

/-- The other channel. -/
def otherChannel : Channel → Channel
  | .a => .b
  | .b => .a

/-- The loss of an abandoned copy (R27): NOTICE_LOSS for a TRIP NOTICE; for an ANSWER the lost-answer count, unless the
loss of the other copy has counted it already, and the other copy will then not count it again. DESIGN CHOICE (log entry
44, unsafe): the other copy is known by its kind and its sender sequence. -/
def State.loseCopy (s : State) (ch : Channel) (c : Copy) : State :=
  match c.kind with
  | .tripNotice => { s with flags := { s.flags with noticeLoss := true } }
  | .answer =>
      if c.lossCounted then s
      else
        let other := s.line (otherChannel ch)
        let marked := other.list.map fun x =>
          if x.kind = .answer ∧ x.seq = c.seq then { x with lossCounted := true } else x
        let t := s.setLine (otherChannel ch) { other with list := marked }
        { t with req := { t.req with lostAnswers := satInc 65535 t.req.lostAnswers } }
  | _ => s

/-- A copy taken back after its first collision: retried mark set, and a beacon to be stamped afresh (R22, R27). -/
def Copy.takenBack (c : Copy) : Copy :=
  { c with retried := true, sending := false, payload := if c.kind = .beacon then [] else c.payload }

/-- The line controller stops driving after a collision (R27, R34). -/
def LineController.collide (lc : LineController) (now : Nat) (list : List Copy) : LineController :=
  { lc.active now with list := list, sendStart := none, collisions := satInc 65535 lc.collisions }

/-- COLLISION (R27). -/
def execCollision (ch : Channel) (s : State) : Host.Outcome State Fault Refusal :=
  .next (match s.isRunning, (s.line ch).sendingAt with
    | true, some (i, _) =>
        let lc := s.line ch
        match lc.list[i]? with
        | some c =>
            if c.retried then
              (s.setLine ch (lc.collide s.tb.elapsed (lc.list.eraseIdx i))).loseCopy ch c
            else s.setLine ch (lc.collide s.tb.elapsed (modifyAt Copy.takenBack lc.list i))
        | none => s
    | _, _ => s)

/-- SENDING_COMPLETE (R27): the whole telegram has been driven, a beacon after its stamping, and the copy leaves its
list. -/
def execSendingComplete (ch : Channel) (s : State) : Host.Outcome State Fault Refusal :=
  .next (match s.isRunning, (s.line ch).sendingAt with
    | true, some (i, t) =>
        let lc := s.line ch
        match lc.list[i]? with
        | some c =>
            if t + c.bitTimes ≤ s.tb.elapsed ∧ ¬(c.kind = .beacon ∧ c.payload = []) then
              (s.setLine ch { lc.active s.tb.elapsed with list := lc.list.eraseIdx i, sendStart := none }).emit
                (.sent ch (c.frame s.ownNumber))
            else s
        | none => s
    | _, _ => s)

/-! ## Receiving -/

/-- TIMING_MARK (R20): a receiving line controller latches the receive stamp. What it hears while it sends is used for
collisions alone (R29). DESIGN CHOICE (log entry 43): one brought while a stamp is latched already latches afresh. -/
def execTimingMark (ch : Channel) (s : State) : Host.Outcome State Fault Refusal :=
  .next (if s.isRunning && (s.line ch).sendStart.isNone then
      s.setLine ch { (s.line ch).active s.tb.elapsed with stamp := some ⟨s.tb.time, s.tb.g⟩ }
    else s)

/-- A duplicate window slid to a new highest sequence, `d` further on (R30). -/
def Window.slide (w : Window) (seq d : Nat) : Window :=
  { h := seq, recorded := (w.recorded <<< d) ||| (1#16 <<< (d - 1)) }

/-- What the duplicate window makes of a sequence (R30, R31): whether the telegram is accepted, the entry's window after
it, and whether the sender has restarted. -/
def judgeWindow (w : Option Window) (seq : Nat) : Bool × Option Window × Bool :=
  match w with
  | none => (true, some ⟨seq, 0⟩, false)
  | some w =>
      let d := (seq + 65536 - w.h) % 65536
      if d = 0 then (false, some w, false)
      else if d ≤ 32767 then (true, some (w.slide seq d), false)
      else if d ≤ 65519 then (true, some ⟨seq, 0⟩, true)
      else if w.recorded.getLsbD (65535 - d) then (false, some w, false)
      else (true, some { w with recorded := w.recorded ||| (1#16 <<< (65535 - d)) }, false)

/-- The peer table entry of a station. -/
def State.peer (s : State) (n : Nat) : Peer := s.peers.getD n Peer.cleared

/-- The state with a peer table entry replaced. -/
def State.setPeer (s : State) (n : Nat) (p : Peer) : State := { s with peers := s.peers.set n p }

/-- An accepted BEACON taken by the agreement unit, and at a console station handed to its computer (R32, R33, R39,
R40). -/
def State.takeBeacon (s : State) (ch : Channel) (r : Received) (stamp : Stamp) : State :=
  let p := ((s.peer r.sender).markChannel ch).takeBeacon r.payload stamp s.tb.g s.cfg.lineDelay
  let t := s.setPeer r.sender p
  if s.console then t.emit (.ctxBeacon r.sender r.payload stamp) else t

/-- A notice's fields lie in their ranges (R91). -/
def TripNotice.inRange (n : TripNotice) : Bool :=
  decide (2 ≤ n.kind ∧ n.kind ≤ 4) && decide (n.input ≤ 15) && decide (n.level ≤ 1) && decide (n.cls ≤ 2)
    && decide (n.group ≤ 7) && decide (n.quality ≤ 3) && decide (n.time.u < 1000000)

/-- Whether the rejection filter rejects a notice (R90). -/
def Configuration.rejects (c : Configuration) (sender : Nat) (n : TripNotice) : Bool :=
  c.senderReject.getLsbD sender
    || (c.chatterReject && decide (n.kind ≠ 2))
    || (decide (n.kind = 2) && ((c.rejectIndication && n.cls == 0) || (c.rejectProtection && n.cls == 1)
        || (c.rejectUnitTrip && n.cls == 2)))
    || (decide (n.group ≠ 0) && c.groupReject.getLsbD n.group)

/-- A notice entered at the newest end of the queue, the oldest giving way when it holds 64 (R92). -/
def State.enterNotice (s : State) (n : Notice) : State :=
  if s.notices.length < 64 then { s with notices := s.notices ++ [n] }
  else { s with notices := s.notices.tail ++ [n], flags := { s.flags with noticeOverrun := true } }

/-- A TRIP NOTICE handed to the notice queue (R91). -/
def State.offerNotice (s : State) (r : Received) : State :=
  let n := TripNotice.ofBytes r.payload
  if n.inRange && !s.cfg.rejects r.sender n then s.enterNotice ⟨r.sender, r.payload⟩ else s

/-- Whether a notice is a member (R97). -/
def TripNotice.isMember (n : TripNotice) : Bool :=
  decide (n.kind = 2) && decide (n.level = 1) && decide (n.cls = 1 ∨ n.cls = 2) && decide (1 ≤ n.group ∧ n.group ≤ 7)
    && decide (n.input ≤ 15) && decide (n.quality ≤ 3) && decide (n.time.u < 1000000)

/-- The member a notice gives (R97). -/
def TripNotice.member (n : TripNotice) (sender : Nat) : Member :=
  { station := sender, input := n.input, logSeq := n.logSeq,
    dating := ⟨n.time, n.g, Fin.ofNat 4 n.quality⟩ }

/-- A TRIP NOTICE handed to the group table (R97). -/
def State.offerMember (s : State) (r : Received) : State :=
  let n := TripNotice.ofBytes r.payload
  if n.isMember then s.handMember n.group (n.member r.sender) else s

/-- An accepted telegram routed by its kind (R32). -/
def State.route (s : State) (ch : Channel) (r : Received) (stamp : Stamp) : State :=
  match r.kind with
  | 1 => s.takeBeacon ch r stamp
  | 2 => (s.offerMember r).offerNotice r
  | 3 => s.takeHandover (HandoverNotice.ofBytes r.payload)
  | 4 => if r.target = s.ownNumber ∨ r.target = 31 then s.enterRequest ⟨r.sender, r.payload⟩ else s
  | 5 => if r.target = s.ownNumber ∧ s.console then s.emit (.ctxAnswer r.sender r.payload) else s
  | _ => s

/-- A checked telegram from another station: the duplicate window, then routing; a duplicate BEACON marks its channel
alone (R30 to R33). -/
def State.receive (s : State) (ch : Channel) (r : Received) (stamp : Stamp) : State :=
  let p := s.peer r.sender
  let j := judgeWindow p.window r.seq
  let t := s.setPeer r.sender
    { p with window := j.2.1, restarts := if j.2.2 then satInc 255 p.restarts else p.restarts }
  if j.1 then t.route ch r stamp
  else if r.kind = 1 then t.setPeer r.sender ((t.peer r.sender).markChannel ch)
  else t

/-- A discarded reception counted on its channel (R28, R34, R35). -/
def LineController.countError (lc : LineController) : LineController :=
  { lc with errors := satInc 65535 lc.errors, roundErrors := satInc 255 lc.roundErrors }

/-- RECEPTION (R28): a reception begun by its timing mark ends and passes through the receive filter. -/
def execReception (ch : Channel) (data : List Byte) (oddBits : Nat) (s : State) : Host.Outcome State Fault Refusal :=
  .next (match s.isRunning, (s.line ch).stamp with
    | true, some stamp =>
        let t := s.setLine ch { (s.line ch).active s.tb.elapsed with stamp := none }
        match checkReception data oddBits with
        | none => t.setLine ch (t.line ch).countError
        | some r =>
            if r.sender = s.ownNumber then { t with flags := { t.flags with duplicateStation := true } }
            else t.receive ch r stamp
    | _, _ => s)

/-! ## The console computer (R23) -/

/-- CONSOLE_REQUEST (R23, R175): entered in the own queue, sent on the bus, or both. -/
def execConsoleRequest (target : Nat) (payload : List Byte) (s : State) : Host.Outcome State Fault Refusal :=
  .next (if s.isRunning && s.console then
      if target = s.ownNumber then s.enterRequest ⟨s.ownNumber, payload⟩
      else if target = 31 then (s.send .request target payload).enterRequest ⟨s.ownNumber, payload⟩
      else s.send .request target payload
    else s)

/-- CONSOLE_HANDOVER_NOTICE (R23, R141): queued to both channels and taken by the own shift unit. -/
def execConsoleHandoverNotice (payload : List Byte) (s : State) : Host.Outcome State Fault Refusal :=
  .next (if s.isRunning && s.console then
      (s.send .handoverNotice 31 payload).takeHandover (HandoverNotice.ofBytes payload)
    else s)

end Sys2Proof.Machine
end

