-- ==== Sys2Proof/Machine/Inputs.lean ====
section
/-! DEFINITION. The commands of the input unit and of the group table (spec/04, spec/06): INPUT_SAMPLE,
CHATTER_WINDOW_END, CHATTER_END, GROUP_CLOSE, GROUP_HOLD_END. -/

namespace Sys2Proof.Machine

/-! ## Sampling and qualification (R60 to R64) -/

/-- The configuration of input `i`. -/
def State.inputConfig (s : State) (i : Nat) : InputConfig := s.cfg.inputs.getD i InputConfig.disabled

/-- The channel of input `i`. -/
def State.input (s : State) (i : Nat) : InputChannel := s.inputs.getD i InputChannel.cleared

/-- The state with the channel of input `i` replaced. -/
def State.setInput (s : State) (i : Nat) (c : InputChannel) : State := { s with inputs := s.inputs.set i c }

/-- The logical level of an electrical one (R60). -/
def InputConfig.logical (c : InputConfig) (high : Bool) : Bool := high != c.activeLow

/-- A qualification started by a sample, its onset; with q = 0 it qualifies at once (R62, R63). -/
def InputChannel.startTest (c : InputChannel) (q : Nat) (t : InputTest) : InputChannel × Option InputTest :=
  if q = 0 then ({ c with qual := none }, some t) else ({ c with qual := some t }, none)

/-- A sample taken by a channel: the channel after it, and the change that qualifies at it (R62, R63). `t` holds the
sampled level and what the channel would latch at this sample. -/
def InputChannel.sample (c : InputChannel) (q : Nat) (t : InputTest) : InputChannel × Option InputTest :=
  match c.qual with
  | some u =>
      if t.level = u.level then
        if u.elapsed + q * 500 ≤ t.elapsed then ({ c with qual := none }, some u) else (c, none)
      else if c.recorded = some t.level then ({ c with qual := none }, none)
      else c.startTest q t
  | none => if c.recorded = some t.level then (c, none) else c.startTest q t

/-! ## What a qualified change does (R65 to R72) -/

/-- A record of the input unit appended, and its TRIP NOTICE queued unless the input is an INDICATION (R67, R68, R71, R73,
R76, R87). -/
def State.reportInput (s : State) (kind : InputKind) (i : Nat) (level : Bool) (dating : Dating) (crossed : Bool) : State :=
  let c := s.inputConfig i
  let t := s.append dating (.input kind i level c.cls c.group crossed)
  if c.cls = .indication then t
  else t.send .tripNotice 31 (tripNoticeBytes s.log.next dating kind i level c.cls c.group crossed)

/-- One local trip more (R67). -/
def ShiftRecord.countTrip (r : ShiftRecord) : ShiftRecord := { r with localTrips := satInc countTop r.localTrips }

/-- An active-going INPUT_CHANGE of a PROTECTION or UNIT_TRIP input, the record having taken log sequence `seq`: the local
trip is counted, and the member handed to its group, if it has one (R67, R96). -/
def State.takeTrip (s : State) (i seq : Nat) (dating : Dating) : State :=
  let t := s.modShift ShiftRecord.countTrip
  if (s.inputConfig i).group = 0 then t
  else t.handMember (s.inputConfig i).group { station := s.ownNumber, input := i, logSeq := seq, dating := dating }

/-- An event handled in NORMAL by the class matrix (R67). -/
def State.inputChange (s : State) (i : Nat) (t : InputTest) (crossed : Bool) : State :=
  let u := s.reportInput .change i t.level t.dating crossed
  if t.level && decide ((s.inputConfig i).cls ≠ .indication) then u.takeTrip i s.log.next t.dating else u

/-- The latest trip association held by the tally unit (R69, R122). -/
def State.setAssociation (s : State) (onset : Nat) : State :=
  { s with tally := { s.tally with association := some onset } }

/-- The trip association of an active-going change of a UNIT_TRIP input (R69). -/
def State.associate (s : State) (i : Nat) (t : InputTest) : State :=
  if t.level && decide ((s.inputConfig i).cls = .unitTrip) then
    s.setAssociation t.elapsed
  else s

/-- The instant one chatter window from now. -/
def State.chatterHorizon (s : State) : Nat := s.tb.elapsed + s.cfg.chatterWindow * 1000000

/-- The channel after an event that is counted in NORMAL and does not reach the limit (R70). -/
def InputChannel.countEvent (c : InputChannel) (horizon : Nat) : InputChannel :=
  { c with events := satInc 31 c.events, windowEnd := if c.events = 0 then some horizon else c.windowEnd }

/-- The channel entering CHATTER (R71). -/
def InputChannel.enterChatter (c : InputChannel) (horizon : Nat) : InputChannel :=
  { c with chatter := true, events := satInc 31 c.events, windowEnd := none, quietEnd := some horizon }

/-- An event, the channel `c` holding its new recorded level (R66): tracked silently in CHATTER (R72), else counted, and
handled by the class matrix or entering CHATTER (R67, R70, R71). -/
def State.inputEvent (s : State) (i : Nat) (c : InputChannel) (t : InputTest) : State :=
  let crossed := decide (t.dating.g ≠ s.tb.g)
  let u := s.associate i t
  if c.chatter then u.setInput i { c with quietEnd := some s.chatterHorizon }
  else if s.cfg.chatterLimit ≤ c.events + 1 then
    (u.setInput i (c.enterChatter s.chatterHorizon)).reportInput .chatterStart i t.level t.dating crossed
  else (u.setInput i (c.countEvent s.chatterHorizon)).inputChange i t crossed

/-- A change that qualifies: the first after START sets the recorded level silently (R65), any other is an event (R66). -/
def State.inputQualifies (s : State) (i : Nat) (c : InputChannel) (t : InputTest) : State :=
  match c.recorded with
  | none   => s.setInput i { c with recorded := some t.level }
  | some _ => s.inputEvent i { c with recorded := some t.level } t

/-- One input sampled; a disabled one is not (R61). -/
def State.sampleInput (s : State) (lines : BitVec 16) (i : Nat) : State :=
  let c := s.inputConfig i
  if c.enabled then
    match (s.input i).sample c.q ⟨c.logical (lines.getLsbD i), s.tb.elapsed, s.dating⟩ with
    | (d, none)   => s.setInput i d
    | (d, some t) => s.inputQualifies i d t
  else s

/-- The order in which the inputs of one sample are taken: those an operand names, then the others in ascending order
(R68, log entry 12). -/
def sampleOrder (order : List Nat) : List Nat :=
  let named := (order.filter (· < 16)).eraseDups
  named ++ (List.range 16).filter fun i => !named.contains i

/-- INPUT_SAMPLE (R60, R63). -/
def execInputSample (lines : BitVec 16) (order : List Nat) (s : State) : Host.Outcome State Fault Refusal :=
  .next (if s.isRunning && decide (s.tb.elapsed % 250 = 0) then
      (sampleOrder order).foldl (fun t i => t.sampleInput lines i) s
    else s)

/-! ## The chatter monitor's instants (R70, R73) -/

/-- CHATTER_WINDOW_END (R70). -/
def execChatterWindowEnd (i : Nat) (s : State) : Host.Outcome State Fault Refusal :=
  .next (if s.isRunning && s.reached (s.input i).windowEnd then
      s.setInput i { s.input i with events := 0, windowEnd := none }
    else s)

/-- The channel after its CHATTER_END (R73). -/
def InputChannel.leaveChatter (c : InputChannel) : InputChannel :=
  { c with chatter := false, events := 0, quietEnd := none }

/-- CHATTER_END (R73, R74). -/
def execChatterEnd (i : Nat) (s : State) : Host.Outcome State Fault Refusal :=
  .next (if s.isRunning && (s.input i).chatter && s.reached (s.input i).quietEnd then
      (s.setInput i (s.input i).leaveChatter).reportInput .chatterEnd i ((s.input i).recorded.getD false) s.dating false
    else s)

/-! ## The groups' instants (R103, R106) -/

/-- GROUP_CLOSE (R103): station time is at or after an OPEN group's close instant. -/
def execGroupClose (g : Nat) (s : State) : Host.Outcome State Fault Refusal :=
  .next (if s.isRunning then s.closeIfDue g else s)

/-- GROUP_HOLD_END (R106). -/
def execGroupHoldEnd (g : Nat) (s : State) : Host.Outcome State Fault Refusal :=
  .next (if s.isRunning && decide ((s.group g).state = .closed) && s.reached (s.group g).holdEnd then
      s.setGroup g Group.idle
    else s)

end Sys2Proof.Machine
end

