-- ==== Sys2Proof/Machine/Modes.lean ====
section
/-! DEFINITION. The commands of the tally unit (spec/07): STATUS_SAMPLE, DWELL_END, ELAPSED_MILLISECOND_TICK. -/

namespace Sys2Proof.Machine

/-- An onset latch taken at a sample (R113). -/
def State.statusOnset (s : State) (comb : Nat) : StatusTest :=
  { comb := comb, elapsed := s.tb.elapsed, dating := s.dating, d := 0, ds := 0 }

/-- The state with the status qualifier's latch set or discarded. -/
def State.setStatusTest (s : State) (t : Option StatusTest) : State := { s with tally := { s.tally with qual := t } }

/-- A qualification begun with this sample as its onset; with Q = 0 the combination qualifies at once (R112). -/
def State.beginStatusTest (s : State) (comb : Nat) : State :=
  if s.cfg.qualMs = 0 then s.qualifyCombination (s.statusOnset comb) else s.setStatusTest (some (s.statusOnset comb))

/-- A sample of the status lines handled by the qualifier (R112). -/
def State.sampleStatus (s : State) (comb : Nat) : State :=
  match s.tally.qual with
  | some t =>
      if comb = t.comb then
        if t.elapsed + s.cfg.qualMs * 1000 ≤ s.tb.elapsed then s.qualifyCombination t else s
      else if s.tally.qualified = some comb then s.setStatusTest none
      else s.beginStatusTest comb
  | none => if s.tally.qualified = some comb then s else s.beginStatusTest comb

/-- STATUS_SAMPLE (R112): the six readings as a number, S0 counting 1. -/
def execStatusSample (lines : BitVec 6) (s : State) : Host.Outcome State Fault Refusal :=
  .next (if s.isRunning && decide (s.tb.elapsed % 250 = 0) then s.sampleStatus lines.toNat else s)

/-- DWELL_END (R116): the elapsed count has reached a present candidate's dwell end. -/
def execDwellEnd (s : State) : Host.Outcome State Fault Refusal :=
  .next (match s.isRunning, s.tally.candidate with
    | true, some c => if c.dwellEnd ≤ s.tb.elapsed then s.accept c else s
    | _, _ => s)

/-- ELAPSED_MILLISECOND_TICK (R1, R118): the elapsed count stands at a multiple of 1000; its value 0 at the end of a reset
is not a tick. -/
def execElapsedMillisecondTick (s : State) : Host.Outcome State Fault Refusal :=
  .next (if s.isRunning && decide (0 < s.tb.elapsed ∧ s.tb.elapsed % 1000 = 0) then s.creditTick else s)

end Sys2Proof.Machine
end

