-- ==== Sys2Proof/Machine/Requests.lean ====
section
/-! DEFINITION. The request commands (spec/10): each serves the oldest request of the queue when that request has its code
(R176, R178), reads or changes the block that owns the matter, and queues the ANSWER (R177, R179 to R185, R36). -/

namespace Sys2Proof.Machine

/-! ## Requests that read (R179 to R181) -/

/-- The content of a STATUS answer (R179, R36). -/
def State.statusContent (s : State) : List Byte :=
  beBytes 1 s.agr.state.code ++ beBytes 1 s.quality.val ++ s.tb.time.bytes ++ beBytes 1 s.tally.accepted.code
    ++ beBytes 1 s.tally.candidate.isSome.toNat ++ beBytes 2 (bitsNat s.alarmCauses) ++ beBytes 2 (bitsNat s.flags.list)
    ++ beBytes 2 s.log.records.length ++ beBytes 1 s.notices.length ++ beBytes 2 s.chA.collisions
    ++ beBytes 2 s.chB.collisions ++ beBytes 2 s.chA.errors ++ beBytes 2 s.chB.errors ++ beBytes 2 s.req.overflow
    ++ beBytes 2 s.req.lostAnswers ++ beBytes 2 s.store.dropped
    ++ beBytes 1 (bitsNat [s.chA.degraded, s.chB.degraded])

/-- STATUS served (R179). -/
def State.serveStatus (s : State) (r : Request) : State := s.answer r .ok s.statusContent

/-- STATUS (R179). -/
def execStatus (s : State) : Host.Outcome State Fault Refusal := .next (s.serve 1 State.serveStatus)

/-- The content of a READ TIME answer (R179, R36). -/
def State.timeContent (s : State) : List Byte :=
  s.tb.time.bytes ++ beBytes 1 s.tb.g ++ beBytes 1 s.quality.val ++ beInt 2 s.tb.a ++ beInt 2 s.agr.f

/-- READ TIME served (R179). -/
def State.serveReadTime (s : State) (r : Request) : State := s.answer r .ok s.timeContent

/-- READ_TIME (R179). -/
def execReadTime (s : State) : Host.Outcome State Fault Refusal := .next (s.serve 2 State.serveReadTime)

/-- A peer table entry in a READ PEERS answer (R36). -/
def Peer.bytes (p : Peer) (station : Nat) : List Byte :=
  beBytes 1 station ++ beBytes 1 (p.state.toNat % 128 + 128 * p.present.toNat) ++ beBytes 1 (p.statusFlags.toNat % 256)
    ++ beInt 4 (clampInt (-2147483647) 2147483647 p.offset) ++ beBytes 1 (bitsNat [p.far, p.heard, p.heardA, p.heardB])
    ++ beBytes 1 p.missed ++ optBytes 2 (p.window.map (·.h)) ++ beBytes 1 p.restarts

/-- The entry of a station as READ PEERS reports it; the own one at its reset value (R36, R38, R180). -/
def State.peerBytes (s : State) (n : Nat) : List Byte :=
  (if n = s.ownNumber then Peer.cleared else s.peers.getD n Peer.cleared).bytes n

/-- The stations that READ PEERS reports: from the first one upward, none beyond 30 (R180). -/
def peersAsked (first count : Nat) : List Nat := ((List.range count).map (first + ·)).filter (· ≤ 30)

/-- READ PEERS served (R180). -/
def State.serveReadPeers (s : State) (r : Request) : State :=
  let stations := peersAsked (byteAt r.params 0) (byteAt r.params 1)
  s.answer r .ok
    (beBytes 2 s.chA.collisions ++ beBytes 2 s.chB.collisions ++ beBytes 2 s.chA.errors ++ beBytes 2 s.chB.errors
      ++ beBytes 1 stations.length ++ stations.flatMap s.peerBytes)

/-- READ_PEERS (R180). -/
def execReadPeers (s : State) : Host.Outcome State Fault Refusal := .next (s.serve 3 State.serveReadPeers)

/-- The records that a FETCH LOG takes: the oldest, and a second when asked for and both fit in 42 bytes (R86). -/
def recordsFetched (l : List Record) (count : Nat) : List Record :=
  match l with
  | x :: y :: _ => if count = 2 ∧ x.bytes.length + y.bytes.length ≤ 42 then [x, y] else [x]
  | _ => l

/-- Records removed from the oldest end of the log (R86). -/
def TripLog.remove (l : TripLog) (n : Nat) : TripLog :=
  { l with records := l.records.drop n, get := (l.get + n) % 256 }

/-- FETCH LOG served (R86). -/
def State.serveFetchLog (s : State) (r : Request) : State :=
  let taken := recordsFetched s.log.records (byteAt r.params 0)
  if taken = [] then s.answer r .empty []
  else
    let t : State := { s with log := s.log.remove taken.length }
    t.answer r .ok (beBytes 1 taken.length ++ beBytes 2 t.log.records.length ++ taken.flatMap Record.bytes)

/-- FETCH_LOG (R86). -/
def execFetchLog (s : State) : Host.Outcome State Fault Refusal := .next (s.serve 4 State.serveFetchLog)

/-- A store read that a request needs: refused while the supply is not NORMAL, else waited for in service (R174, R176). -/
def State.beginRead (s : State) (r : Request) : State :=
  if s.supplyNormal then { s with req := { s.req with service := some (.storeRead r) } } else s.answer r .storeFault []

/-- READ_ARCHIVE (R174, R181). -/
def execReadArchive (s : State) : Host.Outcome State Fault Refusal := .next (s.serve 5 State.beginRead)

/-- FETCH NOTICES served (R93). -/
def State.serveFetchNotices (s : State) (r : Request) : State :=
  let taken := s.notices.take (byteAt r.params 0)
  if taken = [] then s.answer r .empty []
  else
    State.answer { s with notices := s.notices.drop (byteAt r.params 0) } r .ok
      (beBytes 1 taken.length ++ taken.flatMap fun n => beBytes 1 n.sender ++ n.payload)

/-- FETCH_NOTICES (R93). -/
def execFetchNotices (s : State) : Host.Outcome State Fault Refusal := .next (s.serve 6 State.serveFetchNotices)

/-- A member in a READ GROUP answer (R36). -/
def Member.bytes (m : Member) : List Byte :=
  beBytes 1 m.station ++ beBytes 1 m.input ++ beBytes 2 m.logSeq ++ m.dating.time.bytes ++ beBytes 1 m.dating.g
    ++ beBytes 1 m.dating.quality.val

/-- The content of a READ GROUP answer: the group's fields, then members 2 × part and 2 × part + 1 (R109, R36). -/
def Group.content (x : Group) (part : Nat) : List Byte :=
  beBytes 1 x.state.code ++ beBytes 1 x.members.length ++ beBytes 1 x.overflow ++ optBytes 1 x.firstOut
    ++ optTimeBytes x.t0 ++ ((x.members.drop (2 * part)).take 2).flatMap Member.bytes

/-- READ GROUP served (R109). -/
def State.serveReadGroup (s : State) (r : Request) : State :=
  s.answer r .ok ((s.group (byteAt r.params 0)).content (byteAt r.params 1))

/-- READ_GROUP (R109). -/
def execReadGroup (s : State) : Host.Outcome State Fault Refusal := .next (s.serve 7 State.serveReadGroup)

/-- READ TALLIES: the content by set and part (R132, R36). -/
def State.talliesContent (s : State) (set part : Nat) : List Byte :=
  beBytes 1 s.protectionBits ++ (match set, part with
    | 0, 0 => s.tally.lifetime.flatMap (beBytes 6)
    | 0, _ => s.tally.entries.flatMap (beBytes 3) ++ beBytes 3 s.tally.tripStops ++ beBytes 3 s.tally.normalStops
    | 1, _ => beBytes 6 s.tally.service ++ beBytes 2 s.cfg.serviceLimit ++ beBytes 1 s.tally.serviceDue.toNat
    | _, 0 => s.shift.current.durations.flatMap (beBytes 4) ++ beBytes 4 s.shift.current.powered
    | _, _ => s.shift.current.entries.flatMap (beBytes 3) ++ beBytes 3 s.shift.current.tripStops
                ++ beBytes 3 s.shift.current.normalStops)

/-- READ TALLIES served (R132). -/
def State.serveReadTallies (s : State) (r : Request) : State :=
  s.answer r .ok (s.talliesContent (byteAt r.params 0) (byteAt r.params 1))

/-- READ_TALLIES (R132). -/
def execReadTallies (s : State) : Host.Outcome State Fault Refusal := .next (s.serve 9 State.serveReadTallies)

/-- READ SHIFT served: the open shift at once, a closed one through the record store (R153, R174). -/
def State.serveReadShift (s : State) (r : Request) : State :=
  if byteAt r.params 0 = 0 then s.answer r .ok (shiftPartBytes s.shift.current none none (byteAt r.params 1))
  else s.beginRead r

/-- READ_SHIFT (R153, R181). -/
def execReadShift (s : State) : Host.Outcome State Fault Refusal := .next (s.serve 10 State.serveReadShift)

/-! ## Requests that change state (R108, R127 to R129, R183 to R185) -/

/-- ACK GROUP served (R108). -/
def State.serveAckGroup (s : State) (r : Request) : State :=
  match (s.group (byteAt r.params 0)).state with
  | .idle   => s.answer r .ok []
  | .opened => s.answer r .refusedState []
  | .closed => (s.setGroup (byteAt r.params 0) Group.idle).answer r .ok []

/-- ACK_GROUP (R108). -/
def execAckGroup (s : State) : Host.Outcome State Fault Refusal := .next (s.serve 8 State.serveAckGroup)

/-- The set that a request's set byte names. -/
def TallySet.ofCode (n : Nat) : TallySet := if n = 0 then .lifetime else .service

/-- The target of a PRESET TALLY (R127). -/
def TallyTarget.ofParams (p : List Byte) : TallyTarget :=
  if byteAt p 0 = 0 then .mode ((Mode.ofCode (byteAt p 1)).getD .standstill) else .service

/-- The set that a target belongs to. -/
def TallyTarget.set : TallyTarget → TallySet
  | .mode _  => .lifetime
  | .service => .service

/-- The value of the tally a target names. -/
def Tally.value (t : Tally) : TallyTarget → Nat
  | .mode m  => t.lifetime.getD m.code 0
  | .service => t.service

/-- The tally unit with the tally a target names set. -/
def Tally.setValue (t : Tally) (v : Nat) : TallyTarget → Tally
  | .mode m  => { t with lifetime := t.lifetime.set m.code v }
  | .service => { t with service := v }

/-- A set's protect bit. -/
def Tally.isProtected (t : Tally) : TallySet → Bool
  | .lifetime => t.protectLife
  | .service  => t.protectService

/-- The tally unit with a set's protect bit written. -/
def Tally.setProtect (t : Tally) (b : Bool) : TallySet → Tally
  | .lifetime => { t with protectLife := b }
  | .service  => { t with protectService := b }

/-- A set's lock-down bit. -/
def State.isLocked (s : State) : TallySet → Bool
  | .lifetime => s.lockLife
  | .service  => s.lockService

/-- The state with a set's lock-down bit set. -/
def State.lock (s : State) : TallySet → State
  | .lifetime => { s with lockLife := true }
  | .service  => { s with lockService := true }

/-- The service limit judged after an accepted PRESET of the service tally: service-due is cleared below the threshold and
set, with SERVICE_DUE, when it was clear at or above it (R125). -/
def State.judgePreset (s : State) : State :=
  if s.serviceReached then s.judgeService else s.setServiceDue false

/-- The tally a target names set to a value, which is clamped to its range (R127). -/
def State.setTally (s : State) (value : Nat) (target : TallyTarget) : State :=
  { s with tally := s.tally.setValue (min value tallyTop) target }

/-- A PRESET TALLY carried out (R127; log entry 15). -/
def State.preset (s : State) (target : TallyTarget) (value : Nat) : State :=
  let t := (s.setTally value target).appendNow (.preset target (s.tally.value target) (min value tallyTop))
  match target with
  | .service => t.judgePreset.requestCheckpoint false
  | .mode _  => t.requestCheckpoint false

/-- The state with PROTECTION_FAULT set. -/
def State.setProtectionFault (s : State) : State := { s with flags := { s.flags with protectionFault := true } }

/-- PRESET TALLY served: the tests of R127 in their order. -/
def State.servePreset (s : State) (r : Request) : State :=
  let target := TallyTarget.ofParams r.params
  if s.flags.protectionFault then s.answer r .flagPending []
  else if s.tally.candidate.isSome then s.answer r .modePending []
  else if s.tally.isProtected target.set then
    s.setProtectionFault.answer r .isProtected []
  else (s.preset target (fieldAt r.params 2 6)).answer r .ok []

/-- PRESET_TALLY (R127). -/
def execPresetTally (s : State) : Host.Outcome State Fault Refusal := .next (s.serve 11 State.servePreset)

/-- The state with a set's protect bit written. -/
def State.setProtect (s : State) (on : Bool) (set : TallySet) : State :=
  { s with tally := s.tally.setProtect on set }

/-- A protection action carried out: the record appended and a checkpoint requested (R128, R129). -/
def State.protect (s : State) (set : TallySet) (on : Bool) (action : ProtectAction) : State :=
  ((s.setProtect on set).appendNow (.protect set action)).requestCheckpoint false

/-- PROTECT TALLY served (R128). -/
def State.serveProtect (s : State) (r : Request) : State :=
  let set := TallySet.ofCode (byteAt r.params 0)
  if s.flags.protectionFault then s.answer r .flagPending []
  else if byteAt r.params 1 = 1 then (s.protect set true .on).answer r .ok []
  else if s.isLocked set then s.answer r .isProtected []
  else (s.protect set false .off).answer r .ok []

/-- PROTECT_TALLY (R128). -/
def execProtectTally (s : State) : Host.Outcome State Fault Refusal := .next (s.serve 12 State.serveProtect)

/-- LOCK DOWN TALLY served (R129). -/
def State.serveLockDown (s : State) (r : Request) : State :=
  let set := TallySet.ofCode (byteAt r.params 0)
  if s.flags.protectionFault then s.answer r .flagPending []
  else ((s.lock set).protect set true .lockDown).answer r .ok []

/-- LOCK_DOWN_TALLY (R129). -/
def execLockDownTally (s : State) : Host.Outcome State Fault Refusal := .next (s.serve 13 State.serveLockDown)

/-- Seconds-known set and the agreement unit's counts 0 (R17, R58). -/
def State.knowSeconds (s : State) : State :=
  { s with
    tb := { s.tb with secondsKnown := true }
    agr := { s.agr with good := 0, disagree := 0, holdover := 0 } }

/-- An accepted SET TIME (R7, R58, R183): seconds-known is set, the counts are 0, and station time steps to the value
asked, into ANCHORED with a valid mark and into JOINING without one. -/
def State.setTime (s : State) (asked : StationTime) (closeFirst : List Nat) : State :=
  s.knowSeconds.step ((asked.instant : Int) - s.instant) .set (if s.marks.valid then .anchored else .joining) closeFirst

/-- SET TIME served (R183). -/
def State.serveSetTime (closeFirst : List Nat) (s : State) (r : Request) : State :=
  if s.agr.state = .free ∨ s.marks.valid = true then
    let t := s.setTime ⟨fieldAt r.params 0 4, fieldAt r.params 4 4⟩ closeFirst
    t.answer r .ok (t.tb.time.bytes ++ beBytes 1 t.tb.g)
  else s.answer r .refusedState []

/-- SET_TIME (R183). -/
def execSetTime (closeFirst : List Nat) (s : State) : Host.Outcome State Fault Refusal :=
  .next (s.serve 14 (State.serveSetTime closeFirst))

/-- Every region's stopped mark cleared (R168, R184). -/
def Store.clearStopped (st : Store) : Store :=
  { st with
    journal := { st.journal with stopped := false }
    shifts := { st.shifts with stopped := false }
    trips := { st.trips with stopped := false } }

/-- Whether a mask names STORE_PROGRAM_FAULT or STORE_ERASE_FAULT. -/
def namesStoreFault (mask : Nat) : Bool := mask.testBit 4 || mask.testBit 5

/-- The clearing of a CLEAR FLAGS (R184). -/
def State.clearFlags (s : State) (r : Request) : State :=
  let mask := fieldAt r.params 0 2
  { s with
    flags := s.flags.clearMask mask
    store := if namesStoreFault mask then s.store.clearStopped else s.store }

/-- The clearing taken, and the request held in service until its answer is queued (R184, log entry 42). -/
def State.serveClearFlags (s : State) (r : Request) : State :=
  let t := s.clearFlags r
  { t with req := { t.req with service := some (.clearFlags r) } }

/-- CLEAR_FLAGS (R184): the oldest request's clearing. DESIGN CHOICE (log entry 42): its answer is queued by a second
CLEAR_FLAGS, or else before the elapsed microsecond ends, and shows a flag that was set again in between. -/
def execClearFlags (s : State) : Host.Outcome State Fault Refusal :=
  .next (if s.clearingHeld then s.endClearFlags else s.serve 15 State.serveClearFlags)

/-- RESTART served: answered, and the handler stays in its service until the reset (R185). -/
def State.serveRestart (s : State) (r : Request) : State :=
  let t := s.answer r .ok []
  { t with req := { t.req with service := some (.restart s.senderSeq s.tb.elapsed) } }

/-- RESTART (R185). -/
def execRestart (s : State) : Host.Outcome State Fault Refusal := .next (s.serve 16 State.serveRestart)

/-- UNKNOWN_REQUEST (R178): the oldest request has a code outside 1 to 16. -/
def execUnknownRequest (s : State) : Host.Outcome State Fault Refusal :=
  .next (match s.oldestRequest with
    | some r => if 1 ≤ r.code ∧ r.code ≤ 16 then s else s.popRequest.answer r .unknownRequest []
    | none => s)

end Sys2Proof.Machine
end

