-- ==== Sys2Proof/Machine/Resets.lean ====
section
/-! DEFINITION. The resets and START (spec/11, with R18, R42, R81, R131, R150, R173): RESTART_RESET, POWER_ON,
SUPPLY_RESET, RESET_LINE, START. -/

namespace Sys2Proof.Machine

/-! ## Resets (R186) -/

/-- The place of a kind in R186's order of causes: POWER_ON, SUPPLY_LOW, RESET_LINE, RESTART. It is not the order of the
codes of R37. -/
def ResetCause.rank : ResetCause → Nat
  | .powerOn   => 0
  | .supplyLow => 1
  | .resetLine => 2
  | .restart   => 3

/-- The cause that is named first in R186's order among the kinds of one reset period. -/
def ResetCause.merge (a b : ResetCause) : ResetCause := if a.rank ≤ b.rank then a else b

/-- The reset cause of the period once a reset of kind `c` has arisen (R186). -/
def Phase.causeWith (p : Phase) (c : ResetCause) : ResetCause :=
  match p with
  | .inReset d => d.merge c
  | .running   => c

/-- The kinds of reset that clear the lock-down latch (R126, R186). -/
def ResetCause.clearsLock : ResetCause → Bool
  | .powerOn   => true
  | .supplyLow => true
  | _          => false

/-- The state with every volatile block at its reset value and the array holding `pages` (R186 and the table of each
chapter). The configuration, the straps' readings, the lock-down latch, the waiting commands and what has been driven out
are not touched. -/
def State.clearVolatile (s : State) (pages : List Page) : State :=
  { s with
    flags := StickyFlags.clear
    tb := Timebase.cleared
    marks := MarkMonitor.cleared
    agr := Agreement.free 0
    peers := List.replicate 31 Peer.cleared
    chA := LineController.cleared 0
    chB := LineController.cleared 0
    senderSeq := 0
    inputs := List.replicate 16 InputChannel.cleared
    log := TripLog.empty 0
    notices := []
    groups := List.replicate 7 Group.idle
    tally := Tally.blank false false
    shift := ShiftUnit.cleared
    store := Store.cleared pages
    supply := SupplyMonitor.normal
    req := RequestHandler.cleared }

/-- A reset of a kind taken: the part is held in reset (R186), the array as a word program or erase cut off leaves it
(R154). -/
def State.enterReset (s : State) (c : ResetCause) : State :=
  { s.clearVolatile (s.store.cutOff s.freeIndex) with
    phase := .inReset (s.phase.causeWith c)
    lockLife := s.lockLife && !c.clearsLock
    lockService := s.lockService && !c.clearsLock
    freeIndex := s.freeIndex + 1 }

/-- POWER_ON (R186). -/
def execPowerOn (s : State) : Host.Outcome State Fault Refusal := .next (s.enterReset .powerOn)

/-- SUPPLY_RESET (R186, R169): the supply falls below 3.90 V. DESIGN CHOICE (log entry 41, unsafe): a fall while the part
is only held in reset is a supply reset too, in every phase alike; R186 names the running part and START, R169 any state. -/
def execSupplyReset (supply : Nat) (s : State) : Host.Outcome State Fault Refusal :=
  .next (if supply < 3900 then s.enterReset .supplyLow else s)

/-- RESET_LINE (R186). -/
def execResetLine (s : State) : Host.Outcome State Fault Refusal := .next (s.enterReset .resetLine)

/-- Whether a copy of the ANSWER of a sender sequence stands in a transmit list. DESIGN CHOICE (log entry 44, unsafe): a
copy is known by its kind and its sender sequence. -/
def LineController.holdsAnswer (lc : LineController) (seq : Nat) : Bool :=
  lc.list.any fun c => decide (c.kind = .answer ∧ c.seq = seq)

/-- RESTART_RESET (R185): both copies of the RESTART's answer have left their lists, or 100,000 µs have passed. -/
def execRestartReset (s : State) : Host.Outcome State Fault Refusal :=
  .next (match s.isRunning, s.req.service with
    | true, some (.restart seq queuedAt) =>
        if !(s.chA.holdsAnswer seq || s.chB.holdsAnswer seq) || decide (queuedAt + 100000 ≤ s.tb.elapsed) then
          s.enterReset .restart
        else s
    | _, _ => s)

/-! ## START (R187) -/

/-- Station time advanced through elapsed microseconds of START, in which no station second is signalled (R9, R18). -/
def Timebase.advanceBy (tb : Timebase) : Nat → Timebase
  | 0     => tb
  | n + 1 => Timebase.advance (tb.advanceBy n)

/-- The timebase running on to an elapsed count within START. -/
def Timebase.runTo (tb : Timebase) (count : Nat) : Timebase :=
  { tb.advanceBy (count - tb.elapsed) with elapsed := count }

/-- The frequency term taken up at START (R42). -/
def recoveredF : Option Checkpoint → Int
  | some c => clampInt (-2516) 2516 c.f
  | none   => 0

/-- The timebase as the fourth step of START initialises it at an elapsed count (R18). -/
def Timebase.initial (ck : Option Checkpoint) (count : Nat) : Timebase :=
  { Timebase.cleared with
    elapsed := count
    time := ⟨(ck.map (·.time.s)).getD 0, 0⟩
    a := clampInt (-3355) 3355 (recoveredF ck) }

/-- The next log sequence taken from the checkpoint and the newest archive record (R81). -/
def nextLogAtStart : Option Nat → Option Nat → Nat
  | some c, some n => if ((n + 1) % 65536 + 65536 - c) % 65536 ≤ 32768 then (n + 1) % 65536 else c
  | some c, none   => c
  | none, some n   => (n + 1) % 65536
  | none, none     => 0

/-- The tally unit restored at START (R131, R126). -/
def Tally.restored (cfg : Configuration) (lockLife lockService : Bool) : Option Checkpoint → Tally
  | some c =>
      { Tally.blank (c.protectLife || lockLife) (c.protectService || lockService) with
        accepted := c.accepted, lifetime := c.lifetime, entries := c.entries, tripStops := c.tripStops,
        normalStops := c.normalStops, service := c.service, serviceDue := c.serviceDue }
  | none => Tally.blank (cfg.protectLife || lockLife) (cfg.protectService || lockService)

/-- The shift unit at the end of START, station time being `now` (R150, R136). -/
def ShiftUnit.atStart (now : StationTime) : Option Checkpoint → ShiftUnit
  | some c => { current := c.shift, state := .running, deferred := true, recovered := some c.time }
  | none   =>
      { current := ShiftRecord.opening none ⟨now, 0, 3⟩ .powerUp none, state := .running, deferred := true,
        recovered := none }

/-- CONFIG_FAULT as the first two steps of START leave it (R191, R192). -/
def startConfigFault (i : StartInputs) : Bool :=
  decide ((loadConfiguration i.memory).status = .faulted) || decide (i.straps.toNat = 31)

/-- The START record (R188). -/
def startRecord (cause : ResetCause) (i : StartInputs) (f : ScanFindings) : RecordBody :=
  .start cause (f.checkpoint.map Prod.fst) f.torn f.queued f.interrupted
    (decide ((loadConfiguration i.memory).status = .clamped)) (startConfigFault i)

/-- Steps 1 to 4 of START: configuration, straps, store recovery and initialisation (R187). -/
def State.initialise (s : State) (i : StartInputs) : State :=
  let base := s.clearVolatile s.store.pages
  let found := base.store.findings
  let ck := found.checkpoint.map Prod.snd
  let cfg := loadConfiguration i.memory
  { base with
    cfg := cfg
    ownNumber := strapNumber i.straps
    console := i.cons
    flags := { base.flags with configFault := (startConfigFault i) }
    tb := Timebase.initial ck i.initAt
    agr := Agreement.free (recoveredF ck)
    log := TripLog.empty (nextLogAtStart (ck.map (·.nextLog)) found.newest)
    tally := Tally.restored cfg s.lockLife s.lockService ck
    store := base.store.scan }

/-- Step 5 of START: the START record (R188). -/
def State.recordStart (s : State) (cause : ResetCause) (i : StartInputs) (f : ScanFindings) : State :=
  State.appendNow { s with tb := s.tb.runTo i.recordAt } (startRecord cause i f)

/-- The end of START: every block begins its work (R189, R150). -/
def State.begin (s : State) (i : StartInputs) (ck : Option Checkpoint) : State :=
  let tb := s.tb.runTo i.endAt
  State.takeQuality
    { s with
      phase := .running
      tb := tb
      chA := LineController.cleared i.endAt
      chB := LineController.cleared i.endAt
      shift := ShiftUnit.atStart tb.time ck
      store := { s.store with timer := some (i.endAt + s.cfg.checkpointEvery * 1000000) } }

/-- A completed START (R187), with the warning taken at once where the supply is below the threshold (R169). -/
def State.runStart (s : State) (cause : ResetCause) (i : StartInputs) : State :=
  let found := (Store.cleared s.store.pages).findings
  let t := ((s.initialise i).recordStart cause i found).begin i (found.checkpoint.map Prod.snd)
  if i.supply < t.cfg.warningMv then t.takeWarning else t

/-- Every reset condition of the period has gone (R169, R186): RST is high, and after a power-on or a supply reset the
supply has risen above 4.00 V. A period's cause is one of these two whenever one of them arose in it. -/
def resetReleased (cause : ResetCause) (i : StartInputs) : Bool :=
  i.rstHigh && (match cause with
    | .powerOn   => decide (4000 < i.released)
    | .supplyLow => decide (4000 < i.released)
    | _          => true)

/-- The operands tell of a START that has run to its end: its steps follow one another and the supply has not fallen below
3.90 V (R186, R187; log entry 7). -/
def startCompletes (i : StartInputs) : Bool :=
  decide (i.initAt ≤ i.recordAt ∧ i.recordAt ≤ i.endAt ∧ 3900 ≤ i.supply)

/-- START (R186, R187): it runs once every reset condition has gone. -/
def execStart (i : StartInputs) (s : State) : Host.Outcome State Fault Refusal :=
  .next (match s.phase with
    | .inReset cause => if resetReleased cause i && startCompletes i then s.runStart cause i else s
    | .running => s)

end Sys2Proof.Machine
end

