-- ==== Sys2Proof/Machine/StoreSteps.lean ====
section
/-! DEFINITION. The commands of the record store and of the supply monitor (spec/09): CHECKPOINT_INTERVAL_EXPIRY,
STORE_WRITE_BEGIN, STORE_WRITE_END, ERASE_BEGIN, ERASE_SUSPEND, ERASE_RESUME, ERASE_COMPLETE, ERASE_FAIL, STORE_READ,
SUPPLY_WARNING, SUPPLY_RISE, SUPPLY_HOLD_FALL, POWER_DIP. -/

namespace Sys2Proof.Machine

/-! ## Checkpoints and writing (R158, R159, R163) -/

/-- CHECKPOINT_INTERVAL_EXPIRY (R163): the timer has expired; it starts again whether or not its request fills the
image. -/
def execCheckpointIntervalExpiry (s : State) : Host.Outcome State Fault Refusal :=
  .next (if s.isRunning && s.reached s.store.timer then (s.requestCheckpoint false).restartTimer else s)

/-- The entry the controller begins next and its append point, when it may begin one: nothing is being programmed, no read
waits and no erase runs (R158, R160, R154). -/
def State.recordToBegin (s : State) : Option (Nat × Entry × Nat × Nat) :=
  if s.isRunning && s.store.programming.isNone && !s.readWaiting && !s.store.eraseRunning then do
    let i ← s.store.nextEntry
    let e ← s.store.queue[i]?
    let (page, slot) ← s.store.appendPoint e.kind.region
    return (i, e, page, slot)
  else none

/-- STORE_WRITE_BEGIN (R158). -/
def execStoreWriteBegin (s : State) : Host.Outcome State Fault Refusal :=
  .next (match s.recordToBegin with
    | some (i, e, page, slot) => { s with store := s.store.beginRecord i e page slot }
    | none => s)

/-- The record in programming with its entry's place and its entry. -/
def State.recordInHand (s : State) : Option (Programming × Nat × Entry) :=
  if s.isRunning then do
    let p ← s.store.programming
    let i ← s.store.queue.findIdx? (·.busy)
    let e ← s.store.queue[i]?
    return (p, i, e)
  else none

/-- STORE_WRITE_END (R158, R159): the programming ends, every word verified or one failed. -/
def execStoreWriteEnd (verified : Bool) (s : State) : Host.Outcome State Fault Refusal :=
  .next (match s.recordInHand with
    | some (p, i, e) => if verified then s.recordWritten p i e else s.recordFailed p i e
    | none => s)

/-! ## Erasing (R165 to R167) -/

/-- ERASE_BEGIN (R165; log entry 18 for a read that waits). -/
def execEraseBegin (s : State) : Host.Outcome State Fault Refusal :=
  .next (match s.store.eraseList with
    | p :: rest =>
        if s.isRunning && s.store.erase.isNone && s.store.programming.isNone && !s.readWaiting && s.supplyNormal then
          { s with store := s.store.beginErase p rest s.tb.elapsed }
        else s
    | [] => s)

/-- The erase in hand while it runs. -/
def State.runningErase (s : State) : Option EraseInHand :=
  if s.isRunning then s.store.erase.filter (·.running) else none

/-- ERASE_SUSPEND (R166): a record or a read waits and the erase has run 10 ms since it was begun or last resumed. -/
def execEraseSuspend (s : State) : Host.Outcome State Fault Refusal :=
  .next (match s.runningErase with
    | some e =>
        if e.since + 10000 ≤ s.tb.elapsed ∧ (s.readWaiting = true ∨ s.store.nextEntry.isSome = true) then
          { s with store := { s.store with
              erase := some { e with running := false, ran := e.runningTime s.tb.elapsed } } }
        else s
    | none => s)

/-- ERASE_RESUME (R166): no read waits and no entry can be served. -/
def execEraseResume (s : State) : Host.Outcome State Fault Refusal :=
  .next (match s.store.erase with
    | some e =>
        if s.isRunning && !e.running && s.store.programming.isNone && !s.readWaiting && s.store.nextEntry.isNone then
          { s with store := { s.store with erase := some { e with running := true, since := s.tb.elapsed } } }
        else s
    | none => s)

/-- ERASE_COMPLETE (R154, R157): the page reads blank after a running time of 40 to 120 ms. -/
def execEraseComplete (s : State) : Host.Outcome State Fault Refusal :=
  .next (match s.runningErase with
    | some e =>
        if 40000 ≤ e.runningTime s.tb.elapsed ∧ e.runningTime s.tb.elapsed ≤ 120000 then
          { s with store := s.store.completeErase e.page }
        else s
    | none => s)

/-- ERASE_FAIL (R167): the erase has run 120 ms and the page does not read blank. -/
def execEraseFail (s : State) : Host.Outcome State Fault Refusal :=
  .next (match s.runningErase with
    | some e => if 120000 ≤ e.runningTime s.tb.elapsed then s.failErase e.page else s
    | none => s)

/-! ## Reading (R174, R181, R153) -/

/-- The answer to READ ARCHIVE: its status and content (R181). With a count of 2 the next older record comes first where
there is one and both fit. -/
def archiveAnswer (records : List Record) (i count : Nat) : Status × List Byte :=
  match records[i]? with
  | none => (.empty, [])
  | some r =>
      match (if count = 2 then records[i + 1]? else none) with
      | some older =>
          if older.bytes.length + r.bytes.length ≤ 44 then (.ok, beBytes 1 2 ++ older.bytes ++ r.bytes)
          else (.ok, beBytes 1 1 ++ r.bytes)
      | none => (.ok, beBytes 1 1 ++ r.bytes)

/-- The answer to READ SHIFT for an index of 1 or more (R153, R174). -/
def shiftAnswer (records : List (ClosedShift × Option Nat)) (i part : Nat) : Status × List Byte :=
  match records[i - 1]? with
  | none => (.empty, [])
  | some (c, stored) => (.ok, shiftPartBytes c.shift (some (c.closedAt, c.closedG, c.cause)) stored part)

/-- What a store read answers to its request: READ ARCHIVE or READ SHIFT. -/
def State.storeAnswer (s : State) (r : Request) : Status × List Byte :=
  if r.code = 5 then archiveAnswer s.store.archiveDown (fieldAt r.params 0 2) (byteAt r.params 2)
  else shiftAnswer s.store.shiftsDown (byteAt r.params 0) (byteAt r.params 1)

/-- STORE_READ (R174): a waiting read is made, with no record being programmed, no erase running and the supply NORMAL;
the request is answered and its service ends. -/
def execStoreRead (s : State) : Host.Outcome State Fault Refusal :=
  .next (match s.req.service with
    | some (.storeRead r) =>
        if s.isRunning && s.store.programming.isNone && !s.store.eraseRunning && s.supplyNormal then
          State.answer { s with req := { s.req with service := none } } r (s.storeAnswer r).1 (s.storeAnswer r).2
        else s
    | _ => s)

/-! ## The supply monitor (R169 to R171) -/

/-- SUPPLY_WARNING (R169, R170): in NORMAL the supply falls below the warning threshold. -/
def execSupplyWarning (supply : Nat) (s : State) : Host.Outcome State Fault Refusal :=
  .next (if s.isRunning && s.supplyNormal && decide (supply < s.cfg.warningMv) then s.takeWarning else s)

/-- The state with the supply monitor replaced. -/
def State.setSupply (s : State) (m : SupplyMonitor) : State := { s with supply := m }

/-- SUPPLY_RISE (R169): in WARNING the supply rises above the threshold + 100 mV. -/
def execSupplyRise (supply : Nat) (s : State) : Host.Outcome State Fault Refusal :=
  .next (if s.isRunning && decide (s.supply.state = .warning) && decide (s.cfg.warningMv + 100 < supply) then
      s.setSupply { s.supply with state := .hold, riseAt := s.tb.elapsed, holdEnd := some (s.tb.elapsed + 50000) }
    else s)

/-- SUPPLY_HOLD_FALL (R169): in HOLD the supply falls to the threshold + 100 mV or below; no new warning is taken. -/
def execSupplyHoldFall (supply : Nat) (s : State) : Host.Outcome State Fault Refusal :=
  .next (if s.isRunning && decide (s.supply.state = .hold) && decide (supply ≤ s.cfg.warningMv + 100) then
      s.setSupply { s.supply with state := .warning, holdEnd := none }
    else s)

/-- The abandoned page put on the erase list (R171). -/
def Store.requeueAbandoned (st : Store) : Store :=
  { st with eraseList := st.eraseList ++ st.abandoned.toList, abandoned := none }

/-- POWER_DIP (R169, R171): in HOLD the elapsed count reaches the hold end. -/
def execPowerDip (s : State) : Host.Outcome State Fault Refusal :=
  .next (if s.isRunning && decide (s.supply.state = .hold) && s.reached s.supply.holdEnd then
      State.appendNow
        { s with
          supply := { s.supply with state := .normal, holdEnd := none }
          store := s.store.requeueAbandoned }
        (.powerDip ((s.supply.riseAt - s.supply.warnAt) / 1000) s.store.abandoned.isSome)
    else s)

end Sys2Proof.Machine
end

