-- ==== Sys2Proof/Machine/Timebase.lean ====
section
/-! DEFINITION. The timebase's commands (spec/01): ELAPSED_MICROSECOND, SECOND_MARK_PULSE_END, MARK, MARK_TIMEOUT. -/

namespace Sys2Proof.Machine

/-- One elapsed microsecond counted and station time advanced (R1, R3). -/
def State.tick (s : State) : State := { s with tb := s.tb.tick }

/-- What is still due of an elapsed microsecond as the next one begins: a station second (log entry 6), and the answer of a
CLEAR FLAGS (log entry 42). -/
def State.endMicrosecond (s : State) (order : SecondOrder) : State := (s.deliverSecond order).endClearFlags

/-- The part of an elapsed microsecond that a command takes (log entry 6). What is still due of the one before is taken
before the advance. -/
def State.microsecond (s : State) (part : MicroPart) (order : SecondOrder) : State :=
  match part with
  | .whole   => (s.endMicrosecond order).tick.deliverSecond order
  | .advance => (s.endMicrosecond order).tick
  | .signal  => s.deliverSecond order

/-- ELAPSED_MICROSECOND (R3). In reset the elapsed count stays at 0 (R1). -/
def execElapsedMicrosecond (part : MicroPart) (order : SecondOrder) (s : State) : Host.Outcome State Fault Refusal :=
  .next (if s.isRunning then s.microsecond part order else s)

/-- SECOND_MARK_PULSE_END (R12): the elapsed count reaches the pulse end and SMO goes low. -/
def execSecondMarkPulseEnd (s : State) : Host.Outcome State Fault Refusal :=
  .next (if s.isRunning && s.reached s.tb.pulseEnd then { s with tb := { s.tb with pulseEnd := none } } else s)

/-- The phase error of a mark taken at `u` µs of a second (R16). -/
def phaseError (u : Nat) : Int := if u < 500000 then -(u : Int) else 1000000 - u

/-- Whether an interval between marks is consistent (R14). -/
def consistentInterval (i : Nat) : Bool := decide (999000 ≤ i ∧ i ≤ 1001000)

/-- A mark judged by its interval from the previous one, and its phase error formed (R14, R16). -/
def MarkMonitor.take (m : MarkMonitor) (now u : Nat) : MarkMonitor :=
  let judged : Nat × Bool := match m.prev with
    | none => (0, m.valid)
    | some p =>
        if consistentInterval (now - p) then (min 3 (m.run + 1), m.valid || decide (3 ≤ m.run + 1)) else (0, false)
  { prev := some now, run := judged.1, valid := judged.2, phase := some (phaseError u) }

/-- MARK (R14): a rising edge, while the part runs and the mark is enabled (R13). -/
def execMark (s : State) : Host.Outcome State Fault Refusal :=
  .next (if s.isRunning && s.cfg.markEnable then { s with marks := s.marks.take s.tb.elapsed s.tb.time.u } else s)

/-- MARK_TIMEOUT (R15): 1,500,000 µs have passed since the previous mark. -/
def execMarkTimeout (s : State) : Host.Outcome State Fault Refusal :=
  .next (if s.isRunning && s.reached (s.marks.prev.map (· + 1500000)) then { s with marks := MarkMonitor.cleared } else s)

end Sys2Proof.Machine
end

