-- ==== Sys2Proof/Machine/Dispatch.lean ====
section
/-! DEFINITION. The dispatch of the commands: one arm and one meaning for each row of the table. -/

namespace Sys2Proof.Machine

-- The effect of a command on everything but the queue of waiting commands.
def exec (i : Instr) (s : State) : Host.Outcome State Fault Refusal :=
  match i with
  | .elapsedMicrosecond part order => Sys2Proof.Machine.execElapsedMicrosecond part order s
  | .secondMarkPulseEnd => Sys2Proof.Machine.execSecondMarkPulseEnd s
  | .mark => Sys2Proof.Machine.execMark s
  | .markTimeout => Sys2Proof.Machine.execMarkTimeout s
  | .channelQuiet ch => Sys2Proof.Machine.execChannelQuiet ch s
  | .channelActivity ch => Sys2Proof.Machine.execChannelActivity ch s
  | .deferralEnd ch => Sys2Proof.Machine.execDeferralEnd ch s
  | .beaconStamp ch => Sys2Proof.Machine.execBeaconStamp ch s
  | .collision ch => Sys2Proof.Machine.execCollision ch s
  | .sendingComplete ch => Sys2Proof.Machine.execSendingComplete ch s
  | .timingMark ch => Sys2Proof.Machine.execTimingMark ch s
  | .reception ch data oddBits => Sys2Proof.Machine.execReception ch data oddBits s
  | .consoleRequest target payload => Sys2Proof.Machine.execConsoleRequest target payload s
  | .consoleHandoverNotice payload => Sys2Proof.Machine.execConsoleHandoverNotice payload s
  | .inputSample lines order => Sys2Proof.Machine.execInputSample lines order s
  | .chatterWindowEnd input => Sys2Proof.Machine.execChatterWindowEnd input s
  | .chatterEnd input => Sys2Proof.Machine.execChatterEnd input s
  | .groupClose group => Sys2Proof.Machine.execGroupClose group s
  | .groupHoldEnd group => Sys2Proof.Machine.execGroupHoldEnd group s
  | .statusSample lines => Sys2Proof.Machine.execStatusSample lines s
  | .dwellEnd => Sys2Proof.Machine.execDwellEnd s
  | .elapsedMillisecondTick => Sys2Proof.Machine.execElapsedMillisecondTick s
  | .checkpointIntervalExpiry => Sys2Proof.Machine.execCheckpointIntervalExpiry s
  | .storeWriteBegin => Sys2Proof.Machine.execStoreWriteBegin s
  | .storeWriteEnd verified => Sys2Proof.Machine.execStoreWriteEnd verified s
  | .eraseBegin => Sys2Proof.Machine.execEraseBegin s
  | .eraseSuspend => Sys2Proof.Machine.execEraseSuspend s
  | .eraseResume => Sys2Proof.Machine.execEraseResume s
  | .eraseComplete => Sys2Proof.Machine.execEraseComplete s
  | .eraseFail => Sys2Proof.Machine.execEraseFail s
  | .storeRead => Sys2Proof.Machine.execStoreRead s
  | .supplyWarning supply => Sys2Proof.Machine.execSupplyWarning supply s
  | .supplyRise supply => Sys2Proof.Machine.execSupplyRise supply s
  | .supplyHoldFall supply => Sys2Proof.Machine.execSupplyHoldFall supply s
  | .powerDip => Sys2Proof.Machine.execPowerDip s
  | .status => Sys2Proof.Machine.execStatus s
  | .readTime => Sys2Proof.Machine.execReadTime s
  | .readPeers => Sys2Proof.Machine.execReadPeers s
  | .fetchLog => Sys2Proof.Machine.execFetchLog s
  | .readArchive => Sys2Proof.Machine.execReadArchive s
  | .fetchNotices => Sys2Proof.Machine.execFetchNotices s
  | .readGroup => Sys2Proof.Machine.execReadGroup s
  | .ackGroup => Sys2Proof.Machine.execAckGroup s
  | .readTallies => Sys2Proof.Machine.execReadTallies s
  | .readShift => Sys2Proof.Machine.execReadShift s
  | .presetTally => Sys2Proof.Machine.execPresetTally s
  | .protectTally => Sys2Proof.Machine.execProtectTally s
  | .lockDownTally => Sys2Proof.Machine.execLockDownTally s
  | .setTime closeFirst => Sys2Proof.Machine.execSetTime closeFirst s
  | .clearFlags => Sys2Proof.Machine.execClearFlags s
  | .restart => Sys2Proof.Machine.execRestart s
  | .restartReset => Sys2Proof.Machine.execRestartReset s
  | .powerOn => Sys2Proof.Machine.execPowerOn s
  | .supplyReset supply => Sys2Proof.Machine.execSupplyReset supply s
  | .resetLine => Sys2Proof.Machine.execResetLine s
  | .start inputs => Sys2Proof.Machine.execStart inputs s
  | .unknownRequest => Sys2Proof.Machine.execUnknownRequest s

end Sys2Proof.Machine
end

