-- ==== Sys2Proof/Safety.lean ====
section
/-! DEFINITION. What the statements are made of: the invariants that every step keeps, each a property of the whole state,
and the words in which a statement says where a command has its effect. -/

namespace Sys2Proof.Machine

/-! ## Where a command has its effect -/

/-- `r` is the request that the part serves next: it runs, serves none, and `r` is the oldest in the queue (R176). -/
def State.servesNext (s : State) (r : Request) : Prop :=
  s.phase = .running ∧ s.req.service = none ∧ s.req.queue.head? = some r

/-- Only input `i` is enabled. -/
def State.onlyInput (s : State) (i : Nat) : Prop :=
  s.inputs.length = 16 ∧ i < 16 ∧ (s.inputConfig i).enabled = true ∧ ∀ j, j ≠ i → (s.inputConfig j).enabled = false

/-- The copy being sent on a channel: its place in the list and the elapsed count at which its sending began. -/
def LineController.sends (lc : LineController) (i : Nat) (c : Copy) (t : Nat) : Prop :=
  lc.sendingAt = some (i, t) ∧ lc.list[i]? = some c

/-! ## Invariants -/

/-- The trip log holds at most 256 records, and from oldest to newest their log sequences are consecutive modulo 65536,
the next log sequence following the newest (R79, R82, R83). -/
def TripLog.Consecutive (l : TripLog) : Prop :=
  l.records.length ≤ 256 ∧ l.get < 256
    ∧ ∀ i r, l.records[i]? = some r → (r.seq + (l.records.length - i)) % 65536 = l.next % 65536

/-- Every queue holds no more than its places: trip log 256, notices 64, requests 4, transmit lists 8, write queue 16
(R82, R89, R175, R24, R160). -/
def State.Bounded (s : State) : Prop :=
  s.log.records.length ≤ 256 ∧ s.notices.length ≤ 64 ∧ s.req.queue.length ≤ 4
    ∧ s.chA.list.length ≤ 8 ∧ s.chB.list.length ≤ 8 ∧ s.store.queue.length ≤ 16

/-- The rate adjustment within ±3355, the accumulator strictly within ±2^24, F within ±2516, G below 256 and U below a
million (R2, R3, R4, R42). -/
def State.RatesInRange (s : State) : Prop :=
  s.tb.a.natAbs ≤ 3355 ∧ s.tb.acc.natAbs < 16777216 ∧ s.agr.f.natAbs ≤ 2516 ∧ s.tb.g < 256 ∧ s.tb.time.u < 1000000

/-- A group's list stands in list order, holds at most 16 members, and the first-out is the best-ranked of them; an IDLE
group lists none (R98, R99, R100, R103). -/
def Group.Ranked (x : Group) : Prop :=
  x.members.length ≤ 16 ∧ x.members.Pairwise (fun a b => b.before a = false) ∧ x.firstOut = bestRanked x.members
    ∧ (x.state = .idle → x.members = []) ∧ (x.state ≠ .idle → x.members ≠ [])

/-- Every group is ranked. -/
def State.GroupsRanked (s : State) : Prop := s.groups.length = 7 ∧ ∀ x ∈ s.groups, x.Ranked

/-- While the part runs, a set locked down is protected (R126). -/
def State.LockedProtected (s : State) : Prop :=
  s.phase = .running →
    (s.lockLife = true → s.tally.protectLife = true) ∧ (s.lockService = true → s.tally.protectService = true)

/-- A shift record's seven durations sum to its powered duration, which has not passed its top (R119). -/
def ShiftRecord.Balanced (r : ShiftRecord) : Prop :=
  r.durations.length = 7 ∧ r.durations.sum = r.powered ∧ r.powered ≤ durationTop

/-- The checkpoints that the staging image and the slots of the array hold. -/
def Store.checkpoints (st : Store) : List Checkpoint :=
  st.image.content.toList ++ st.pages.flatMap fun p => p.slots.filterMap fun
    | .valid _ (.checkpoint c) => some c
    | _ => none

/-- The counts that the acceptance of a mode moves in the open shift are within what the accepted mode was credited there:
ds of the latch and of the candidate, the candidate's onset being no later than the latch's (R113, R120). -/
def State.CountsCredited (s : State) : Prop :=
  let credited := s.shift.current.durations.getD s.tally.accepted.code 0
  (∀ t, s.tally.qual = some t → t.ds ≤ credited ∧ t.elapsed ≤ s.tb.elapsed)
    ∧ (∀ c, s.tally.candidate = some c → c.ds ≤ credited ∧ c.elapsed ≤ s.tb.elapsed)
    ∧ (∀ t c, s.tally.qual = some t → s.tally.candidate = some c → c.elapsed ≤ t.elapsed ∧ t.ds ≤ c.ds)

/-- The open shift's durations sum to its powered duration, in every checkpoint too (R119, R120, R124). -/
def State.ShiftBalanced (s : State) : Prop :=
  s.shift.current.Balanced ∧ s.CountsCredited ∧ ∀ c ∈ s.store.checkpoints, c.shift.Balanced

/-- The commands that take the part into reset or out of it, or that preset a tally. -/
def setsTallies : Instr → Bool
  | .presetTally => true
  | .start _ => true
  | .powerOn => true
  | .supplyReset _ => true
  | .resetLine => true
  | .restartReset => true
  | _ => false

/-- The d ms that a pending acceptance would move stand in the accepted mode's lifetime tally, and no lifetime tally can
pass its top in one more millisecond: the case that R118 calls without saturation. -/
def State.Unsaturated (s : State) : Prop :=
  s.tally.lifetime.length = 7 ∧ s.tally.lifetime.sum < tallyTop
    ∧ (∀ t, s.tally.qual = some t → t.d ≤ s.tally.lifetime.getD s.tally.accepted.code 0)
    ∧ (∀ c, s.tally.candidate = some c → c.d ≤ s.tally.lifetime.getD s.tally.accepted.code 0)

end Sys2Proof.Machine
end

