-- ==== Sys2Proof/Certificates/Slice0/Obligations.lean ====
section
/-! DEFINITION. The statements for the provers, block by block in the order of the spec's chapters. A statement that a
command completes gives its next state as an equation over the whole state, so that the equation is its frame too; the
shared operations it is written with (`append`, `send`, `answer`, `requestCheckpoint`, …) have statements of their own. -/

open Sys2Proof Sys2Proof.Machine

/-! ## The block as a whole -/

/-- A step takes the command at the front of the queue and executes it with the queue's rest. With no command waiting the
block idles, which is the model's choice (log entry 2). -/
def Obligations.StepRunsTheFrontCommand : Prop :=
  (∀ (s : State) (c : Instr) (rest : List Instr),
      s.pending = c :: rest → Sys2Proof.Machine.step s = exec c { s with pending := rest })
    ∧ ∀ s : State, s.pending = [] → Sys2Proof.Machine.step s = .next s

/-- Every command, in every state, answers a next state: no command stops the block. None touches the queue of waiting
commands, and none takes back what has been driven out (log entries 1 and 22, which are the model's choice). -/
def Obligations.EveryCommandAnswersNext : Prop :=
  ∀ (c : Instr) (s : State), ∃ t, exec c s = .next t ∧ t.pending = s.pending ∧ s.out <+: t.out

/-- A part that is held in reset, or has not yet run START, changes by START and by the resets alone (R186, R187, R189:
every block begins its work at the end of START). -/
def Obligations.OnlyStartAndResetsActInReset : Prop :=
  ∀ (c : Instr) (s : State) (k : ResetCause), s.phase = .inReset k →
    match c with
    | .start _ | .powerOn | .supplyReset _ | .resetLine => True
    | _ => exec c s = .next s

/-- The invariants stated below hold of the machine right after reset. -/
def Obligations.InvariantsHoldAtReset : Prop :=
  State.reset.RatesInRange ∧ State.reset.log.Consecutive ∧ State.reset.Bounded ∧ State.reset.GroupsRanked
    ∧ State.reset.LockedProtected ∧ State.reset.ShiftBalanced

/-! ## Station time and the timebase (chapter 1) -/

/-- An elapsed microsecond counted (R1, R3): the elapsed count rises by one, A is added to Acc, and with the carry of 2^24
station time advances 2, 1 or 0 µs, with the carries of R2 and no further than its top; a carry into S leaves a station
second due (R9). Nothing else changes. Taken whole, the microsecond is this advance followed by the delivery of the station
second: R8 lets the commands of the same microsecond be taken between the two, which is the model's form (log entry 6). What
is still due of the microsecond before is taken first: a station second, and then the answer of a CLEAR FLAGS (R184, log
entry 42). -/
def Obligations.ElapsedMicrosecondAdvances : Prop :=
  (∀ (s t : State) (o : SecondOrder), exec (.elapsedMicrosecond .advance o) s = .next t →
      exec (.elapsedMicrosecond .whole o) s = exec (.elapsedMicrosecond .signal o) t)
  ∧ (∀ (s u v : State) (p : MicroPart) (o : SecondOrder), p ≠ .signal → exec (.elapsedMicrosecond .signal o) s = .next u →
    (exec (.elapsedMicrosecond p o) s = exec (.elapsedMicrosecond p o) u)
      ∧ (∀ r, u.phase = .running → u.req.service = some (.clearFlags r) → exec .clearFlags u = .next v →
          exec (.elapsedMicrosecond p o) u = exec (.elapsedMicrosecond p o) v))
  ∧ ∀ (s : State) (o : SecondOrder), s.phase = .running → s.tb.secondDue = none →
    (∀ r, s.req.service ≠ some (.clearFlags r)) →
    let sum := s.tb.acc + s.tb.a
    let acc := if 16777216 ≤ sum then sum - 16777216 else if sum ≤ -16777216 then sum + 16777216 else sum
    let by' := if 16777216 ≤ sum then 2 else if sum ≤ -16777216 then 0 else 1
    let n := min 4294967295999999 (s.tb.time.s * 1000000 + s.tb.time.u + by')
    exec (.elapsedMicrosecond .advance o) s = .next { s with
      tb := { s.tb with
        elapsed := s.tb.elapsed + 1
        acc := acc
        time := ⟨n / 1000000, n % 1000000⟩
        secondDue := if s.tb.time.s < n / 1000000 then some ⟨n / 1000000, false⟩ else none } }

/-- A station second handed to its consumers (R11, R12): the second-mark pulse is started unless the quality is 3, one
BEACON is queued to both channels, the shift schedule is evaluated, and at a round boundary the hold is removed, each
channel marked degraded where its round error count is above 8 and that count set to 0 (R35), and an agreement round carried
out; the agreement unit and the shift unit in either order. When the elapsed count reaches the pulse end, and not before,
SMO goes low. -/
def Obligations.StationSecondReachesItsConsumers : Prop :=
  (∀ (s : State) (e : Nat), s.phase = .running → s.tb.pulseEnd = some e →
    (e ≤ s.tb.elapsed →
        exec .secondMarkPulseEnd s = .next { s with tb := { s.tb with pulseEnd := none } }
          ∧ State.smo { s with tb := { s.tb with pulseEnd := none } } = false)
      ∧ (s.tb.elapsed < e → exec .secondMarkPulseEnd s = .next s ∧ s.smo = true))
  ∧ (∀ (s : State) (gs : List Nat),
    let judged := fun (lc : LineController) =>
      ({ lc with degraded := decide (8 < lc.roundErrors), roundErrors := 0 } : LineController)
    s.roundBoundary gs = State.agreementRound
      { s with tb := { s.tb with hold := none }, chA := judged s.chA, chB := judged s.chB } gs)
  ∧ ∀ (s : State) (d : SecondDue) (gs : List Nat), s.phase = .running → s.tb.secondDue = some d →
    let boundary : Prop := d.noRound = false ∧ s.cfg.roundLength ∣ d.s ∧ ∀ h, s.tb.hold = some h → h ≤ d.s
    let pulse := if s.quality = 3 then s.tb.pulseEnd else some (s.tb.elapsed + 10000)
    let t := State.send { s with tb := { s.tb with secondDue := none, pulseEnd := pulse } } .beacon 31 []
    (boundary →
        exec (.elapsedMicrosecond .signal ⟨false, gs⟩) s = .next (t.roundBoundary gs).evaluate
          ∧ exec (.elapsedMicrosecond .signal ⟨true, gs⟩) s = .next (t.evaluate.roundBoundary gs))
      ∧ (¬boundary → ∀ first, exec (.elapsedMicrosecond .signal ⟨first, gs⟩) s = .next t.evaluate)

/-- A mark judged by its interval from the previous one (R14), with its phase error formed by R16: the distance from station
time to the nearest whole second, an exact half second rounded up. Marks are not taken while the enable is clear (R13). -/
def Obligations.MarkIsJudgedByItsInterval : Prop :=
  ∀ s : State, s.phase = .running →
    (s.cfg.markEnable = false → exec .mark s = .next s)
      ∧ (s.cfg.markEnable = true → ∃ (run : Nat) (valid : Bool) (e : Int),
          exec .mark s = .next { s with marks := ⟨some s.tb.elapsed, run, valid, some e⟩ }
            ∧ (s.marks.prev = none → run = 0 ∧ valid = s.marks.valid)
            ∧ (∀ p, s.marks.prev = some p →
                (p + 999000 ≤ s.tb.elapsed ∧ s.tb.elapsed ≤ p + 1001000 →
                    run = min 3 (s.marks.run + 1) ∧ (valid = true ↔ s.marks.valid = true ∨ run = 3))
                  ∧ (¬(p + 999000 ≤ s.tb.elapsed ∧ s.tb.elapsed ≤ p + 1001000) → run = 0 ∧ valid = false))
            ∧ (s.tb.time.u < 1000000 → (1000000 : Int) ∣ (s.tb.time.u : Int) + e ∧ -500000 < e ∧ e ≤ 500000))

/-- A mark times out 1,500,000 µs after the previous one (R15). A mark of the same elapsed microsecond may be taken before
or after the timeout: taken first, it leaves no timeout to happen; taken after it, it is judged as a first mark; the count
is 0 after it either way. -/
def Obligations.MarkTimesOut : Prop :=
  ∀ (s : State) (p : Nat), s.phase = .running → s.marks.prev = some p →
    (s.tb.elapsed < p + 1500000 → exec .markTimeout s = .next s)
      ∧ (p + 1500000 ≤ s.tb.elapsed →
          exec .markTimeout s = .next { s with marks := ⟨none, 0, false, none⟩ }
            ∧ (s.cfg.markEnable = true →
                (∃ t, exec .mark s = .next t ∧ t.marks.run = 0 ∧ t.marks.valid = false
                    ∧ t.marks.prev = some s.tb.elapsed ∧ exec .markTimeout t = .next t)
                  ∧ ∃ t u, exec .markTimeout s = .next t ∧ exec .mark t = .next u ∧ u.marks.run = 0
                      ∧ u.marks.valid = false ∧ u.marks.prev = some s.tb.elapsed))

/-- What a step does (R5, R6, R50): station time is set to its target, clamped to its range; G rises by one modulo 256; Acc
becomes 0 and A = F is written; the round hold is the smallest multiple of L at least L seconds after the target; the latest
phase error and the peers' flags of the round are discarded; the agreement state ordered with it is in force; and a
TIME_STEP record with the applied amount and the cause, dated by the time, generation and quality after the step, is the
first record it appends, where no group closes before it and the log (at most 200 records) has room for those that follow:
the order of a step's effects is the model's reading (log entry 6). Modes' tallies, inputs, marks' runs and the notices are
kept. In that order, with no bound on the log (log entries 6 and 23): the groups named close, each as a GROUP_CLOSE command
does; TIME_STEP is appended; the shift unit counts the step, takes a changed quality and makes its first evaluation. A step
forward into a later whole second signals one station second (R10): the pulse by the quality after the step, one BEACON and
an evaluation. A step back, of amount 0 or within a second signals none. -/
def Obligations.StepMovesStationTime : Prop :=
  (∀ (s : State) (c : Int) (w : StepCause) (n : AgreementState) (gs : List Nat), 1 ≤ s.cfg.roundLength →
    let target : Int := max 0 (min 4294967295999999 ((s.tb.time.s * 1000000 + s.tb.time.u : Nat) + c))
    let t := State.step s c w n gs
    ((t.tb.time.s * 1000000 + t.tb.time.u : Nat) = target ∧ t.tb.time.u < 1000000)
      ∧ t.tb.g = (s.tb.g + 1) % 256 ∧ t.tb.acc = 0 ∧ t.tb.a = max (-3355) (min 3355 s.agr.f)
      ∧ t.tb.elapsed = s.tb.elapsed ∧ t.tb.secondsKnown = s.tb.secondsKnown
      ∧ (∃ h, t.tb.hold = some h ∧ s.cfg.roundLength ∣ h
            ∧ target + s.cfg.roundLength * 1000000 ≤ h * 1000000
            ∧ (h * 1000000 : Int) < target + 2 * s.cfg.roundLength * 1000000)
      ∧ t.agr = { s.agr with state := n } ∧ t.marks = { s.marks with phase := none }
      ∧ t.peers = s.peers.map (fun p => { p with heard := false, heardA := false, heardB := false })
      ∧ (gs = [] → s.log.records.length ≤ 200 →
          s.log.records ++ [⟨s.log.next, ⟨t.tb.time, t.tb.g, n.quality⟩,
            .timeStep (target - (s.tb.time.s * 1000000 + s.tb.time.u : Nat)) w⟩] <+: t.log.records)
      ∧ t.inputs = s.inputs ∧ t.notices = s.notices ∧ t.tally.lifetime = s.tally.lifetime
      ∧ t.tally.accepted = s.tally.accepted ∧ t.supply = s.supply)
  ∧ (∀ (s : State) (c : Int) (w : StepCause) (n : AgreementState) (gs : List Nat),
    let before := s.tb.time.s * 1000000 + s.tb.time.u
    let target : Nat := (max 0 (min 4294967295999999 ((before : Int) + c))).toNat
    let applied : Int := (target : Int) - before
    let t := State.step s c w n gs
    let moved : State := { s with
      tb := { s.tb with
        time := ⟨target / 1000000, target % 1000000⟩
        g := (s.tb.g + 1) % 256
        acc := 0
        a := max (-3355) (min 3355 s.agr.f)
        hold := t.tb.hold
        secondDue := s.tb.secondDue.map fun d => { d with noRound := true } }
      marks := { s.marks with phase := none }
      peers := s.peers.map fun p => { p with heard := false, heardA := false, heardB := false }
      agr := { s.agr with state := n } }
    let logged := (moved.closeDue gs).append ⟨moved.tb.time, moved.tb.g, n.quality⟩ (.timeStep applied w)
    let counted := logged.countStep applied
    let told := if n.quality = s.agr.state.quality then counted else counted.takeQuality
    let left := if s.shift.deferred = true ∧ s.agr.state = .free ∧ n ≠ .free then told.firstEvaluation else told
    let pulse := if n.quality = 3 then s.tb.pulseEnd else some (s.tb.elapsed + 10000)
    (s.tb.time.s < target / 1000000 →
        t = State.evaluate (State.send { left with tb := { left.tb with pulseEnd := pulse } } .beacon 31 [])
          ∧ t.senderSeq = (s.senderSeq + 1) % 65536 ∧ t.tb.pulseEnd = pulse)
      ∧ (target / 1000000 ≤ s.tb.time.s →
        t = left ∧ t.senderSeq = s.senderSeq ∧ t.chA = s.chA ∧ t.chB = s.chB ∧ t.tb.pulseEnd = s.tb.pulseEnd))
  ∧ (∀ u : State, u.closeDue [] = u)
  ∧ ∀ (u v : State) (g : Nat) (gs : List Nat), u.phase = .running → exec (.groupClose g) u = .next v →
    u.closeDue (g :: gs) = v.closeDue gs

/-- SET TIME served (R7, R58, R183). It is accepted in FREE or with a valid mark: seconds-known is set, the three counts
become 0 and a step of cause SET makes station time exactly the value asked, in the next generation, ANCHORED with a valid
mark and JOINING without one; the answer gives the new S, U and G. Otherwise REFUSED_STATE, with no other effect. That the
answer is queued after the step and the BEACON of a second it signals, and so takes the later sender sequence, is the
model's reading (log entry 24). -/
def Obligations.SetTimeSetsStationTime : Prop :=
  ∀ (s : State) (r : Request) (gs : List Nat), s.servesNext r → r.code = 14 → r.acceptable = true →
    let asked : StationTime := ⟨fieldAt r.params 0 4, fieldAt r.params 4 4⟩
    let u := s.popRequest
    let v : State := { u with
      tb := { u.tb with secondsKnown := true }
      agr := { u.agr with good := 0, disagree := 0, holdover := 0 } }
    let t := State.step v ((asked.s * 1000000 + asked.u : Nat) - (s.tb.time.s * 1000000 + s.tb.time.u : Nat)) .set
      (if s.marks.valid then .anchored else .joining) gs
    (s.agr.state = .free ∨ s.marks.valid = true →
        exec (.setTime gs) s = .next (t.answer r .ok
            (beBytes 4 asked.s ++ beBytes 4 asked.u ++ beBytes 1 ((s.tb.g + 1) % 256)))
          ∧ t.tb.time = asked ∧ t.tb.secondsKnown = true)
      ∧ (¬(s.agr.state = .free ∨ s.marks.valid = true) →
          exec (.setTime gs) s = .next (u.answer r .refusedState []))

/-- Station time moves by an elapsed microsecond alone, 0, 1 or 2 µs at a time, or by a step, which changes the generation;
and only SET TIME and an elapsed microsecond (at whose round a step may fall) change the generation (R3's law). -/
def Obligations.StationTimeMovesByAdvanceOrStep : Prop :=
  ∀ (c : Instr) (s t : State), s.phase = .running → exec c s = .next t → t.phase = .running →
    s.instant ≤ 4294967295999999 →
    (t.tb.g = s.tb.g → t.tb.time = s.tb.time
        ∨ (∃ p o, c = .elapsedMicrosecond p o) ∧ s.instant ≤ t.instant ∧ t.instant ≤ s.instant + 2)
      ∧ (t.tb.g ≠ s.tb.g → (∃ p o, c = .elapsedMicrosecond p o) ∨ ∃ gs, c = .setTime gs)

/-- The ranges the timebase and the agreement unit state of themselves (R2, R3, R4, R42) are kept by every step. -/
def Obligations.RatesStayInRange : Prop :=
  ∀ s t : State, s.RatesInRange → Sys2Proof.Machine.step s = .next t → t.RatesInRange

/-! ## Time agreement (chapter 3) -/

/-- The three stages of a slew by correction c (R49): the phase term P, c × 2^24 / (2 × L × 10^6) truncated toward zero; the
frequency term, F + P / 4 truncated toward zero and clamped to ±2516; and the A written, F + P clamped to ±3355. The limited
slew (R51): P clamped to ±(3355 − |F|), F unchanged, and A = F + P. A hold writes A = F (R4). Nothing else changes. -/
def Obligations.SlewWritesTheRate : Prop :=
  ∀ (s : State) (c : Int),
    let p := Int.tdiv (c * 16777216) (2 * s.cfg.roundLength * 1000000)
    let f := max (-2516) (min 2516 (s.agr.f + Int.tdiv p 4))
    s.slew c = { s with agr := { s.agr with f := f }, tb := { s.tb with a := max (-3355) (min 3355 (f + p)) } }
      ∧ (s.agr.f.natAbs ≤ 3355 →
          let room : Int := 3355 - s.agr.f.natAbs
          let a := s.agr.f + max (-room) (min room p)
          s.limitedSlew c = { s with tb := { s.tb with a := a } } ∧ a.natAbs ≤ 3355
            ∧ s.writeA s.agr.f = { s with tb := { s.tb with a := s.agr.f } })

/-- An agreement round. What it decides, `c` its correction, `k` the step threshold, `a` the agreement unit before it: by
the state for the outcomes anchored, midpoint and insufficient (R52 to R56), in ANCHORED with the mark still valid a hold
(R56; without seconds-known that is log entry 25); and the own mark anchors the station from every state, stepping with
cause ANCHOR when the phase error exceeds K and slewing otherwise (R57). Its outcome (R45 to R48): the own mark; else, over
the set of usable offsets, in FREE without one every peer heard, the lower median of the ANCHORED peers' offsets, or the
midpoint of the set and the own offset 0 with the f lowest and f highest dropped, or insufficient. And what it does: the
decision is carried out, every present peer not heard misses a round and is present no more at the third, and the peers'
flags of the round are cleared (R41). -/
def Obligations.RoundDecidesByState : Prop :=
  (∀ (k limit : Nat) (valid : Bool) (a : Agreement) (c : Int) (out : RoundOutcome),
    out = .anchored c ∨ out = .midpoint c →
    let d := decideRound k limit valid a out
    let e := decideRound k limit valid a .insufficient
    (a.state = .free →
        d.action = .step c .join ∧ d.state = .joining ∧ d.known = true ∧ d.good = 0
          ∧ e.action = .hold ∧ e.state = .free)
      ∧ (a.state = .joining →
          (c.natAbs ≤ k → d.action = .slew c ∧ d.good = a.good + 1
              ∧ (1 ≤ a.good → d.state = .agreed ∧ d.disagree = 0) ∧ (a.good = 0 → d.state = .joining))
            ∧ (k < c.natAbs → d.action = .step c .join ∧ d.good = 0 ∧ d.state = .joining)
            ∧ e.action = .hold ∧ e.good = 0 ∧ e.holdover = 0 ∧ e.state = .holdover)
      ∧ (a.state = .agreed →
          (c.natAbs ≤ k → d.action = .slew c ∧ d.disagree = 0 ∧ d.state = .agreed)
            ∧ (k < c.natAbs → a.disagree < 2 →
                d.action = .limited c ∧ d.disagree = a.disagree + 1 ∧ d.state = .agreed)
            ∧ (k < c.natAbs → 2 ≤ a.disagree →
                d.action = .step c .agree ∧ d.disagree = 0 ∧ d.good = 0 ∧ d.state = .joining)
            ∧ e.action = .hold ∧ e.disagree = 0 ∧ e.holdover = 0 ∧ e.state = .holdover)
      ∧ (a.state = .holdover →
          (c.natAbs ≤ k → d.action = .slew c ∧ d.disagree = 0 ∧ d.state = .agreed)
            ∧ (k < c.natAbs → d.action = .step c .agree ∧ d.good = 0 ∧ d.state = .joining)
            ∧ (a.holdover + 1 < limit → e.action = .hold ∧ e.holdover = a.holdover + 1 ∧ e.state = .holdover)
            ∧ (limit ≤ a.holdover + 1 → e.action = .hold ∧ e.holdover = 0 ∧ e.state = .free))
      ∧ (a.state = .anchored → valid = false →
          (c.natAbs ≤ k → d.action = .slew c ∧ d.disagree = 0 ∧ d.state = .agreed)
            ∧ (k < c.natAbs → d.action = .limited c ∧ d.disagree = 1 ∧ d.state = .agreed)
            ∧ e.action = .hold ∧ e.disagree = 0 ∧ e.holdover = 0 ∧ e.state = .holdover)
      ∧ (a.state = .anchored → valid = true →
          d = ⟨.hold, .anchored, a.good, a.disagree, a.holdover, false⟩ ∧ e = d)
      ∧ (a.state ≠ .free → d.known = false) ∧ e.known = false
      ∧ let m := decideRound k limit valid a (.mark c)
        m.state = .anchored ∧ m.known = false
          ∧ (k < c.natAbs → m.action = .step c .anchor) ∧ (c.natAbs ≤ k → m.action = .slew c)
          ∧ (a.state ≠ .anchored → m.good = 0 ∧ m.disagree = 0 ∧ m.holdover = 0))
  ∧ ∀ (s : State) (gs : List Nat),
    let f := s.cfg.dropped
    let usable := s.peers.filter fun p =>
      p.heard && decide (1 ≤ p.state.toNat ∧ p.state.toNat ≤ 4) && !p.far
    let set := if s.agr.state = .free ∧ usable = [] then s.peers.filter (·.heard) else usable
    let anchored := (set.filter fun p => decide (p.state.toNat = 4)).map (·.offset)
    let all : List Int := 0 :: set.map (·.offset)
    let rank := fun (xs : List Int) (k : Nat) (v : Int) => v ∈ xs
      ∧ (xs.filter fun x => decide (x < v)).length ≤ k ∧ k < (xs.filter fun x => decide (x ≤ v)).length
    let mark := s.marks.valid = true ∧ s.tb.secondsKnown = true ∧ s.marks.phase ≠ none
    let out := roundOutcome s.agr.state f s.ownMark s.peers
    let d := decideRound s.cfg.stepThreshold s.cfg.holdoverLimit s.marks.valid s.agr out
    let t : State := { s with
      peers := s.peers.map fun p => if p.present = true ∧ p.heard = false
        then { p with missed := min 255 (p.missed + 1), present := decide (p.missed + 1 < 3) } else p
      agr := { s.agr with good := d.good, disagree := d.disagree, holdover := d.holdover }
      tb := { s.tb with secondsKnown := s.tb.secondsKnown || d.known } }
    let ended := fun (u : State) => ({ u with
      peers := u.peers.map fun p => { p with heard := false, heardA := false, heardB := false } } : State)
    (∀ e, mark → s.marks.phase = some e → out = .mark e)
      ∧ (¬mark → anchored ≠ [] → ∃ v, out = .anchored v ∧ rank anchored ((anchored.length - 1) / 2) v)
      ∧ (¬mark → anchored = [] → set ≠ [] → 2 * f + 1 ≤ all.length →
          ∃ lo hi, out = .midpoint ((lo + hi).tdiv 2) ∧ rank all f lo ∧ rank all (all.length - 1 - f) hi)
      ∧ (¬mark → anchored = [] → set = [] ∨ all.length < 2 * f + 1 → out = .insufficient)
      ∧ (∀ c, d.action = .slew c → s.agreementRound gs = ended ((t.slew c).enterState d.state))
      ∧ (∀ c, d.action = .limited c → s.agreementRound gs = ended ((t.limitedSlew c).enterState d.state))
      ∧ (d.action = .hold → s.agreementRound gs = ended ((t.writeA t.agr.f).enterState d.state))
      ∧ (∀ c w, d.action = .step c w → s.agreementRound gs = ended (t.step c w d.state gs))

/-- The fault-tolerant midpoint (R48): with at least 2f + 1 offsets, of which at most f lie outside a range, the correction
lies within the range, whatever the f others say. -/
def Obligations.MidpointToleratesFaultyOffsets : Prop :=
  ∀ (f : Nat) (offsets : List Int) (lo hi : Int), 2 * f + 1 ≤ offsets.length →
    (offsets.filter fun x => decide (x < lo ∨ hi < x)).length ≤ f →
    lo ≤ midpointOf f offsets ∧ midpointOf f offsets ≤ hi

/-! ## The bus (chapter 2) and the notice queue (chapter 5) -/

/-- The events of a channel's medium: quiet after 16 bit times without activity, when a deferral starts if a copy waits
(R20, R26); activity, which ends quiet and drops a deferral (R26); the timing mark of a reception, at which S, U and G are
latched as its receive stamp (R20), afresh where one is latched already, which is the model's choice (log entry 43); and the
stamping of a BEACON copy at its own timing mark, 15 bit times into its sending, with G, the agreement state, the status
flags, S and U in the layout of R36 (R22). -/
def Obligations.ChannelEventsTakeEffect : Prop :=
  ∀ (s : State) (ch : Channel), s.phase = .running →
    let lc := s.line ch
    (lc.quiet = false → lc.sendStart = none → lc.stamp = none → lc.lastActivity + 16 ≤ s.tb.elapsed →
        exec (.channelQuiet ch) s = .next (s.setLine ch
          { lc with quiet := true, deferral := if lc.list = [] then none else some s.tb.elapsed }))
      ∧ exec (.channelActivity ch) s = .next (s.setLine ch
          { lc with quiet := false, deferral := none, lastActivity := s.tb.elapsed })
      ∧ (lc.sendStart = none → exec (.timingMark ch) s = .next (s.setLine ch
          { lc with quiet := false, deferral := none, lastActivity := s.tb.elapsed, stamp := some ⟨s.tb.time, s.tb.g⟩ }))
      ∧ ∀ i c t, lc.sends i c t → c.kind = .beacon → c.payload = [] → t + 15 ≤ s.tb.elapsed →
          let flags := bitsNat [s.tb.secondsKnown, s.alm, s.logHigh, s.flags.configFault, s.flags.duplicateStation]
          let payload := beBytes 1 s.tb.g ++ beBytes 1 s.agr.state.code ++ beBytes 2 flags
            ++ beBytes 4 s.tb.time.s ++ beBytes 4 s.tb.time.u
          exec (.beaconStamp ch) s = .next (s.setLine ch { lc with list := lc.list.set i { c with payload := payload } })

/-- When the deferral of the head ends on a quiet channel the line controller begins to send it, and not before (R24, R26):
the head is the oldest copy of the lowest class present, the deferral 256 × class + 8 × own number bit times. -/
def Obligations.DeferralEndSendsTheHead : Prop :=
  ∀ (s : State) (ch : Channel) (i d : Nat) (c : Copy), s.phase = .running →
    let lc := s.line ch
    lc.quiet = true → lc.deferral = some d → lc.list[i]? = some c →
    (∀ x ∈ lc.list, c.kind.mediumClass ≤ x.kind.mediumClass) →
    (∀ j x, j < i → lc.list[j]? = some x → c.kind.mediumClass < x.kind.mediumClass) →
      (d + (256 * c.kind.mediumClass + 8 * s.ownNumber) ≤ s.tb.elapsed →
          exec (.deferralEnd ch) s = .next (s.setLine ch
            { lc with quiet := false, deferral := none, lastActivity := s.tb.elapsed,
                      list := lc.list.set i { c with sending := true }, sendStart := some s.tb.elapsed }))
        ∧ (s.tb.elapsed < d + (256 * c.kind.mediumClass + 8 * s.ownNumber) → exec (.deferralEnd ch) s = .next s)

/-- How a sending ends (R27). At a collision the collision count rises and the copy is taken back to its place with its
retried mark set, a BEACON to be stamped afresh; a copy already retried is abandoned, which for a TRIP NOTICE sets
NOTICE_LOSS and for an ANSWER is counted once, its other copy marked as counted, which is known by its kind and sender
sequence, the model's choice (log entry 44). A sending that completes takes the whole telegram out on the channel and the
copy from the list. -/
def Obligations.SendingEndsByCollisionOrCompletion : Prop :=
  ∀ (s : State) (ch : Channel) (i t : Nat) (c : Copy), s.phase = .running → (s.line ch).sends i c t →
    let lc := s.line ch
    let stopped : LineController :=
      { lc with quiet := false, deferral := none, lastActivity := s.tb.elapsed, sendStart := none }
    let hit : LineController := { stopped with collisions := min 65535 (lc.collisions + 1) }
    let gone := s.setLine ch { hit with list := lc.list.eraseIdx i }
    let back : Copy :=
      { c with retried := true, sending := false, payload := if c.kind = .beacon then [] else c.payload }
    (c.retried = false → exec (.collision ch) s = .next (s.setLine ch { hit with list := lc.list.set i back }))
      ∧ (c.retried = true →
          (c.kind ≠ .tripNotice → c.kind ≠ .answer → exec (.collision ch) s = .next gone)
            ∧ (c.kind = .tripNotice →
                exec (.collision ch) s = .next { gone with flags := { gone.flags with noticeLoss := true } })
            ∧ (c.kind = .answer → c.lossCounted = true → exec (.collision ch) s = .next gone)
            ∧ (c.kind = .answer → c.lossCounted = false →
                let other := s.line (otherChannel ch)
                let counted := other.list.map fun x =>
                  if x.kind = .answer ∧ x.seq = c.seq then { x with lossCounted := true } else x
                let marked := gone.setLine (otherChannel ch) { other with list := counted }
                exec (.collision ch) s = .next
                  { marked with req := { marked.req with lostAnswers := min 65535 (marked.req.lostAnswers + 1) } }))
      ∧ (c.kind ≠ .beacon → t + 16 + 8 * (8 + c.payload.length) ≤ s.tb.elapsed →
          exec (.sendingComplete ch) s = .next
            ((s.setLine ch { stopped with list := lc.list.eraseIdx i }).emit (.sent ch (c.frame s.ownNumber))))
      ∧ (c.kind = .beacon → c.payload ≠ [] → t + 176 ≤ s.tb.elapsed →
          exec (.sendingComplete ch) s = .next
            ((s.setLine ch { stopped with list := lc.list.eraseIdx i }).emit (.sent ch (c.frame s.ownNumber))))

/-- What one station sends another receives whole: the bytes of a telegram, header, payload and check, pass the checks of
R28 and give back its kind, sender, target, sender sequence and payload. -/
def Obligations.SentTelegramIsReceivedWhole : Prop :=
  ∀ (own : Nat) (c : Copy), own ≤ 30 → c.target ≤ 31 → c.seq < 65536 →
    (match c.kind with
      | .beacon => c.payload.length = 12
      | .tripNotice => c.payload.length = 18
      | .handoverNotice => c.payload.length = 15 ∨ (c.payload.length = 23 ∧ byteAt c.payload 0 ≠ 1)
      | .request => 2 ≤ c.payload.length ∧ c.payload.length ≤ 48
      | .answer => 3 ≤ c.payload.length ∧ c.payload.length ≤ 48) →
    checkReception (c.frame own) 0 = some ⟨c.kind.code, own, c.target, c.seq, c.payload⟩

/-- A reception is discarded, and its channel's error count and round error count each rise by one, when any of R28's
conditions holds (R34, R35); one that passes and names the station's own number as its sender sets DUPLICATE_STATION and is
discarded, changing no count (R29). -/
def Obligations.BadReceptionIsDiscarded : Prop :=
  ∀ (s : State) (ch : Channel) (data : List Byte) (odd : Nat) (p : Stamp), s.phase = .running →
    (s.line ch).stamp = some p →
    let n := byteAt data 3
    let payload := data.drop 6
    let ended : LineController :=
      { s.line ch with quiet := false, deferral := none, lastActivity := s.tb.elapsed, stamp := none }
    let bad := odd ≠ 0 ∨ data.length < 8 ∨ 48 < n ∨ data.length ≠ 8 + n
      ∨ fieldAt data (6 + n) 2 ≠ (crc (data.take (6 + n))).toNat ∨ 30 < byteAt data 1 ∨ 31 < byteAt data 2
      ∨ (byteAt data 0 = 1 ∧ n ≠ 12) ∨ (byteAt data 0 = 2 ∧ n ≠ 18)
      ∨ (byteAt data 0 = 3 ∧ ¬(n = 15 ∨ (n = 23 ∧ byteAt payload 0 ≠ 1)))
      ∨ (byteAt data 0 = 4 ∧ n < 2) ∨ (byteAt data 0 = 5 ∧ n < 3)
    (bad → exec (.reception ch data odd) s = .next (s.setLine ch
        { ended with errors := min 65535 (ended.errors + 1), roundErrors := min 255 (ended.roundErrors + 1) }))
      ∧ (¬bad → byteAt data 1 = s.ownNumber → exec (.reception ch data odd) s = .next
          { s.setLine ch ended with flags := { s.flags with duplicateStation := true } })

/-- The duplicate window (R30, R31): what it makes of a sender sequence by its distance d from the highest one accepted, and
which sequences it has recorded after it slides. -/
def Obligations.DuplicateWindowJudges : Prop :=
  ∀ (w : Window) (seq : Nat), w.h < 65536 → seq < 65536 →
    let d := (seq + 65536 - w.h) % 65536
    judgeWindow none seq = (true, some ⟨seq, 0⟩, false)
      ∧ (d = 0 → judgeWindow (some w) seq = (false, some w, false))
      ∧ (1 ≤ d → d ≤ 32767 → ∃ v, judgeWindow (some w) seq = (true, some v, false) ∧ v.h = seq
          ∧ ∀ k, 1 ≤ k → k ≤ 16 → (v.recorded.getLsbD (k - 1) = true ↔
              k = d ∨ (d < k ∧ w.recorded.getLsbD (k - d - 1) = true)))
      ∧ (32768 ≤ d → d ≤ 65519 → judgeWindow (some w) seq = (true, some ⟨seq, 0⟩, true))
      ∧ (65520 ≤ d → w.recorded.getLsbD (65535 - d) = true → judgeWindow (some w) seq = (false, some w, false))
      ∧ (65520 ≤ d → w.recorded.getLsbD (65535 - d) = false →
          ∃ v, judgeWindow (some w) seq = (true, some v, false) ∧ v.h = w.h ∧ v.recorded.getLsbD (65535 - d) = true
            ∧ ∀ k, k ≠ 65535 - d → v.recorded.getLsbD k = w.recorded.getLsbD k)

/-- A telegram from another station that the duplicate window accepts is routed by its kind and target (R32), its sender's
window and restart count kept, an ANSWER handed to the console computer with its sender (R23, R177); a duplicate one changes
nothing beyond the end of its reception, but for a BEACON, which marks the channel it came on in its sender's entry and does
no more (R33). A HANDOVER NOTICE is read by the layout of R36: action, shift number, crew code, action time, and in the form
of 23 bytes the sign-off time, which with every bit set is taken as absent (log entry 37). -/
def Obligations.AcceptedTelegramIsRouted : Prop :=
  (∀ (action number crew : Nat) (time off : StationTime), action < 256 → number < 4294967296 → crew < 65536 →
    time.s < 4294967296 → time.u < 4294967296 → off.s < 4294967296 → off.u < 4294967296 →
    let short := beBytes 1 action ++ beBytes 4 number ++ beBytes 2 crew ++ beBytes 4 time.s ++ beBytes 4 time.u
    HandoverNotice.ofBytes short = ⟨action, number, crew, time, none⟩ ∧ short.length = 15
      ∧ HandoverNotice.ofBytes (short ++ (beBytes 4 off.s ++ beBytes 4 off.u)) = ⟨action, number, crew, time,
          if off.s = 4294967295 ∧ off.u = 4294967295 then none else some off⟩)
  ∧ ∀ (s : State) (ch : Channel) (data : List Byte) (p : Stamp) (r : Received), s.phase = .running →
    (s.line ch).stamp = some p → checkReception data 0 = some r → r.sender ≠ s.ownNumber →
    let e := s.peer r.sender
    let j := judgeWindow e.window r.seq
    let heard := s.setLine ch
      { s.line ch with quiet := false, deferral := none, lastActivity := s.tb.elapsed, stamp := none }
    let e' := { e with window := j.2.1, restarts := if j.2.2 = true then min 255 (e.restarts + 1) else e.restarts }
    let t := heard.setPeer r.sender e'
    (j.1 = true →
        (r.kind = 1 → exec (.reception ch data 0) s = .next (t.takeBeacon ch r p))
          ∧ (r.kind = 2 → exec (.reception ch data 0) s = .next ((t.offerMember r).offerNotice r))
          ∧ (r.kind = 3 → exec (.reception ch data 0) s = .next (t.takeHandover (HandoverNotice.ofBytes r.payload)))
          ∧ (r.kind = 4 → r.target = s.ownNumber ∨ r.target = 31 →
              exec (.reception ch data 0) s = .next (t.enterRequest ⟨r.sender, r.payload⟩))
          ∧ (r.kind = 5 → r.target = s.ownNumber → s.console = true →
              exec (.reception ch data 0) s = .next (t.emit (.ctxAnswer r.sender r.payload)))
          ∧ (r.kind = 4 → ¬(r.target = s.ownNumber ∨ r.target = 31) → exec (.reception ch data 0) s = .next t)
          ∧ (r.kind = 5 → ¬(r.target = s.ownNumber ∧ s.console = true) → exec (.reception ch data 0) s = .next t)
          ∧ (r.kind = 0 ∨ 6 ≤ r.kind → exec (.reception ch data 0) s = .next t))
      ∧ (j.1 = false → r.kind ≠ 1 → exec (.reception ch data 0) s = .next heard)
      ∧ (j.1 = false → r.kind = 1 → exec (.reception ch data 0) s = .next { heard with
          peers := s.peers.set r.sender { e with
            heardA := if ch = .a then true else e.heardA
            heardB := if ch = .b then true else e.heardB } })

/-- Whatever a telegram does, it does once (R30, R33). Its second copy, heard on the other channel, whichever was first, has
no effect beyond the end of its reception there, but for the mark that its sender's BEACON was heard on that channel. And so
has every copy heard at any later time: the window rejects the sequence once it has judged it, goes on rejecting it through
the sequences that follow while its highest lies at most 16 past it and the sender does not restart, and a copy it rejects,
on either channel and in any state, does no more than that. -/
def Obligations.SecondCopyHasNoEffect : Prop :=
  let rejects := fun (w : Window) (seq : Nat) => (judgeWindow (some w) seq).1 = false
  let ended := fun (u : State) (ch : Channel) (r : Received) =>
    let v := u.setLine ch
      { u.line ch with quiet := false, deferral := none, lastActivity := u.tb.elapsed, stamp := none }
    if r.kind = 1 then { v with peers := u.peers.set r.sender { u.peer r.sender with
        heardA := if ch = .a then true else (u.peer r.sender).heardA
        heardB := if ch = .b then true else (u.peer r.sender).heardB } } else v
  (∀ (s t : State) (first : Channel) (data : List Byte) (p : Stamp) (r : Received), s.phase = .running →
    s.peers.length = 31 → (∀ w, (s.peer r.sender).window = some w → w.h < 65536) →
    (s.line first).stamp = some p → checkReception data 0 = some r → r.sender ≠ s.ownNumber →
    exec (.reception first data 0) s = .next t →
      (∀ ch q, ch ≠ first → (s.line ch).stamp = some q → exec (.reception ch data 0) t = .next (ended t ch r))
        ∧ ∃ w, (t.peer r.sender).window = some w ∧ w.h < 65536 ∧ rejects w r.seq)
  ∧ (∀ (w v : Window) (seq m : Nat) (b : Bool), w.h < 65536 → seq < 65536 → m < 65536 → rejects w seq →
    judgeWindow (some w) m = (b, some v, false) → (v.h + 65536 - seq) % 65536 ≤ 16 → rejects v seq)
  ∧ ∀ (u : State) (ch : Channel) (data : List Byte) (q : Stamp) (r : Received) (w : Window), u.phase = .running →
    (u.line ch).stamp = some q → checkReception data 0 = some r → r.sender ≠ u.ownNumber →
    (u.peer r.sender).window = some w → rejects w r.seq → exec (.reception ch data 0) u = .next (ended u ch r)

/-- An accepted BEACON (R39, R40): its sender is present with the reported state and status flags, and its channel marked;
with a receive stamp of the current generation the offset (Sb − Sl) × 1,000,000 + (Ub + D − Ul) is formed, far when it
exceeds a second in magnitude, and the peer heard this round; with an older stamp offset and heard flag stay. At a console
station the console computer is handed the beacon (R32). -/
def Obligations.BeaconFormsAnOffset : Prop :=
  ∀ (s : State) (ch : Channel) (r : Received) (p : Stamp),
    let e := s.peer r.sender
    let offset : Int := ((fieldAt r.payload 4 4 : Int) - p.time.s) * 1000000
      + ((fieldAt r.payload 8 4 : Int) + s.cfg.lineDelay - p.time.u)
    let base : Peer := { e with
      state := r.payload.getD 1 0
      statusFlags := BitVec.ofNat 16 (fieldAt r.payload 2 2)
      present := true
      missed := 0
      heardA := if ch = .a then true else e.heardA
      heardB := if ch = .b then true else e.heardB }
    let entry : Peer := if p.g = s.tb.g then
        { base with offset := offset, far := decide (1000000 < offset.natAbs), heard := true } else base
    (s.console = false → s.takeBeacon ch r p = { s with peers := s.peers.set r.sender entry })
      ∧ (s.console = true → s.takeBeacon ch r p =
          { s with peers := s.peers.set r.sender entry, out := s.out ++ [.ctxBeacon r.sender r.payload p] })

/-- A TRIP NOTICE offered to the notice queue (R90, R91) is entered when its fields lie in their ranges and no part of the
rejection filter, sender, chatter flag, INPUT_CHANGE flag of its class or group, rejects it, and has no effect otherwise. An
admitted notice is entered by the queue's fill (R92): below 64 it joins at the newest end; at 64 the oldest notice is
removed, the new one joins, and NOTICE_OVERRUN is set. The condition NOTICE_HIGH is judged on the fill after it (R94). Two
notices are entered one after the other. Offered to the group table, whatever the filter says, a notice is handed to its
group as a member when it is an active INPUT_CHANGE of class PROTECTION or UNIT_TRIP with group 1 to 7 and its fields in
range, and has no effect otherwise (R97). -/
def Obligations.AdmittedNoticeIsEntered : Prop :=
  (∀ (s : State) (n : Notice),
      (s.notices.length < 64 → s.enterNotice n = { s with notices := s.notices ++ [n] }
          ∧ (s.enterNotice n).notices.length = s.notices.length + 1)
        ∧ (s.notices.length = 64 → s.enterNotice n = { s with
              notices := s.notices.tail ++ [n], flags := { s.flags with noticeOverrun := true } }
          ∧ (s.enterNotice n).notices.length = 64)
        ∧ ((s.enterNotice n).noticeHigh = true ↔ s.cfg.noticeCritical ≤ (s.enterNotice n).notices.length))
    ∧ (∀ (s : State) (n m : Notice), s.notices.length = 64 →
        ((s.enterNotice n).enterNotice m).notices = s.notices.drop 2 ++ [n, m])
    ∧ ∀ (s : State) (r : Received),
      let kind := byteAt r.payload 2
      let input := byteAt r.payload 3
      let level := byteAt r.payload 4
      let cls := byteAt r.payload 5
      let group := byteAt r.payload 6
      let quality := byteAt r.payload 7
      let u := fieldAt r.payload 14 4
      let inRange := (kind = 2 ∨ kind = 3 ∨ kind = 4) ∧ input ≤ 15 ∧ (level = 0 ∨ level = 1) ∧ cls ≤ 2 ∧ group ≤ 7
        ∧ quality ≤ 3 ∧ u < 1000000
      let rejected := s.cfg.senderReject.getLsbD r.sender = true ∨ (s.cfg.chatterReject = true ∧ (kind = 3 ∨ kind = 4))
        ∨ (kind = 2 ∧ ((s.cfg.rejectIndication = true ∧ cls = 0) ∨ (s.cfg.rejectProtection = true ∧ cls = 1)
            ∨ (s.cfg.rejectUnitTrip = true ∧ cls = 2)))
        ∨ (1 ≤ group ∧ s.cfg.groupReject.getLsbD group = true)
      let belongs := kind = 2 ∧ level = 1 ∧ (cls = 1 ∨ cls = 2) ∧ 1 ≤ group ∧ group ≤ 7 ∧ input ≤ 15 ∧ quality ≤ 3
        ∧ u < 1000000
      (inRange → ¬rejected → s.offerNotice r = s.enterNotice ⟨r.sender, r.payload⟩)
        ∧ (¬inRange ∨ rejected → s.offerNotice r = s)
        ∧ (belongs → ∃ m : Member, s.offerMember r = s.handMember group m ∧ m.station = r.sender ∧ m.input = input
            ∧ m.logSeq = fieldAt r.payload 0 2 ∧ m.dating.time = ⟨fieldAt r.payload 10 4, u⟩
            ∧ m.dating.g = byteAt r.payload 8 ∧ m.dating.quality.val = quality)
        ∧ (¬belongs → s.offerMember r = s)

/-- What the console computer hands over (R23, R175): a REQUEST for the own number enters the own request queue alone; any
other takes the next sender sequence and is queued to both channels, one for target 31 entering the own queue as well; a
HANDOVER NOTICE is queued to both channels and taken by the own shift unit (R141). At other stations CRX is not read. A
request entering the queue joins it at the newest end below 4, and is dropped at 4 with the overflow count one higher, up to
65,535 (R175). -/
def Obligations.ConsoleComputerHandsOver : Prop :=
  (∀ (s : State) (r : Request),
    (s.req.queue.length < 4 → s.enterRequest r = { s with req := { s.req with queue := s.req.queue ++ [r] } })
      ∧ (4 ≤ s.req.queue.length →
          s.enterRequest r = { s with req := { s.req with overflow := min 65535 (s.req.overflow + 1) } }))
  ∧ ∀ (s : State) (target : Nat) (payload : List Byte), s.phase = .running →
    (s.console = true →
        (target = s.ownNumber →
            exec (.consoleRequest target payload) s = .next (s.enterRequest ⟨s.ownNumber, payload⟩))
          ∧ (target = 31 → s.ownNumber ≤ 30 → exec (.consoleRequest target payload) s =
              .next ((s.send .request 31 payload).enterRequest ⟨s.ownNumber, payload⟩))
          ∧ (target ≠ s.ownNumber → target ≠ 31 →
              exec (.consoleRequest target payload) s = .next (s.send .request target payload))
          ∧ exec (.consoleHandoverNotice payload) s =
              .next ((s.send .handoverNotice 31 payload).takeHandover (HandoverNotice.ofBytes payload)))
      ∧ (s.console = false → exec (.consoleRequest target payload) s = .next s
          ∧ exec (.consoleHandoverNotice payload) s = .next s)

/-- A telegram queued to both transmit lists (R21, R25, R26): it takes the current sender sequence, which rises by one
modulo 65536, and each list, full or not whatever the other holds, takes or drops its own copy. A list with room takes it at
the newest place, a deferral starting where the channel is quiet and none is counted; a new BEACON replaces a pending one,
even in a full list, and both where two are pending, which is the model's choice (log entry 39). A copy dropped by either
list sets NOTICE_LOSS for a TRIP NOTICE and counts an ANSWER lost once, a copy that the other list took being marked as
counted. An ANSWER carries code, tag, status and, with status OK, its content (R177), and is handed with its sender to the
station's own console computer where that asked. -/
def Obligations.TelegramIsQueuedToBothLists : Prop :=
  (∀ (s : State) (k : TelegramKind) (target : Nat) (payload : List Byte),
      let c : Copy := ⟨k, target, s.senderSeq, payload, false, false, false⟩
      let other : Copy := { c with lossCounted := decide (k = .answer) }
      let fits := fun (lc : LineController) => lc.list.length < 8
        ∨ (k = .beacon ∧ ∃ x ∈ lc.list, x.kind = .beacon ∧ x.sending = false)
      let joined := fun (lc : LineController) (x : Copy) => { lc with
        list := (if k = .beacon then lc.list.filter (fun x => x.kind ≠ .beacon ∨ x.sending = true) else lc.list) ++ [x]
        deferral := if lc.quiet = true ∧ lc.deferral = none then some s.tb.elapsed else lc.deferral }
      let taken := fun (a b : LineController) =>
        ({ s with senderSeq := (s.senderSeq + 1) % 65536, chA := a, chB := b } : State)
      let lost := fun (t : State) => match k with
        | .tripNotice => { t with flags := { t.flags with noticeLoss := true } }
        | .answer => { t with req := { t.req with lostAnswers := min 65535 (t.req.lostAnswers + 1) } }
        | .beacon => t
        | .request => t
        | .handoverNotice => t
      (fits s.chA → fits s.chB → s.send k target payload = taken (joined s.chA c) (joined s.chB c))
        ∧ (fits s.chA → ¬fits s.chB → s.send k target payload = lost (taken (joined s.chA other) s.chB))
        ∧ (¬fits s.chA → fits s.chB → s.send k target payload = lost (taken s.chA (joined s.chB other)))
        ∧ (¬fits s.chA → ¬fits s.chB → s.send k target payload = lost (taken s.chA s.chB)))
    ∧ ∀ (s : State) (r : Request) (st : Status) (content : List Byte),
        let payload := beBytes 1 r.code ++ beBytes 1 r.tag ++ beBytes 1 st.code ++ if st = .ok then content else []
        (¬(s.console = true ∧ r.sender = s.ownNumber) →
            s.answer r st content = s.send .answer r.sender payload)
          ∧ (s.console = true ∧ r.sender = s.ownNumber →
            s.answer r st content = (s.send .answer r.sender payload).emit (.ctxAnswer s.ownNumber payload))

/-! ## Trip inputs (chapter 4) -/

/-- A sample of the inputs (R60 to R63, R65, R68): no effect between multiples of 250 µs; else each input of the sample is
taken, in an order that begins as the operand names it and goes on upward (log entry 12), each on the state that the inputs
before it have left, a disabled one with no effect (R61). What one enabled input makes of it: no effect at the level under
test; a differing one starts a qualification, or abandons one; the first change to qualify after START, after q × 500 µs or
at once with q = 0, sets the recorded level silently; and with q = 0 any later change qualifies at its onset sample, as an
event there (R66). Where it is the only enabled input, that is the command's whole effect. -/
def Obligations.SampleIsQualified : Prop :=
  (∀ (s : State) (lines : BitVec 16) (order : List Nat),
    (s.phase = .running → s.tb.elapsed % 250 = 0 → exec (.inputSample lines order) s =
        .next ((sampleOrder order).foldl (fun t i => t.sampleInput lines i) s))
      ∧ (s.tb.elapsed % 250 ≠ 0 → exec (.inputSample lines order) s = .next s)
      ∧ (∀ i, (s.inputConfig i).enabled = false → s.sampleInput lines i = s)
      ∧ (sampleOrder order).Perm (List.range 16)
      ∧ (order.Nodup → (∀ i ∈ order, i < 16) →
          sampleOrder order = order ++ (List.range 16).filter fun i => !order.contains i))
  ∧ ∀ (s : State) (i : Nat) (lines : BitVec 16) (order : List Nat), s.phase = .running → s.tb.elapsed % 250 = 0 →
    (s.inputConfig i).enabled = true →
    let c := s.input i
    let k := s.inputConfig i
    let level := if k.activeLow = true then !lines.getLsbD i else lines.getLsbD i
    let onset : InputTest := ⟨level, s.tb.elapsed, ⟨s.tb.time, s.tb.g, s.quality⟩⟩
    let leaves := fun (t : State) =>
      s.sampleInput lines i = t ∧ (s.onlyInput i → exec (.inputSample lines order) s = .next t)
    (c.qual = none →
        (c.recorded = some level → leaves s)
          ∧ (c.recorded ≠ some level → 1 ≤ k.q → leaves (s.setInput i { c with qual := some onset }))
          ∧ (c.recorded = none → k.q = 0 → leaves (s.setInput i { c with recorded := some level }))
          ∧ (c.recorded = some (!level) → k.q = 0 → leaves (s.inputEvent i { c with recorded := some level } onset)))
      ∧ ∀ u, c.qual = some u →
        (u.level = level → s.tb.elapsed < u.elapsed + k.q * 500 → leaves s)
          ∧ (u.level ≠ level → c.recorded = some level → leaves (s.setInput i { c with qual := none }))
          ∧ (u.level ≠ level → c.recorded = none → 1 ≤ k.q → leaves (s.setInput i { c with qual := some onset }))
          ∧ (u.level = level → u.elapsed + k.q * 500 ≤ s.tb.elapsed → c.recorded = none →
              leaves (s.setInput i { c with qual := none, recorded := some level }))

/-- An event in NORMAL that does not bring the count to N (R63, R64, R66 to R70, R76, R87, R96), qualified q × 500 µs after
its onset or, with q = 0, at its onset sample: it is counted in the chatter window, an INPUT_CHANGE record dated at its
onset is appended, and by the class and direction a TRIP NOTICE of that record is queued, a local trip counted and a member
handed to the input's group; an active-going UNIT_TRIP leaves its trip association with the tally unit. This is what the
input leaves at its turn in the sample, and the command's whole effect where it is the only enabled one. The TRIP NOTICE
payload has the 18 bytes of R36 in their order. -/
def Obligations.QualifiedChangeIsReported : Prop :=
  (∀ (seq : Nat) (d : Dating) (kind : InputKind) (i : Nat) (level : Bool) (cls : InputClass) (g : Nat) (crossed : Bool),
    let kindCode := match kind with
      | .change => 2
      | .chatterStart => 3
      | .chatterEnd => 4
    let classCode := match cls with
      | .indication => 0
      | .protection => 1
      | .unitTrip => 2
    let payload := tripNoticeBytes seq d kind i level cls g crossed
    payload.length = 18 ∧ payload = beBytes 2 seq ++ beBytes 1 kindCode ++ beBytes 1 i
      ++ beBytes 1 (if level = true then 1 else 0) ++ beBytes 1 classCode ++ beBytes 1 g ++ beBytes 1 d.quality.val
      ++ beBytes 1 d.g ++ beBytes 1 (if crossed = true then 1 else 0) ++ beBytes 4 d.time.s ++ beBytes 4 d.time.u)
  ∧ ∀ (s : State) (i : Nat) (lines : BitVec 16) (order : List Nat) (u : InputTest) (old : Bool), s.phase = .running →
    s.tb.elapsed % 250 = 0 → (s.inputConfig i).enabled = true →
    let c := s.input i
    let k := s.inputConfig i
    let onset : InputTest := ⟨lines.getLsbD i != k.activeLow, s.tb.elapsed, ⟨s.tb.time, s.tb.g, s.quality⟩⟩
    u.level = onset.level →
    (c.qual = some u ∧ u.elapsed + k.q * 500 ≤ s.tb.elapsed) ∨ (c.qual = none ∧ k.q = 0 ∧ u = onset ∧ old ≠ u.level) →
    c.recorded = some old → c.chatter = false → c.events + 1 < s.cfg.chatterLimit →
    let crossed := decide (u.dating.g ≠ s.tb.g)
    let counted : InputChannel := { c with
      qual := none
      recorded := some u.level
      events := min 31 (c.events + 1)
      windowEnd := if c.events = 0 then some (s.tb.elapsed + s.cfg.chatterWindow * 1000000) else c.windowEnd }
    let held := s.setInput i counted
    let linked : State := { held with tally := { held.tally with association := some u.elapsed } }
    let logged := fun (t : State) => t.append u.dating (.input .change i u.level k.cls k.group crossed)
    let told := fun (t : State) => (logged t).send .tripNotice 31
      (tripNoticeBytes s.log.next u.dating .change i u.level k.cls k.group crossed)
    let trip := fun (t : State) => State.modShift t fun r => { r with localTrips := min 16777215 (r.localTrips + 1) }
    let member : Member := ⟨s.ownNumber, i, s.log.next, u.dating⟩
    let leaves := fun (t : State) =>
      s.sampleInput lines i = t ∧ (s.onlyInput i → exec (.inputSample lines order) s = .next t)
    (k.cls = .indication → leaves (logged held))
      ∧ (k.cls ≠ .indication → u.level = false → leaves (told held))
      ∧ (k.cls = .protection → u.level = true → k.group = 0 → leaves (trip (told held)))
      ∧ (k.cls = .protection → u.level = true → k.group ≠ 0 →
          leaves ((trip (told held)).handMember k.group member))
      ∧ (k.cls = .unitTrip → u.level = true → k.group = 0 → leaves (trip (told linked)))
      ∧ (k.cls = .unitTrip → u.level = true → k.group ≠ 0 →
          leaves ((trip (told linked)).handMember k.group member))

/-- The chatter monitor (R69 to R74), an event qualifying after its time or, with q = 0, at its onset sample: the event that
brings the count to N appends CHATTER_START, dated at its onset, and enters CHATTER with a quiet end one window ahead; in
CHATTER a qualified change moves the recorded level and the quiet end alone; the window end returns the count to 0; and at
the quiet end CHATTER_END is appended with the recorded level, dated then. Both records of a PROTECTION or UNIT_TRIP input
are sent as notices and hand no member. What a sample does, the input does at its turn in it; it is the command's whole
effect where the input is the only enabled one. -/
def Obligations.ChatterIsEnteredAndLeft : Prop :=
  ∀ (s : State) (i : Nat), s.phase = .running →
    let c := s.input i
    let k := s.inputConfig i
    let ahead := s.tb.elapsed + s.cfg.chatterWindow * 1000000
    let report := fun (t : State) (kind : InputKind) (level : Bool) (d : Dating) (crossed : Bool) =>
      let logged := t.append d (.input kind i level k.cls k.group crossed)
      if k.cls = .indication then logged
      else logged.send .tripNotice 31 (tripNoticeBytes s.log.next d kind i level k.cls k.group crossed)
    (∀ lines order u old, s.tb.elapsed % 250 = 0 → (s.inputConfig i).enabled = true → c.recorded = some old →
        let leaves := fun (t : State) =>
          s.sampleInput lines i = t ∧ (s.onlyInput i → exec (.inputSample lines order) s = .next t)
        let onset : InputTest := ⟨lines.getLsbD i != k.activeLow, s.tb.elapsed, ⟨s.tb.time, s.tb.g, s.quality⟩⟩
        u.level = onset.level →
        (c.qual = some u ∧ u.elapsed + k.q * 500 ≤ s.tb.elapsed)
            ∨ (c.qual = none ∧ k.q = 0 ∧ u = onset ∧ old ≠ u.level) →
        let linked : State := if k.cls = .unitTrip ∧ u.level = true
          then { s with tally := { s.tally with association := some u.elapsed } } else s
        let settled : InputChannel := { c with qual := none, recorded := some u.level }
        (c.chatter = true → leaves (linked.setInput i { settled with quietEnd := some ahead }))
          ∧ (c.chatter = false → s.cfg.chatterLimit ≤ c.events + 1 → leaves (report (linked.setInput i
              { settled with chatter := true, events := min 31 (c.events + 1), windowEnd := none, quietEnd := some ahead })
              .chatterStart u.level u.dating (decide (u.dating.g ≠ s.tb.g)))))
      ∧ (∀ e, c.windowEnd = some e →
          (e ≤ s.tb.elapsed →
              exec (.chatterWindowEnd i) s = .next (s.setInput i { c with events := 0, windowEnd := none }))
            ∧ (s.tb.elapsed < e → exec (.chatterWindowEnd i) s = .next s))
      ∧ ∀ e level, c.chatter = true → c.quietEnd = some e → c.recorded = some level →
          (e ≤ s.tb.elapsed → exec (.chatterEnd i) s = .next (report
              (s.setInput i { c with chatter := false, events := 0, quietEnd := none })
              .chatterEnd level ⟨s.tb.time, s.tb.g, s.quality⟩ false))
            ∧ (s.tb.elapsed < e → exec (.chatterEnd i) s = .next s)

/-! ## First-out groups (chapter 6) -/

/-- An OPEN group closes when station time is at or after its close instant, T0 + (Wg + settle) ms, and not before (R95,
R103): it is CLOSED with its list kept and its hold end set, none with a hold of 0; GROUP_CLOSE names its first-out; and a
first-out of the own station is counted in the open shift. -/
def Obligations.GroupClosesAtItsInstant : Prop :=
  ∀ (s : State) (g f : Nat) (t0 : StationTime) (m : Member), s.phase = .running → 1 ≤ g → g ≤ 7 →
    let x := s.group g
    x.state = .opened → x.t0 = some t0 → x.firstOut = some f → x.members[f]? = some m →
    let due := t0.s * 1000000 + t0.u + (s.cfg.wg + s.cfg.settle) * 1000
    let hold := if s.cfg.hold = 0 then none else some (s.tb.elapsed + s.cfg.hold * 1000000)
    let closed := (s.setGroup g { x with state := .closed, holdEnd := hold }).append ⟨s.tb.time, s.tb.g, s.quality⟩
      (.groupClose g m x.members.length x.overflow)
    (due ≤ s.tb.time.s * 1000000 + s.tb.time.u →
        (m.station ≠ s.ownNumber → exec (.groupClose g) s = .next closed)
          ∧ (m.station = s.ownNumber → exec (.groupClose g) s = .next
              (closed.modShift fun r => { r with firstOuts := min 16777215 (r.firstOuts + 1) })))
      ∧ (s.tb.time.s * 1000000 + s.tb.time.u < due → exec (.groupClose g) s = .next s)

/-- A CLOSED group returns to IDLE when the elapsed count reaches its hold end (R106), its list emptied, its overflow count
0 and its T0, first-out and hold end absent, with no record appended; the next member opens it afresh. A member of the same
elapsed microsecond taken first is a stray of reason AFTER_CLOSE, and the group then returns to IDLE; taken after the hold
end, it opens the group. -/
def Obligations.HoldEndReturnsGroupToIdle : Prop :=
  ∀ (s : State) (g e : Nat) (m : Member), s.phase = .running → s.groups.length = 7 → 1 ≤ g → g ≤ 7 →
    (s.group g).state = .closed → (s.group g).holdEnd = some e →
    let idle := s.setGroup g ⟨.idle, none, [], 0, none, none⟩
    let stray := s.append ⟨s.tb.time, s.tb.g, s.quality⟩
      (.groupStray g .afterClose m.station m.input m.logSeq m.dating.time)
    (s.tb.elapsed < e → exec (.groupHoldEnd g) s = .next s)
      ∧ (e ≤ s.tb.elapsed →
          exec (.groupHoldEnd g) s = .next idle ∧ idle.log = s.log
            ∧ s.handMember g m = stray
            ∧ exec (.groupHoldEnd g) stray = .next (stray.setGroup g ⟨.idle, none, [], 0, none, none⟩)
            ∧ (idle.handMember g m).group g =
                { state := if s.cfg.closeInstant m.dating.time ≤ s.instant then .closed else .opened
                  t0 := some m.dating.time, members := [m], overflow := 0, firstOut := some 0
                  holdEnd := if s.cfg.closeInstant m.dating.time ≤ s.instant ∧ s.cfg.hold ≠ 0
                    then some (s.tb.elapsed + s.cfg.hold * 1000000) else none })

/-- A member handed to its group (R98 to R101, R105, R107): it opens an IDLE group, which closes at once where station time
has reached its close instant; within the window of an OPEN group it joins at its place in list order and the first-out, the
first timed member or else the first, is found again, or it is counted in overflow when 16 are listed; a member equal to a
listed one in date, station and input goes after it (R98); outside the window, or at a CLOSED group, GROUP_STRAY is appended
with its reason and the group is unchanged. -/
def Obligations.MemberIsHandedToItsGroup : Prop :=
  ∀ (s : State) (g : Nat) (m : Member), s.groups.length = 7 → 1 ≤ g → g ≤ 7 →
    let x := s.group g
    let date := m.dating.time.s * 1000000 + m.dating.time.u
    let stray := fun why => s.append ⟨s.tb.time, s.tb.g, s.quality⟩
      (.groupStray g why m.station m.input m.logSeq m.dating.time)
    let opened := s.setGroup g ⟨.opened, some m.dating.time, [m], 0, some 0, none⟩
    (x.state = .idle →
        (s.instant < date + (s.cfg.wg + s.cfg.settle) * 1000 → s.handMember g m = opened)
          ∧ (date + (s.cfg.wg + s.cfg.settle) * 1000 ≤ s.instant → s.handMember g m = opened.closeGroup g))
      ∧ (x.state = .closed → s.handMember g m = stray .afterClose)
      ∧ ∀ t0, x.state = .opened → x.t0 = some t0 →
          (date + s.cfg.wg * 1000 < t0.instant → s.handMember g m = stray .beforeWindow)
            ∧ (t0.instant + s.cfg.wg * 1000 < date → s.handMember g m = stray .afterWindow)
            ∧ (t0.instant ≤ date + s.cfg.wg * 1000 → date ≤ t0.instant + s.cfg.wg * 1000 →
                (16 ≤ x.members.length →
                    s.handMember g m = s.setGroup g { x with overflow := min 255 (x.overflow + 1) })
                  ∧ (x.members.length < 16 → x.members.Pairwise (fun a b => b.before a = false) →
                      ∃ ms f, s.handMember g m = s.setGroup g { x with members := ms, firstOut := some f }
                        ∧ ms = x.members.filter (fun a => !m.before a) ++ m :: x.members.filter (fun a => m.before a)
                        ∧ (∀ a b : Member, a.before b = true ↔ a.dating.time.instant < b.dating.time.instant
                            ∨ (a.dating.time.instant = b.dating.time.instant
                              ∧ (a.station < b.station ∨ (a.station = b.station ∧ a.input < b.input))))
                        ∧ ms.Perm (m :: x.members) ∧ ms.Pairwise (fun a b => b.before a = false)
                        ∧ ((∃ b, ms[f]? = some b ∧ b.dating.timed = true
                              ∧ ∀ j y, j < f → ms[j]? = some y → y.dating.timed = false)
                            ∨ (f = 0 ∧ ∀ y ∈ ms, y.dating.timed = false))))

/-- Two members that an OPEN group with room for both admits leave the same machine in either order (R102): list order is
fixed by the members' dates, stations and inputs, and the first-out by their list. -/
def Obligations.MemberOrderDoesNotMatter : Prop :=
  ∀ (s : State) (g : Nat) (m n : Member) (t0 : StationTime), s.groups.length = 7 → 1 ≤ g → g ≤ 7 →
    let x := s.group g
    let inWindow := fun (k : Member) => s.cfg.windowFrom t0 ≤ k.instant ∧ k.instant ≤ s.cfg.windowTo t0
    x.state = .opened → x.t0 = some t0 → x.members.length < 15 → inWindow m → inWindow n →
    ¬(m.instant = n.instant ∧ m.station = n.station ∧ m.input = n.input) →
    (s.handMember g m).handMember g n = (s.handMember g n).handMember g m

/-- Every step keeps every group's list in list order, at most 16 long and empty in IDLE alone, with its best-ranked member
for first-out (R98, R99, R100, R103). -/
def Obligations.GroupsStayRanked : Prop :=
  ∀ s t : State, s.GroupsRanked → Sys2Proof.Machine.step s = .next t → t.GroupsRanked

/-! ## Unit modes and run tallies (chapter 7) -/

/-- A sample of the status lines (R112 to R116): no effect at the qualified combination; another begins a qualification,
which a different sample abandons or begins anew; and a combination that has stood for Q, or with Q = 0 its onset sample,
makes it the qualified one, which is decoded. INVALID clears the candidate and is logged once a stay; the accepted mode
clears the candidate; the candidate's mode leaves it; any other mode forms a new candidate from the onset latch, accepted at
once where its dwell has already run out. -/
def Obligations.StatusSampleIsQualified : Prop :=
  ∀ (s : State) (lines : BitVec 6), s.phase = .running → s.tb.elapsed % 250 = 0 →
    let comb := lines.toNat
    let onset : StatusTest := ⟨comb, s.tb.elapsed, ⟨s.tb.time, s.tb.g, s.quality⟩, 0, 0⟩
    let withTally := fun (t : Tally) => ({ s with tally := t } : State)
    let run := exec (.statusSample lines) s
    (s.tally.qual = none → s.tally.qualified = some comb → run = .next s)
      ∧ (s.tally.qual = none → s.tally.qualified ≠ some comb → 1 ≤ s.cfg.qualMs →
          run = .next (withTally { s.tally with qual := some onset }))
      ∧ (∀ t, s.tally.qual = some t →
        (t.comb = comb → s.tb.elapsed < t.elapsed + s.cfg.qualMs * 1000 → run = .next s)
          ∧ (t.comb ≠ comb → s.tally.qualified = some comb →
              run = .next (withTally { s.tally with qual := none }))
          ∧ (t.comb ≠ comb → s.tally.qualified ≠ some comb → 1 ≤ s.cfg.qualMs →
              run = .next (withTally { s.tally with qual := some onset })))
      ∧ ∀ t : StatusTest,
          (s.tally.qual = some t ∧ t.comb = comb ∧ t.elapsed + s.cfg.qualMs * 1000 ≤ s.tb.elapsed)
            ∨ (s.cfg.qualMs = 0 ∧ t = onset ∧ s.tally.qualified ≠ some comb
                ∧ ∀ w, s.tally.qual = some w → w.comb ≠ comb) →
              let settled : Tally := { s.tally with qual := none, qualified := some comb }
              let decoded := s.cfg.modeTable.getD comb none
              (decoded = none → s.tally.invalidLogged = true →
                  run = .next (withTally { settled with candidate := none }))
                ∧ (decoded = none → s.tally.invalidLogged = false →
                    run = .next ((withTally { settled with candidate := none, invalidLogged := true }).append
                      ⟨s.tb.time, s.tb.g, s.quality⟩ (.invalidCombination comb)))
                ∧ (decoded = some s.tally.accepted →
                    run = .next (withTally { settled with candidate := none, invalidLogged := false }))
                ∧ ∀ m, decoded = some m → m ≠ s.tally.accepted →
                  let formed : Candidate :=
                    ⟨m, t.elapsed, t.dating.time, t.elapsed + s.cfg.dwell * 1000000, t.d, t.ds⟩
                  (s.tally.candidate.map (·.mode) = some m →
                      run = .next (withTally { settled with invalidLogged := false }))
                    ∧ (s.tally.candidate.map (·.mode) ≠ some m → s.tb.elapsed < formed.dwellEnd →
                        run = .next (withTally { settled with invalidLogged := false, candidate := some formed }))
                    ∧ (s.tally.candidate.map (·.mode) ≠ some m → formed.dwellEnd ≤ s.tb.elapsed →
                        run = .next ((withTally { settled with invalidLogged := false }).accept formed))

/-- When the elapsed count reaches a candidate's dwell end, and not before, the candidate is accepted (R120 to R123): d ms
move between the two lifetime tallies and ds ms between the two durations of the open shift; the service tally is adjusted
by the running column; the entry, and a trip stop or a normal stop, are counted in both; the service limit is judged;
MODE_CHANGE is appended; the mode is taken; and a checkpoint is requested. R120 lists the checkpoint before the mode: that
its content holds the mode taken is the model's reading (log entry 14), and so are SERVICE_DUE before MODE_CHANGE and the
limit judged at every acceptance (log entry 28). -/
def Obligations.DwellEndAcceptsTheCandidate : Prop :=
  ∀ (s : State) (c : Candidate), s.phase = .running → s.tally.candidate = some c → c.mode ≠ s.tally.accepted →
    let old := s.tally.accepted
    let turns := fun (m : Mode) => m ≠ .standstill ∧ m ≠ .isolated
    let trip := decide (turns old ∧ ¬turns c.mode ∧ ∃ t, s.tally.association = some t
      ∧ c.elapsed ≤ t + s.cfg.associationWin * 1000000 ∧ t ≤ c.elapsed)
    let normal := decide (turns old ∧ ¬turns c.mode) && !trip
    let moved := fun (top d : Nat) (l : List Nat) =>
      (l.set old.code (l.getD old.code 0 - d)).set c.mode.code (min top (l.getD c.mode.code 0 + d))
    let entered := fun (l : List Nat) => l.set c.mode.code (min 16777215 (l.getD c.mode.code 0 + 1))
    let counted := fun (b : Bool) (n : Nat) => if b = true then min 16777215 (n + 1) else n
    let service := if turns old ∧ ¬turns c.mode then s.tally.service - c.d
      else if ¬turns old ∧ turns c.mode then min 140737488355327 (s.tally.service + c.d) else s.tally.service
    let v : State := { s with
      shift := { s.shift with current := { s.shift.current with
        durations := moved 4294967295 c.ds s.shift.current.durations
        entries := entered s.shift.current.entries
        tripStops := counted trip s.shift.current.tripStops
        normalStops := counted normal s.shift.current.normalStops } }
      tally := { s.tally with
        lifetime := moved 140737488355327 c.d s.tally.lifetime
        entries := entered s.tally.entries
        tripStops := counted trip s.tally.tripStops
        normalStops := counted normal s.tally.normalStops
        service := service } }
    let logged := v.judgeService.append ⟨s.tb.time, s.tb.g, s.quality⟩ (.modeChange old c.mode c.onset trip)
    (c.dwellEnd ≤ s.tb.elapsed → exec .dwellEnd s = .next (State.requestCheckpoint
        { logged with tally := { logged.tally with accepted := c.mode, candidate := none } } false))
      ∧ (s.tb.elapsed < c.dwellEnd → exec .dwellEnd s = .next s)

/-- An elapsed-millisecond tick (R1, R113, R118, R119): one millisecond to the accepted mode's lifetime tally, to its
duration and to the powered duration of the open shift, to the service tally where the mode is running, and to d and ds of
the onset latch and of the candidate when their onset lies earlier; nothing of the open shift, and no ds, once the powered
duration stands at its top. The count 0, and a count between, is no tick. Then the service limit: the tally reaching its
threshold with service-due clear sets it and appends SERVICE_DUE (R125). -/
def Obligations.TickCreditsOneMillisecond : Prop :=
  (∀ s : State, s.phase = .running → s.tb.elapsed = 0 ∨ s.tb.elapsed % 1000 ≠ 0 →
    exec .elapsedMillisecondTick s = .next s)
  ∧ (∀ s : State, s.phase = .running → 0 < s.tb.elapsed → s.tb.elapsed % 1000 = 0 →
    let m := s.tally.accepted
    let turns := m ≠ .standstill ∧ m ≠ .isolated
    let room := s.shift.current.powered < 4294967295
    let r := s.shift.current
    let v : State := { s with
      shift := { s.shift with current := if room then { r with
          powered := r.powered + 1, durations := r.durations.set m.code (r.durations.getD m.code 0 + 1) } else r }
      tally := { s.tally with
        lifetime := s.tally.lifetime.set m.code (min 140737488355327 (s.tally.lifetime.getD m.code 0 + 1))
        service := if turns then min 140737488355327 (s.tally.service + 1) else s.tally.service
        qual := s.tally.qual.map fun t => if t.elapsed < s.tb.elapsed
          then { t with d := t.d + 1, ds := if room then t.ds + 1 else t.ds } else t
        candidate := s.tally.candidate.map fun c => if c.elapsed < s.tb.elapsed
          then { c with d := c.d + 1, ds := if room then c.ds + 1 else c.ds } else c } }
    (turns → exec .elapsedMillisecondTick s = .next v.judgeService)
      ∧ (¬turns → exec .elapsedMillisecondTick s = .next v))
  ∧ ∀ s : State,
    let reached := s.cfg.serviceLimit ≠ 0 ∧ s.cfg.serviceLimit * 3600000 ≤ s.tally.service
    (s.tally.serviceDue = false → reached → s.judgeService =
        State.append { s with tally := { s.tally with serviceDue := true } } ⟨s.tb.time, s.tb.g, s.quality⟩
          (.serviceDue s.tally.service))
      ∧ (s.tally.serviceDue = true ∨ ¬reached → s.judgeService = s)

/-- The conservation law of R118: without saturation, and no PRESET or reset in it, the seven lifetime tallies together gain
one millisecond at each elapsed-millisecond tick and nothing at any other command, an acceptance included. -/
def Obligations.LifetimeTalliesGainOnlyTicks : Prop :=
  ∀ (c : Instr) (s t : State), s.phase = .running → s.Unsaturated → setsTallies c = false → exec c s = .next t →
    t.tally.lifetime.sum =
      s.tally.lifetime.sum + if c = .elapsedMillisecondTick ∧ 0 < s.tb.elapsed ∧ s.tb.elapsed % 1000 = 0 then 1 else 0

/-- In the open shift record, and in every checkpoint the store holds, the sum of the seven per-mode durations equals the
powered duration (R119, R120, R140), and every step keeps it so. -/
def Obligations.ShiftDurationsStayBalanced : Prop :=
  ∀ s t : State, s.ShiftBalanced → Sys2Proof.Machine.step s = .next t → t.ShiftBalanced

/-- While the part runs a tally set that is locked down stays protected (R126, R128, R129), and only a power-on reset or a
supply reset clears a lock-down bit (R126, R186). -/
def Obligations.LockedSetsStayProtected : Prop :=
  (∀ s t : State, s.LockedProtected → Sys2Proof.Machine.step s = .next t → t.LockedProtected)
    ∧ ∀ (c : Instr) (s t : State), exec c s = .next t → c ≠ .powerOn → (∀ v, c ≠ .supplyReset v) →
        (s.lockLife = true → t.lockLife = true) ∧ (s.lockService = true → t.lockService = true)

/-! ## Shift handover (chapter 8) -/

/-- The shift schedule (R134): the number of a station time, 0 before the first boundary and otherwise one more than the
whole shift lengths since it; its boundaries B(n); window open and force close in whole seconds; force close of n before the
boundary B(n + 2); numbers no higher than 397,683, which is reached with eight shifts a day; the two instants compared with
station time as station instants when the schedule is evaluated; and the rule's example. -/
def Obligations.ShiftScheduleIsByBoundaries : Prop :=
  (∀ (c : Configuration) (sec n : Nat), c.shiftsPerDay ∈ [1, 2, 3, 4, 6, 8] →
    let lsh := 86400 / c.shiftsPerDay
    c.firstBoundary < lsh → c.lead ≤ lsh / 2 → c.grace ≤ lsh / 2 →
    let begins := fun (k : Nat) => c.firstBoundary + (k - 1) * lsh
    (sec < c.firstBoundary → c.shiftNumber sec = 0)
      ∧ (c.firstBoundary ≤ sec → c.shiftNumber sec = (sec - c.firstBoundary) / lsh + 1
          ∧ begins (c.shiftNumber sec) ≤ sec ∧ sec < begins (c.shiftNumber sec + 1))
      ∧ (c.windowOpen n : Int) = max 0 ((begins (n + 1) : Int) - c.lead)
      ∧ c.forceClose n = begins (n + 1) + c.grace ∧ c.forceClose n < begins (n + 2)
      ∧ (sec ≤ 4294967295 → c.shiftNumber sec ≤ 397683)
      ∧ (c.shiftsPerDay = 8 → c.firstBoundary = 0 → c.shiftNumber 4294967295 = 397683))
  ∧ (∀ (s : State) (n : Nat), s.shift.deferred = false → s.shift.current.number = some n →
    let now := s.tb.time.s * 1000000 + s.tb.time.u
    (s.cfg.forceClose n * 1000000 ≤ now → s.evaluate.shift.current.openCause = .forced)
      ∧ (now < s.cfg.forceClose n * 1000000 → s.shift.state = .running →
          s.evaluate.shift.current = s.shift.current
            ∧ (s.evaluate.shift.state = .window ↔ s.cfg.windowOpen n * 1000000 ≤ now)))
  ∧ let d := Configuration.defaults .good
    d.shiftNumber 389858400 = 13537 ∧ d.shiftNumber (389858400 + 8 * 3600) = 13538
      ∧ d.shiftNumber (389858400 + 16 * 3600) = 13539
      ∧ d.windowOpen 13537 = 389836800 + 13 * 3600 + 45 * 60 ∧ d.forceClose 13537 = 389836800 + 14 * 3600 + 30 * 60

/-- The shift unit's own work. An evaluation of the schedule (R138, R139, R140): before C(n) the window opens at W(n); at or
after it the shift is closed by force, at C(n) or its opened-at if later, without a sign-off marked so, and the next shift,
n + 1 or n(S) where station time has passed C(n + 1), is opened and evaluated in its turn; a shift without a number has
neither instant and stays as it is (R137). A close appends SHIFT_CLOSE, queues the closed record, opens the next with its
counts at 0 and requests a checkpoint. A shift as it is opened (R136): its number, instant, cause and crew as given, every
duration, count and tally 0, no sign-off, the flags clear, worst quality the current one and time-uncertain where that is 3.
A change of time quality raises the worst quality and, to 3, sets time-uncertain (R148); a step counts and adds its amount
(R149), each up to its limit. A round that does not step takes its state, tells of a changed quality, and the first that
leaves FREE makes the first evaluation (R44, R151): it gives a number to a shift without one, keeps a recovered shift, its
handover state derived, while n(S) ≤ n or station time is before C(n), each recovered one with a power gap more, or else
closes it with cause POWER_GAP at its checkpoint's time; and evaluates. -/
def Obligations.ScheduleClosesByForce : Prop :=
  (∀ (s : State) (n : Nat), s.shift.deferred = false → s.shift.current.number = some n →
    s.cfg.shiftsPerDay ∈ [1, 2, 3, 4, 6, 8] → s.cfg.firstBoundary < 86400 / s.cfg.shiftsPerDay →
    s.cfg.grace ≤ 86400 / s.cfg.shiftsPerDay / 2 →
    let r := s.shift.current
    let closedAt := if s.cfg.forceClose n * 1000000 < r.openedAt.time.s * 1000000 + r.openedAt.time.u
      then r.openedAt.time else ⟨s.cfg.forceClose n, 0⟩
    let next := if s.instant < s.cfg.forceClose (n + 1) * 1000000 then n + 1 else s.cfg.shiftNumber s.tb.time.s
    let closed := s.closeShift { r with noSignOff := r.noSignOff || r.signOff.isNone } closedAt .forced
      (ShiftRecord.opening (some next) ⟨closedAt, s.tb.g, s.quality⟩ .forced none)
    s.tb.time.u < 1000000 →
    (s.instant < s.cfg.forceClose n * 1000000 →
        (s.shift.state = .running → s.cfg.windowOpen n * 1000000 ≤ s.instant →
            s.evaluate = { s with shift := { s.shift with state := .window } })
          ∧ (s.shift.state ≠ .running ∨ s.instant < s.cfg.windowOpen n * 1000000 → s.evaluate = s))
      ∧ (s.cfg.forceClose n * 1000000 ≤ s.instant →
          (s.instant < s.cfg.windowOpen next * 1000000 → s.evaluate = closed)
            ∧ (s.cfg.windowOpen next * 1000000 ≤ s.instant →
                s.evaluate = { closed with shift := { closed.shift with state := .window } })))
  ∧ (∀ s : State, s.shift.deferred = true ∨ s.shift.current.number = none → s.evaluate = s)
  ∧ (∀ (number : Option Nat) (openedAt : Dating) (cause : OpenCause) (crew : Option (Nat × StationTime)),
    let r := ShiftRecord.opening number openedAt cause crew
    r.number = number ∧ r.openedAt = openedAt ∧ r.openCause = cause ∧ r.crew = crew ∧ r.signOff = none ∧ r.outgoing = none
      ∧ r.powered = 0 ∧ r.durations = [0, 0, 0, 0, 0, 0, 0] ∧ r.entries = [0, 0, 0, 0, 0, 0, 0] ∧ r.tripStops = 0
      ∧ r.normalStops = 0 ∧ r.localTrips = 0 ∧ r.firstOuts = 0 ∧ r.timeSteps = 0 ∧ r.netStep = 0 ∧ r.powerGaps = 0
      ∧ r.strays = 0 ∧ r.lateTakeover = false ∧ r.noSignOff = false ∧ r.worst = openedAt.quality
      ∧ (r.uncertain = true ↔ openedAt.quality = 3))
  ∧ (∀ (s : State) (closing next : ShiftRecord) (closedAt : StationTime) (why : CloseCause),
    let t := (s.append ⟨s.tb.time, s.tb.g, s.quality⟩ (.shiftClose closing.number why)).queueShift
      ⟨closing, closedAt, s.tb.g, why⟩
    s.closeShift closing closedAt why next = State.requestCheckpoint
      { t with
        shift := { t.shift with current := next, state := .running }
        tally := { t.tally with
          qual := t.tally.qual.map fun x => { x with ds := 0 }
          candidate := t.tally.candidate.map fun x => { x with ds := 0 } } } false)
  ∧ ∀ s : State,
    let r := s.shift.current
    let here := s.cfg.shiftNumber s.tb.time.s
    let gap : ShiftRecord := { r with powerGaps := min 65535 (r.powerGaps + 1) }
    let withShift := fun (x : ShiftRecord) => ({ s with shift := { s.shift with current := x } } : State)
    let ended := fun (x : ShiftRecord) (h : HandoverState) => ({ s with shift := ⟨x, h, false, none⟩ } : State)
    s.takeQuality = withShift
        { r with worst := max r.worst s.quality, uncertain := r.uncertain || decide (s.quality = 3) }
      ∧ (∀ d : Int, s.countStep d = withShift { r with
          timeSteps := min 65535 (r.timeSteps + 1)
          netStep := max (-9223372036854775807) (min 9223372036854775807 (r.netStep + d)) })
      ∧ (∀ new : AgreementState,
          let t : State := { s with agr := { s.agr with state := new } }
          let told := if new.quality = s.agr.state.quality then t else t.takeQuality
          (s.shift.deferred = true ∧ s.agr.state = .free ∧ new ≠ .free → s.enterState new = told.firstEvaluation)
            ∧ (¬(s.shift.deferred = true ∧ s.agr.state = .free ∧ new ≠ .free) → s.enterState new = told))
      ∧ (r.number = none →
          (s.shift.recovered = none →
              s.firstEvaluation = (ended { r with number := some here } s.shift.state).evaluate)
            ∧ (s.shift.recovered ≠ none →
              s.firstEvaluation = (ended { gap with number := some here } s.shift.state).evaluate))
      ∧ ∀ n at', r.number = some n → s.shift.recovered = some at' →
          (here ≤ n ∨ s.instant < s.cfg.forceClose n * 1000000 → s.firstEvaluation = State.evaluate (ended gap
              (if r.signOff.isSome = true then .signedOff
                else if s.cfg.windowOpen n * 1000000 ≤ s.instant then .window else .running)))
            ∧ (n < here → s.cfg.forceClose n * 1000000 ≤ s.instant → s.firstEvaluation =
                State.evaluate ((ended r s.shift.state).closeShift { r with noSignOff := r.noSignOff || r.signOff.isNone }
                  (if at'.instant < r.openedAt.time.instant then r.openedAt.time else at') .powerGap
                  (ShiftRecord.opening (some here) ⟨s.tb.time, s.tb.g, s.quality⟩ .powerUp none)))

/-- A handover notice taken by the shift unit (R141 to R145): a SIGN_OFF in WINDOW fills sign-off time and outgoing crew; a
TAKE_OVER in WINDOW or SIGNED_OFF closes the shift at its action time, held between the limits of R143, and opens the next;
a TAKE_OVER of the shift before, after a forced close with no crew yet, is a late takeover; every other is counted stray. -/
def Obligations.HandoverNoticeIsTaken : Prop :=
  ∀ (s : State) (a : HandoverNotice),
    let r := s.shift.current
    let stray := s.modShift fun r => { r with strays := min 65535 (r.strays + 1) }
    let sound := (a.action = 1 ∨ a.action = 2) ∧ a.time.u < 1000000 ∧ (∀ t, a.signOff = some t → t.u < 1000000)
    (¬sound ∨ s.shift.deferred = true ∨ r.number = none → s.takeHandover a = stray)
      ∧ ∀ n, sound → s.shift.deferred = false → r.number = some n →
        (a.action = 1 → a.number = n →
            (s.shift.state = .window → s.takeHandover a = { s with shift := { s.shift with
                current := { r with signOff := some a.time, outgoing := some a.crew }, state := .signedOff } })
              ∧ (s.shift.state = .signedOff → s.takeHandover a = s)
              ∧ (s.shift.state = .running → s.takeHandover a = stray))
          ∧ (a.action = 1 → a.number ≠ n → s.takeHandover a = stray)
          ∧ (a.action = 2 → a.number = n → s.shift.state = .running → s.takeHandover a = stray)
          ∧ (a.action = 2 → a.number = n → s.shift.state ≠ .running →
              ∃ closedAt : StationTime,
                closedAt.instant = max (max (min a.time.instant s.instant) (s.cfg.windowOpen n * 1000000))
                    r.openedAt.time.instant
                  ∧ s.takeHandover a = State.evaluate (s.closeShift
                      (if s.shift.state = .signedOff then r
                        else if a.signOff = none then { r with noSignOff := true } else { r with signOff := a.signOff })
                      closedAt .takeover
                      (ShiftRecord.opening (some (n + 1)) ⟨closedAt, s.tb.g, s.quality⟩ .takeover
                        (some (a.crew, a.time)))))
          ∧ (a.action = 2 → a.number ≠ n →
              (r.openCause = .forced → r.crew = none → n = a.number + 1 → s.takeHandover a =
                  s.modShift fun r => { r with crew := some (a.crew, a.time), lateTakeover := true })
                ∧ (¬(r.openCause = .forced ∧ r.crew = none ∧ n = a.number + 1) → s.takeHandover a = stray))

/-- Among shift records that carry a number, each opened shift's number is greater than that of the shift it follows (R140):
while the part runs, the open shift keeps its number or gives way to a greater one. -/
def Obligations.ShiftNumbersOnlyRise : Prop :=
  ∀ (c : Instr) (s t : State) (n : Nat), s.phase = .running → t.phase = .running → exec c s = .next t →
    s.cfg.shiftsPerDay ∈ [1, 2, 3, 4, 6, 8] → s.tb.time.u < 1000000 → s.shift.current.number = some n →
    ∃ m, t.shift.current.number = some m ∧ n ≤ m
      ∧ (t.shift.current.openedAt ≠ s.shift.current.openedAt → n < m)

/-! ## The trip log (chapter 5) and the record store (chapter 9) -/

/-- A record appended (R79, R80, R83, R161, R168): it takes the next log sequence, which rises by one modulo 65536; it is
written at the newest end, the oldest giving way with LOG_OVERRUN when 256 are held; and its archive record is queued, or
dropped with ARCHIVE_LOSS when the write queue is full or the trip archive stopped. -/
def Obligations.RecordIsAppended : Prop :=
  ∀ (s : State) (d : Dating) (b : RecordBody),
    let r : Record := ⟨s.log.next, d, b⟩
    let next := (s.log.next + 1) % 65536
    let log : TripLog := if s.log.records.length < 256 then ⟨s.log.records ++ [r], s.log.get, next⟩
      else ⟨s.log.records.tail ++ [r], (s.log.get + 1) % 256, next⟩
    let flags : StickyFlags := if s.log.records.length < 256 then s.flags else { s.flags with logOverrun := true }
    let open' := s.store.trips.stopped = false ∧ 2 ≤ (s.store.usablePages .trips).length
    (open' → s.store.queue.length < 16 → s.append d b =
        { s with log := log, flags := flags,
                 store := { s.store with queue := s.store.queue ++ [⟨.archive r, false, false, false⟩] } })
      ∧ (¬open' ∨ 16 ≤ s.store.queue.length →
          s.append d b = { s with log := log, flags := { flags with archiveLoss := true } })

/-- At every step the trip log keeps at most 256 records, whose log sequences are consecutive modulo 65536 from the oldest
to the newest, the next log sequence following them (R79, R82, R83). -/
def Obligations.LogSequencesStayConsecutive : Prop :=
  ∀ s t : State, s.log.Consecutive → Sys2Proof.Machine.step s = .next t → t.log.Consecutive

/-- No step lets a queue grow past its places: 256 records in the trip log, 64 notices, 4 requests, 8 copies in each
transmit list, 16 entries in the write queue (R24, R82, R89, R160, R175). -/
def Obligations.QueuesStayBounded : Prop :=
  ∀ s t : State, s.Bounded → Sys2Proof.Machine.step s = .next t → t.Bounded

/-- A checkpoint requested (R161, R163, R164, R168): an EMPTY image is filled from live state and queued, as a power-fail
entry for a supply warning, or waits where the queue is full; a FILLED one is filled anew, its entry raised to priority 1
for a supply warning; a WRITING one has its pending mark set; and a stopped journal drops the request. At a queue of 16
entries a power-fail checkpoint with no entry queued removes the newest shift record, or with none the newest archive
record, sets ARCHIVE_LOSS and takes the place. Each filling restarts the interval timer, whose expiry requests a checkpoint
and starts it again. A closed shift record is queued; at 16 entries it removes a queued checkpoint entry, whose image then
waits, or is dropped with ARCHIVE_LOSS. A waiting image joins at its priority once there is a place. No entry whose record
is being programmed is removed, nor one that waits for its retry, which is the model's reading (log entry 17). What fills
the image is live state as it stands (R162): station time and its quality, F, the lifetime tallies with their entries and
stops, the service tally and its due state, the protect bits, the accepted mode, the next log sequence, the open shift. -/
def Obligations.CheckpointIsRequested : Prop :=
  (∀ s : State, s.snapshot = {
      time := s.tb.time, quality := s.agr.state.quality, f := s.agr.f, lifetime := s.tally.lifetime
      entries := s.tally.entries, tripStops := s.tally.tripStops, normalStops := s.tally.normalStops
      service := s.tally.service, serviceDue := s.tally.serviceDue, protectLife := s.tally.protectLife
      protectService := s.tally.protectService, accepted := s.tally.accepted, nextLog := s.log.next
      shift := s.shift.current })
  ∧ (∀ (s : State) (fail : Bool),
    let ahead := some (s.tb.elapsed + s.cfg.checkpointEvery * 1000000)
    let filled := fun (f : Bool) =>
      ({ s.store.image with state := .filled, content := some s.snapshot, powerFail := f } : Image)
    let accepts := s.store.journal.stopped = false ∧ 2 ≤ (s.store.usablePages .journal).length
    (¬accepts → s.requestCheckpoint fail =
        { s with store := { s.store with dropped := min 65535 (s.store.dropped + 1) } })
      ∧ (accepts → s.store.image.state = .empty → (∀ e ∈ s.store.queue, e.kind.isImage = false) →
          (s.store.queue.length < 16 → s.requestCheckpoint fail = { s with store := { s.store with
              image := filled fail
              timer := ahead
              queue := s.store.queue ++ [⟨if fail = true then .powerFail else .checkpoint, false, false, false⟩] } })
            ∧ (16 ≤ s.store.queue.length → fail = false → s.requestCheckpoint fail =
                { s with store := { s.store with image := filled false, timer := ahead } }))
      ∧ (accepts → s.store.image.state = .filled → (∀ e ∈ s.store.queue, e.kind.isImage = false) →
          fail = false → s.requestCheckpoint fail =
            { s with store := { s.store with image := filled s.store.image.powerFail, timer := ahead } })
      ∧ (accepts → s.store.image.state ≠ .writing → (∀ e ∈ s.store.queue, e.kind.isImage = false) →
          s.store.queue.length = 16 → fail = true → ∀ i e, s.store.queue[i]? = some e →
          let kept := fun (x : Entry) => x.busy = true ∨ x.failedOnce = true
          ¬kept e → (e.kind.isShift = true ∧ (∀ j x, i < j → s.store.queue[j]? = some x → x.kind.isShift = true → kept x))
              ∨ (e.kind.isArchive = true ∧ (∀ x ∈ s.store.queue, x.kind.isShift = true → kept x)
                ∧ ∀ j x, i < j → s.store.queue[j]? = some x → x.kind.isArchive = true → kept x) →
          s.requestCheckpoint fail = { s with
            flags := { s.flags with archiveLoss := true }
            store := { s.store with
              image := filled true
              timer := ahead
              queue := s.store.queue.eraseIdx i ++ [⟨.powerFail, false, false, false⟩] } })
      ∧ (accepts → s.store.image.state = .filled → (∃ e ∈ s.store.queue, e.kind.isImage = true) →
          (fail = false → s.requestCheckpoint fail =
              { s with store := { s.store with image := filled s.store.image.powerFail, timer := ahead } })
            ∧ (fail = true → s.requestCheckpoint fail = { s with store := { s.store with
                image := filled true
                timer := ahead
                queue := s.store.queue.map fun e =>
                  if e.kind.isImage = true then { e with kind := .powerFail } else e } }))
      ∧ (accepts → s.store.image.state = .writing → s.requestCheckpoint fail = { s with store := { s.store with
          image := { s.store.image with
            pending := true
            pendingFail := s.store.image.pendingFail || fail } } }))
  ∧ (∀ (s : State) (e : Nat), s.phase = .running → s.store.timer = some e →
    let t := s.requestCheckpoint false
    (e ≤ s.tb.elapsed → exec .checkpointIntervalExpiry s = .next { t with store := { t.store with
        timer := some (s.tb.elapsed + s.cfg.checkpointEvery * 1000000) } })
      ∧ (s.tb.elapsed < e → exec .checkpointIntervalExpiry s = .next s))
  ∧ (∀ (s : State) (c : ClosedShift),
    let accepts := s.store.shifts.stopped = false ∧ 2 ≤ (s.store.usablePages .shifts).length
    let queued := fun (q : List Entry) =>
      ({ s with store := { s.store with queue := q ++ [⟨.shift c, false, false, false⟩] } } : State)
    let lost : State := { s with flags := { s.flags with archiveLoss := true } }
    let yields := fun (x : Entry) => x.kind = .checkpoint ∧ x.busy = false ∧ x.failedOnce = false
    (¬accepts → s.queueShift c = lost)
      ∧ (accepts → s.store.queue.length < 16 → s.queueShift c = queued s.store.queue)
      ∧ (accepts → 16 ≤ s.store.queue.length → (∀ x ∈ s.store.queue, ¬yields x) → s.queueShift c = lost)
      ∧ (accepts → 16 ≤ s.store.queue.length → ∀ i e, s.store.queue[i]? = some e → yields e →
          (∀ j x, j < i → s.store.queue[j]? = some x → ¬yields x) → s.queueShift c = queued (s.store.queue.eraseIdx i)))
  ∧ ∀ s : State,
    let waits := s.store.image.state = .filled ∧ ∀ e ∈ s.store.queue, e.kind.isImage = false
    let kind : EntryKind := if s.store.image.powerFail = true then .powerFail else .checkpoint
    (waits → s.store.queue.length < 16 → s.placeImage =
        { s with store := { s.store with queue := s.store.queue ++ [⟨kind, false, false, false⟩] } })
      ∧ (¬waits ∨ 16 ≤ s.store.queue.length → s.placeImage = s)

/-- The writing of a record (R157 to R160, R164). With nothing being programmed, no read waiting and no erase running the
controller begins a retry that is due, or else the entry of highest priority whose region has an append point, the oldest of
its priority; that a retry goes ahead of a power-fail checkpoint, each the next record by its rule (R159, R170), is the
model's reading (log entry 16). It takes the region's next store sequence and marks the staging image WRITING where the
entry refers to it. At the end of a record programmed whole its slot is valid, its entry leaves the queue, the append point
moves, into the ready page after the last slot, by a page change that is taken alike whatever is queued or under erase (log
entry 45), and the image's write ends: EMPTY, and filled again where its pending mark was set. -/
def Obligations.RecordIsWritten : Prop :=
  (∀ (s : State) (i p k : Nat) (e : Entry), s.phase = .running →
    let free := s.store.programming = none ∧ s.readWaiting = false ∧ s.store.eraseRunning = false
    let served := fun (x : Entry) => (s.store.appendPoint x.kind.region).isSome = true
    let st := s.store.region e.kind.region
    (¬free → exec .storeWriteBegin s = .next s)
      ∧ (free → s.store.queue[i]? = some e → s.store.appendPoint e.kind.region = some (p, k) →
          (e.retryNext = true ∧ ∀ j x, j < i → s.store.queue[j]? = some x → ¬(x.retryNext = true ∧ served x))
            ∨ (∀ j x, s.store.queue[j]? = some x → served x →
                x.retryNext = false ∧ e.kind.priority ≤ x.kind.priority
                  ∧ (j < i → e.kind.priority < x.kind.priority)) →
          exec .storeWriteBegin s = .next { s with store :=
            { s.store.setRegion e.kind.region { st with nextSeq := (st.nextSeq + 1) % 4294967296 } with
              queue := s.store.queue.set i { e with busy := true, retryNext := false }
              programming := some ⟨e.kind.region, p, k, st.nextSeq⟩
              image := if e.kind.isImage = true then { s.store.image with state := .writing } else s.store.image } }))
  ∧ (∀ (s : State) (i : Nat) (e : Entry) (p : Programming) (x : StoredRecord), s.phase = .running →
    s.store.programming = some p → s.store.queue[i]? = some e → e.busy = true →
    (∀ j y, j < i → s.store.queue[j]? = some y → y.busy = false) →
    (match e.kind with
      | .archive r => x = .archive r
      | .shift c => x = .shift c
      | _ => s.store.image.content.map .checkpoint = some x) →
    let freed : Store := { s.store.setSlot p.page p.slot (.valid p.seq x) with
      queue := s.store.queue.eraseIdx i
      programming := none }
    let written : State := { s with store := freed.moveAppendPoint p.region }
    let emptied : State := { written with store := { written.store with image := Image.empty } }
    (e.kind.isImage = false → exec (.storeWriteEnd true) s = .next written.placeImage)
      ∧ (e.kind.isImage = true → s.store.image.pending = false →
          exec (.storeWriteEnd true) s = .next emptied.placeImage)
      ∧ (e.kind.isImage = true → s.store.image.pending = true →
          exec (.storeWriteEnd true) s = .next (emptied.requestCheckpoint s.store.image.pendingFail).placeImage))
  ∧ ∀ (st : Store) (r : Region) (a : Nat), (st.region r).active = some a →
    let k := (st.region r).slot
    (k + 1 < r.slots → (st.moveAppendPoint r).appendPoint r = some (a, k + 1))
      ∧ (k + 1 = r.slots → (st.region r).ready = none → (st.moveAppendPoint r).appendPoint r = none)
      ∧ (k + 1 = r.slots → ∀ q, (st.region r).ready = some q → (st.moveAppendPoint r).appendPoint r = some (q, 0))

/-- A record whose word fails verification (R159, R168): its slot is left partial and the append point moves past it. The
first failure leaves the entry in its place with its retry due. The second sets STORE_PROGRAM_FAULT, stops the region,
appends STORE_FAULT and drops every entry of the region and no other, a waiting image taking a place that this frees: an
archive or shift record with ARCHIVE_LOSS, a checkpoint with the dropped count one higher, up to 65,535, and the staging
image made EMPTY. That STORE_FAULT is appended before the region's entries are dropped is log entry 38, and that an image
that waits for a place is dropped with them is log entry 36, both the model's reading. -/
def Obligations.FailedRecordIsRetriedOnce : Prop :=
  (∀ (s : State) (i : Nat) (e : Entry) (p : Programming), s.phase = .running →
    s.store.programming = some p → s.store.queue[i]? = some e → e.busy = true →
    (∀ j y, j < i → s.store.queue[j]? = some y → y.busy = false) →
    let st := Store.moveAppendPoint { s.store.setSlot p.page p.slot .incomplete with programming := none } p.region
    let due := (st.appendPoint p.region).isSome
    (e.failedOnce = false → exec (.storeWriteEnd false) s = .next { s with store := { st with
        queue := s.store.queue.set i ⟨e.kind, false, true, due⟩ } })
      ∧ (e.failedOnce = true → exec (.storeWriteEnd false) s = .next
          ((State.append { s with
              store := st.setRegion p.region { st.region p.region with stopped := true }
              flags := { s.flags with programFault := true } }
            ⟨s.tb.time, s.tb.g, s.quality⟩ (.storeFault p.region .program p.page)).stopWrites p.region)))
  ∧ ∀ (s : State) (r : Region), let t := s.stopWrites r
    (∀ e ∈ t.store.queue, e.kind.region ≠ r)
      ∧ ((∃ e ∈ s.store.queue, e.kind.region = r) →
          (r ≠ .journal → t.flags.archiveLoss = true)
            ∧ (r = .journal → t.store.image = Image.empty ∧ (s.store.dropped < 65535 → s.store.dropped < t.store.dropped)))
      ∧ ((∀ e ∈ s.store.queue, e.kind.region ≠ r) → s.store.imageWaits = false → t = s)
      ∧ let kept := s.store.queue.filter fun e => decide (e.kind.region ≠ r)
        let gone := s.store.queue.length - kept.length
        let waits := s.store.image.state = .filled ∧ ∀ e ∈ s.store.queue, e.kind.isImage = false
        (r ≠ .journal → t = State.placeImage { s with
            store := { s.store with queue := kept }
            flags := { s.flags with archiveLoss := s.flags.archiveLoss || decide (0 < gone) } })
          ∧ (r = .journal → let n := if waits then gone + 1 else gone
              t = { s with store := { s.store with
                queue := kept
                image := if n = 0 then s.store.image else Image.empty
                dropped := if n = 0 then s.store.dropped else min 65535 (s.store.dropped + n) } })

/-- Erases (R157, R165, R166, R167). The first page of the list is begun when no erase is in hand, no record is being
programmed, no read waits and the supply is NORMAL; a running erase is suspended for a record or a read 10 ms after it was
begun or last resumed, and resumed when none waits; between 40 and 120 ms of running time it can complete, its page reading
blank and becoming the region's ready page, blank where it has one, or its active page where the region had no append point,
which makes the further page change of R157: the first blank page after it in ring order becomes ready, or else the oldest
used page is queued for erase, also while another is queued (log entry 45); nothing else of the store changes. At 120 ms
without that it has failed: the page is left out, STORE_ERASE_FAULT set and STORE_FAULT appended, and the region's oldest
used page, the first after the active one in ring order that is not blank, ready, queued, under erase, abandoned or left
out, is queued where the region has no ready page. That no erase is begun while a read waits is log entry 18, and that
STORE_FAULT is appended before a failed erase's region drops its entries is log entry 38, the model's readings. -/
def Obligations.ErasesRunTheirCourse : Prop :=
  (∀ (s : State) (p : Nat) (rest : List Nat), s.phase = .running → s.store.eraseList = p :: rest →
    let ready := s.store.erase = none ∧ s.store.programming = none ∧ s.readWaiting = false ∧ s.supply.state = .normal
    (ready → exec .eraseBegin s = .next { s with store := { s.store with
        eraseList := rest
        erase := some ⟨p, true, 0, s.tb.elapsed⟩
        pages := modifyAt (fun g => { g with disturbed := true }) s.store.pages p } })
      ∧ (¬ready → exec .eraseBegin s = .next s))
  ∧ (∀ (s : State) (e : EraseInHand), s.phase = .running → s.store.erase = some e →
    let wanted := s.readWaiting = true ∨ ∃ x ∈ s.store.queue, (s.store.appendPoint x.kind.region).isSome = true
    let ran := e.ran + (s.tb.elapsed - e.since)
    (e.running = true →
        (wanted → e.since + 10000 ≤ s.tb.elapsed → exec .eraseSuspend s = .next { s with store := { s.store with
            erase := some { e with running := false, ran := ran } } })
          ∧ (¬wanted ∨ s.tb.elapsed < e.since + 10000 → exec .eraseSuspend s = .next s)
          ∧ (40000 ≤ ran → ran ≤ 120000 → e.page < s.store.pages.length →
              ∃ st, exec .eraseComplete s = .next { s with store := st } ∧ st.erase = none
                ∧ st.page e.page = Page.blankOf (regionOfPage e.page)
                ∧ (∀ q, q ≠ e.page → st.page q = s.store.page q)
                ∧ (s.store.appendPoint (regionOfPage e.page) = none →
                    st.appendPoint (regionOfPage e.page) = some (e.page, 0))
                ∧ (s.store.appendPoint (regionOfPage e.page) ≠ none →
                    st.appendPoint (regionOfPage e.page) = s.store.appendPoint (regionOfPage e.page)
                      ∧ (st.region (regionOfPage e.page)).ready =
                          some ((s.store.region (regionOfPage e.page)).ready.getD e.page))
                ∧ let r := regionOfPage e.page
                  let now := s.store.region r
                  let blanked : Store := { s.store with
                    erase := none
                    pages := s.store.pages.set e.page (Page.blankOf r) }
                  let begun := blanked.setRegion r { now with active := some e.page, slot := 0 }
                  let ring := (r.pages.dropWhile (· ≠ e.page)).tail ++ r.pages.takeWhile (· ≠ e.page)
                  let blank := fun (p : Nat) => (s.store.page p).slots.all fun x => decide (x = .blank)
                  let idle := fun (p : Nat) => decide (now.ready ≠ some p ∧ s.store.abandoned ≠ some p)
                    && !s.store.eraseList.contains p && !s.store.leftOut.contains p
                  (s.store.appendPoint r ≠ none → now.ready ≠ none → st = blanked)
                    ∧ (s.store.appendPoint r ≠ none → now.ready = none →
                        st = blanked.setRegion r { now with ready := some e.page })
                    ∧ (s.store.appendPoint r = none → ∀ q, (ring.find? fun p => idle p && blank p) = some q →
                        st = blanked.setRegion r { now with active := some e.page, slot := 0, ready := some q })
                    ∧ (s.store.appendPoint r = none → (ring.find? fun p => idle p && blank p) = none → st = { begun with
                        eraseList := s.store.eraseList ++ (ring.find? fun p => idle p && !blank p).toList }))
          ∧ (ran < 40000 → exec .eraseComplete s = .next s)
          ∧ (ran < 120000 → exec .eraseFail s = .next s)
          ∧ (120000 ≤ ran →
              let r := regionOfPage e.page
              let failed := State.append
                { s with
                  store := { s.store with erase := none, leftOut := s.store.leftOut ++ [e.page] }
                  flags := { s.flags with eraseFault := true } }
                ⟨s.tb.time, s.tb.g, s.quality⟩ (.storeFault r .erase e.page)
              let left := (failed.store.usablePages r).length
              (2 ≤ left → (s.store.region r).ready ≠ none → exec .eraseFail s = .next failed)
                ∧ (2 ≤ left → (s.store.region r).ready = none →
                    exec .eraseFail s = .next { failed with store := failed.store.queueOldest r })
                ∧ (left < 2 → exec .eraseFail s = .next (failed.stopWrites r))))
      ∧ (e.running = false → s.store.programming = none → ¬wanted → exec .eraseResume s = .next
          { s with store := { s.store with erase := some { e with running := true, since := s.tb.elapsed } } })
      ∧ (e.running = false → wanted → exec .eraseResume s = .next s))
  ∧ ∀ (st : Store) (r : Region),
    let now := st.region r
    let ring := match now.active with
      | some a => (r.pages.dropWhile (· ≠ a)).tail ++ r.pages.takeWhile (· ≠ a)
      | none => r.pages
    let used := fun (p : Nat) => decide (now.active ≠ some p ∧ now.ready ≠ some p ∧ st.erase.map (·.page) ≠ some p
        ∧ st.abandoned ≠ some p)
      && !st.eraseList.contains p && !st.leftOut.contains p && (st.page p).slots.any fun x => decide (x ≠ .blank)
    st.queueOldest r = { st with eraseList := st.eraseList ++ (ring.find? used).toList }

/-- Store reads (R153, R174, R176, R181). READ ARCHIVE, and READ SHIFT of a closed record, wait in service for the store, or
are answered STORE_FAULT while the supply is not NORMAL; the open shift is read at once. The read is made when no record is
being programmed and no erase runs, and answers: the record at the index, with the next older one before it where two are
asked for and both fit; the part of the closed shift record; or EMPTY past the last. The archive is counted down by store
sequence over the valid slots of every page but one under erase, abandoned, left out, or whose erase has begun and not
completed, an abandoned one put back on the erase list among them (R165; log entries 32 and 34); closed shift records are
counted from those in the write queue, newest first, and then those programmed, in the same way. The six parts of a shift
record are laid out by R36, an absent number or time with every bit set. -/
def Obligations.StoreIsReadForRequests : Prop :=
  (∀ (x : ShiftRecord) (closed : Option (StationTime × Nat × CloseCause)) (stored : Option Nat),
    let number := fun (n : Nat) (v : Option Nat) => match v with
      | some k => beBytes n k
      | none => List.replicate n 255
    let time := fun (v : Option StationTime) => match v with
      | some t => beBytes 4 t.s ++ beBytes 4 t.u
      | none => List.replicate 8 255
    let bit := fun (v : Bool) (k : Nat) => if v = true then k else 0
    let part := shiftPartBytes x closed stored
    part 0 = number 4 x.number
        ++ beBytes 1 (bit x.number.isSome 1 + bit x.crew.isSome 2 + bit x.crew.isSome 4 + bit x.signOff.isSome 8
          + bit x.outgoing.isSome 16 + bit closed.isSome 32)
        ++ beBytes 1 (match x.openCause with
          | .takeover => 1
          | .forced => 2
          | .powerUp => 3)
        ++ beBytes 4 x.openedAt.time.s ++ beBytes 4 x.openedAt.time.u ++ beBytes 1 x.openedAt.g
        ++ beBytes 1 x.openedAt.quality.val
        ++ (beBytes 1 (match closed with
          | none => 0
          | some (_, _, .takeover) => 1
          | some (_, _, .forced) => 2
          | some (_, _, .powerGap) => 3)
        ++ time (closed.map fun y => y.1) ++ number 1 (closed.map fun y => y.2.1))
      ∧ part 1 = number 2 (x.crew.map Prod.fst) ++ time (x.crew.map Prod.snd)
        ++ beBytes 1 (bit x.lateTakeover 1 + bit x.noSignOff 2 + bit x.uncertain 4) ++ number 2 x.outgoing
        ++ time x.signOff ++ beBytes 2 x.strays
      ∧ part 2 = beBytes 4 x.powered ++ x.durations.flatMap (beBytes 4)
      ∧ part 3 = x.entries.flatMap (beBytes 3) ++ beBytes 3 x.tripStops ++ beBytes 3 x.normalStops
        ++ beBytes 3 x.localTrips ++ beBytes 3 x.firstOuts
      ∧ part 4 = beBytes 2 x.timeSteps ++ beBytes 8 (x.netStep % 18446744073709551616).toNat ++ beBytes 1 x.worst.val
        ++ beBytes 2 x.powerGaps
      ∧ part 5 = number 4 stored ++ beBytes 1 (bit stored.isSome 1))
  ∧ (∀ (s : State) (r : Request), s.servesNext r → r.acceptable = true →
    let u := s.popRequest
    let waits : State := { u with req := { u.req with service := some (.storeRead r) } }
    (r.code = 5 → s.supply.state = .normal → exec .readArchive s = .next waits)
      ∧ (r.code = 5 → s.supply.state ≠ .normal → exec .readArchive s = .next (u.answer r .storeFault []))
      ∧ (r.code = 10 → byteAt r.params 0 = 0 → exec .readShift s = .next (u.answer r .ok
          (shiftPartBytes s.shift.current none none (byteAt r.params 1))))
      ∧ (r.code = 10 → byteAt r.params 0 ≠ 0 → s.supply.state = .normal → exec .readShift s = .next waits)
      ∧ (r.code = 10 → byteAt r.params 0 ≠ 0 → s.supply.state ≠ .normal →
          exec .readShift s = .next (u.answer r .storeFault [])))
  ∧ (∀ (st : Store) (r : Region),
    let pages := r.pages.filter fun p => decide (st.erase.map (·.page) ≠ some p) && decide (st.abandoned ≠ some p)
      && !st.leftOut.contains p && !(st.page p).disturbed
    let stored : List (Nat × StoredRecord) := pages.flatMap fun p => (st.page p).slots.filterMap fun
      | .valid seq x => some (seq, x)
      | _ => none
    ∃ l : List (Nat × StoredRecord), l.Perm stored ∧ l.Pairwise (fun a b => b.1 ≤ a.1)
      ∧ (r = .trips → st.archiveDown = l.filterMap fun
          | (_, .archive x) => some x
          | _ => none)
      ∧ (r = .shifts → st.shiftsDown = (st.queue.reverse.filterMap fun e => match e.kind with
            | .shift c => some (c, none)
            | _ => none)
          ++ l.filterMap fun
            | (seq, .shift c) => some (c, some seq)
            | _ => none))
  ∧ ∀ (s : State) (r : Request), s.phase = .running → s.req.service = some (.storeRead r) →
    let u : State := { s with req := { s.req with service := none } }
    let free := s.store.programming = none ∧ s.store.eraseRunning = false ∧ s.supply.state = .normal
    let i := fieldAt r.params 0 2
    let closed := s.store.shiftsDown
    (¬free → exec .storeRead s = .next s)
      ∧ (free → r.code = 5 →
          (s.store.archiveDown[i]? = none → exec .storeRead s = .next (u.answer r .empty []))
            ∧ (∀ x, s.store.archiveDown[i]? = some x →
                (byteAt r.params 2 = 1 ∨ s.store.archiveDown[i + 1]? = none →
                    exec .storeRead s = .next (u.answer r .ok (beBytes 1 1 ++ x.bytes)))
                  ∧ ∀ y, byteAt r.params 2 = 2 → s.store.archiveDown[i + 1]? = some y →
                    (x.bytes.length + y.bytes.length ≤ 44 →
                        exec .storeRead s = .next (u.answer r .ok (beBytes 1 2 ++ y.bytes ++ x.bytes)))
                      ∧ (44 < x.bytes.length + y.bytes.length →
                        exec .storeRead s = .next (u.answer r .ok (beBytes 1 1 ++ x.bytes)))))
      ∧ (free → r.code = 10 →
          (closed[byteAt r.params 0 - 1]? = none → exec .storeRead s = .next (u.answer r .empty []))
            ∧ ∀ c n, closed[byteAt r.params 0 - 1]? = some (c, n) → exec .storeRead s = .next (u.answer r .ok
                (shiftPartBytes c.shift (some (c.closedAt, c.closedG, c.cause)) n (byteAt r.params 1))))

/-- The supply monitor (R169, R170, R171). Below the warning threshold in NORMAL: WARNING, an erase in hand abandoned, a
power-fail checkpoint requested and a waiting read answered STORE_FAULT. Above the threshold by more than 100 mV in WARNING:
HOLD for 50 ms, from which a fall returns to WARNING with no new warning. At the hold end: NORMAL, the abandoned page put on
the erase list, and POWER_DIP appended with the whole milliseconds from the warning to the rise. -/
def Obligations.SupplyDipIsRiddenOut : Prop :=
  ∀ (s : State) (mv : Nat), s.phase = .running →
    let warned : State := { s with
      supply := { s.supply with state := .warning, warnAt := s.tb.elapsed, holdEnd := none }
      store := match s.store.erase with
        | some e => { s.store with erase := none, abandoned := some e.page }
        | none => s.store }
    let asked := warned.requestCheckpoint true
    (s.supply.state = .normal → mv < s.cfg.warningMv →
        ((∀ r, s.req.service ≠ some (.storeRead r)) → exec (.supplyWarning mv) s = .next asked)
          ∧ ∀ r, s.req.service = some (.storeRead r) → exec (.supplyWarning mv) s =
              .next (State.answer { asked with req := { asked.req with service := none } } r .storeFault []))
      ∧ (s.supply.state ≠ .normal ∨ s.cfg.warningMv ≤ mv → exec (.supplyWarning mv) s = .next s)
      ∧ (s.supply.state = .warning → s.cfg.warningMv + 100 < mv → exec (.supplyRise mv) s = .next { s with
          supply := { s.supply with
            state := .hold
            riseAt := s.tb.elapsed
            holdEnd := some (s.tb.elapsed + 50000) } })
      ∧ (s.supply.state = .hold → mv ≤ s.cfg.warningMv + 100 → exec (.supplyHoldFall mv) s =
          .next { s with supply := { s.supply with state := .warning, holdEnd := none } })
      ∧ ∀ e, s.supply.state = .hold → s.supply.holdEnd = some e →
          (e ≤ s.tb.elapsed → exec .powerDip s = .next (State.append
              { s with
                supply := { s.supply with state := .normal, holdEnd := none }
                store := { s.store with
                  eraseList := s.store.eraseList ++ s.store.abandoned.toList
                  abandoned := none } }
              ⟨s.tb.time, s.tb.g, s.quality⟩
              (.powerDip ((s.supply.riseAt - s.supply.warnAt) / 1000) s.store.abandoned.isSome)))
            ∧ (s.tb.elapsed < e → exec .powerDip s = .next s)

/-! ## Requests and answers (chapter 10) -/

/-- The requests that read (R109, R132, R179, R180, R36): each is answered OK with what the part holds at the serving, in
the layout of R36, and changes nothing but the request queue and the transmit lists that its answer enters. STATUS reports
every alarm cause: the nine sticky flags, the two critical levels, chatter, service due, quality 3 and a degraded channel,
each while its condition holds (R193); and ALM is asserted in reset, and in a running part while a present cause has its
mask bit set (R194). A number is sent most significant byte first, a peer entry and a group member in the layout of R36, the
own station's entry with every field but its number at its reset value. -/
def Obligations.ReadingRequestsAreAnswered : Prop :=
  (∀ n v i : Nat, (beBytes n v).length = n ∧ (i < n → byteAt (beBytes n v) i = v / 256 ^ (n - 1 - i) % 256))
  ∧ (∀ m : Member, m.bytes = beBytes 1 m.station ++ beBytes 1 m.input ++ beBytes 2 m.logSeq ++ beBytes 4 m.dating.time.s
      ++ beBytes 4 m.dating.time.u ++ beBytes 1 m.dating.g ++ beBytes 1 m.dating.quality.val ∧ m.bytes.length = 14)
  ∧ (∀ (s : State) (n : Nat),
    let p := s.peer n
    let bit := fun (v : Bool) (k : Nat) => if v = true then k else 0
    (n = s.ownNumber → s.peerBytes n = beBytes 1 n ++ [0, 0, 0, 0, 0, 0, 0, 0, 255, 255, 0])
      ∧ (n ≠ s.ownNumber → (s.peerBytes n).length = 12
        ∧ s.peerBytes n = beBytes 1 n ++ beBytes 1 (p.state.toNat % 128 + bit p.present 128)
          ++ beBytes 1 (p.statusFlags.toNat % 256)
          ++ beBytes 4 ((max (-2147483647) (min 2147483647 p.offset)) % 4294967296).toNat
          ++ beBytes 1 (bit p.far 1 + bit p.heard 2 + bit p.heardA 4 + bit p.heardB 8) ++ beBytes 1 p.missed
          ++ (match p.window with
            | some w => beBytes 2 w.h
            | none => [255, 255])
          ++ beBytes 1 p.restarts))
  ∧ (∀ s : State,
    s.alarmCauses = [s.flags.logOverrun, s.flags.noticeOverrun, s.flags.noticeLoss, s.flags.archiveLoss,
        s.flags.programFault, s.flags.eraseFault, s.flags.protectionFault, s.flags.duplicateStation, s.flags.configFault,
        decide (s.cfg.logCritical ≤ s.log.records.length), decide (s.cfg.noticeCritical ≤ s.notices.length),
        decide (∃ c ∈ s.inputs, c.chatter = true), s.tally.serviceDue,
        decide (s.agr.state = .free ∨ s.agr.state = .joining), s.chA.degraded || s.chB.degraded]
      ∧ (s.phase = .running →
          (s.alm = true ↔ ∃ k, s.alarmCauses[k]? = some true ∧ s.cfg.alarmMask.getLsbD k = true))
      ∧ ∀ why, s.phase = .inReset why → s.alm = true)
  ∧ ∀ (s : State) (r : Request), s.servesNext r → r.acceptable = true →
    let answered := fun (content : List Byte) => Host.Outcome.next (s.popRequest.answer r .ok content)
    let x := byteAt r.params 0
    let y := byteAt r.params 1
    let counts := beBytes 2 s.chA.collisions ++ beBytes 2 s.chB.collisions ++ beBytes 2 s.chA.errors
      ++ beBytes 2 s.chB.errors
    let status := beBytes 1 s.agr.state.code ++ beBytes 1 s.quality.val ++ beBytes 4 s.tb.time.s ++ beBytes 4 s.tb.time.u
      ++ beBytes 1 s.tally.accepted.code ++ beBytes 1 s.tally.candidate.isSome.toNat
      ++ beBytes 2 (bitsNat s.alarmCauses) ++ beBytes 2 (bitsNat s.flags.list) ++ beBytes 2 s.log.records.length
      ++ beBytes 1 s.notices.length ++ counts ++ beBytes 2 s.req.overflow ++ beBytes 2 s.req.lostAnswers
      ++ beBytes 2 s.store.dropped ++ beBytes 1 (bitsNat [s.chA.degraded, s.chB.degraded])
    let time := beBytes 4 s.tb.time.s ++ beBytes 4 s.tb.time.u ++ beBytes 1 s.tb.g ++ beBytes 1 s.quality.val
      ++ beInt 2 s.tb.a ++ beInt 2 s.agr.f
    let stations := (List.range y).filterMap fun k => if x + k ≤ 30 then some (x + k) else none
    let g := s.group x
    let protection := beBytes 1 (bitsNat [s.tally.protectLife, s.lockLife, s.tally.protectService, s.lockService])
    (r.code = 1 → exec .status s = answered status ∧ status.length = 34)
      ∧ (r.code = 2 → exec .readTime s = answered time ∧ time.length = 14)
      ∧ (r.code = 3 → exec .readPeers s =
          answered (counts ++ beBytes 1 stations.length ++ stations.flatMap s.peerBytes))
      ∧ (r.code = 7 → exec .readGroup s = answered (beBytes 1 g.state.code ++ beBytes 1 g.members.length
          ++ beBytes 1 g.overflow ++ optBytes 1 g.firstOut ++ optTimeBytes g.t0
          ++ ((g.members.drop (2 * y)).take 2).flatMap Member.bytes))
      ∧ (r.code = 9 → x = 0 → y = 0 → exec .readTallies s =
          answered (protection ++ s.tally.lifetime.flatMap (beBytes 6)))
      ∧ (r.code = 9 → x = 0 → y = 1 → exec .readTallies s = answered (protection
          ++ (s.tally.entries.flatMap (beBytes 3) ++ beBytes 3 s.tally.tripStops ++ beBytes 3 s.tally.normalStops)))
      ∧ (r.code = 9 → x = 1 → exec .readTallies s = answered (protection
          ++ (beBytes 6 s.tally.service ++ beBytes 2 s.cfg.serviceLimit ++ beBytes 1 s.tally.serviceDue.toNat)))
      ∧ (r.code = 9 → x = 2 → y = 0 → exec .readTallies s = answered (protection
          ++ (s.shift.current.durations.flatMap (beBytes 4) ++ beBytes 4 s.shift.current.powered)))
      ∧ (r.code = 9 → x = 2 → y = 1 → exec .readTallies s = answered (protection
          ++ (s.shift.current.entries.flatMap (beBytes 3) ++ beBytes 3 s.shift.current.tripStops
            ++ beBytes 3 s.shift.current.normalStops)))

/-- The requests that fetch (R86, R93): FETCH LOG removes the oldest record, and the one behind it where two are asked for
and the two fit in 42 bytes, and answers them with the fill left; FETCH NOTICES removes one or two notices and answers each
with its sender; an empty log or queue answers EMPTY. A record is sent in the layout of R37: log sequence, kind, date, G and
quality, then the fields of its kind, in the length its kind has. -/
def Obligations.FetchesRemoveWhatTheyReturn : Prop :=
  (∀ x : Record,
    let bit := fun (v : Bool) (k : Nat) => if v = true then k else 0
    let mode := fun (m : Mode) => beBytes 1 (match m with
      | .standstill => 0
      | .spin => 1
      | .generating => 2
      | .condensing => 3
      | .pumpStart => 4
      | .pumping => 5
      | .isolated => 6)
    let time := fun (t : StationTime) => beBytes 4 t.s ++ beBytes 4 t.u
    let absent := fun (v : Option Nat) => match v with
      | some k => beBytes 4 k
      | none => [255, 255, 255, 255]
    let form : Nat × Nat × List Byte := match x.body with
      | .start cause restored torn queued interrupted clamped faulted => (1, 21,
          beBytes 1 (match cause with
            | .powerOn => 1
            | .resetLine => 2
            | .supplyLow => 3
            | .restart => 4)
          ++ absent restored ++ beBytes 1 torn ++ beBytes 1 queued
          ++ beBytes 1 (bit interrupted 1 + bit clamped 2 + bit faulted 4))
      | .input kind i level cls g crossed =>
          ((match kind with
            | .change => 2
            | .chatterStart => 3
            | .chatterEnd => 4), 18,
          beBytes 1 i ++ beBytes 1 (bit level 1) ++ beBytes 1 (match cls with
            | .indication => 0
            | .protection => 1
            | .unitTrip => 2) ++ beBytes 1 g ++ beBytes 1 (bit crossed 1))
      | .timeStep amount cause => (5, 22, beBytes 8 (amount % 18446744073709551616).toNat ++ beBytes 1 (match cause with
            | .join => 1
            | .agree => 2
            | .set => 3
            | .anchor => 4))
      | .modeChange old new onset stop => (6, 24, mode old ++ mode new ++ time onset ++ beBytes 1 (bit stop 1))
      | .invalidCombination comb => (7, 14, beBytes 1 comb)
      | .groupClose g first members overflow => (8, 29, beBytes 1 g ++ beBytes 1 first.station ++ beBytes 1 first.input
          ++ beBytes 2 first.logSeq ++ time first.dating.time ++ beBytes 1 first.dating.quality.val ++ beBytes 1 members
          ++ beBytes 1 overflow)
      | .groupStray g why station i seq t => (9, 27, beBytes 1 g ++ beBytes 1 (match why with
            | .beforeWindow => 1
            | .afterWindow => 2
            | .afterClose => 3) ++ beBytes 1 station ++ beBytes 1 i ++ beBytes 2 seq ++ time t)
      | .shiftClose number cause => (10, 18, absent number ++ beBytes 1 (match cause with
            | .takeover => 1
            | .forced => 2
            | .powerGap => 3))
      | .preset (.mode m) old new => (11, 27, [0] ++ mode m ++ beBytes 6 old ++ beBytes 6 new)
      | .preset .service old new => (11, 27, [1, 255] ++ beBytes 6 old ++ beBytes 6 new)
      | .protect set action => (12, 15, beBytes 1 (match set with
            | .lifetime => 0
            | .service => 1) ++ beBytes 1 (match action with
            | .off => 0
            | .on => 1
            | .lockDown => 2))
      | .serviceDue service => (13, 19, beBytes 6 service)
      | .powerDip ms erased => (14, 18, beBytes 4 ms ++ beBytes 1 (bit erased 1))
      | .storeFault region fault page => (15, 16, beBytes 1 (match region with
            | .journal => 0
            | .shifts => 1
            | .trips => 2) ++ beBytes 1 (match fault with
            | .program => 1
            | .erase => 2) ++ beBytes 1 page)
    x.bytes.length = form.2.1 ∧ x.bytes = beBytes 2 x.seq ++ beBytes 1 form.1 ++ time x.dating.time
      ++ beBytes 1 x.dating.g ++ beBytes 1 x.dating.quality.val ++ form.2.2)
  ∧ ∀ (s : State) (r : Request), s.servesNext r → r.acceptable = true →
    let u := s.popRequest
    let count := byteAt r.params 0
    let logAfter := fun (l : List Record) (n : Nat) =>
      ({ u with log := { u.log with records := l, get := (s.log.get + n) % 256 } } : State)
    (r.code = 4 →
        (s.log.records = [] → exec .fetchLog s = .next (u.answer r .empty []))
          ∧ (∀ a rest, s.log.records = a :: rest →
              (count = 1 ∨ rest = [] → exec .fetchLog s = .next ((logAfter rest 1).answer r .ok
                  (beBytes 1 1 ++ beBytes 2 rest.length ++ a.bytes)))
                ∧ ∀ b more, rest = b :: more → count = 2 →
                  (a.bytes.length + b.bytes.length ≤ 42 → exec .fetchLog s = .next ((logAfter more 2).answer r .ok
                      (beBytes 1 2 ++ beBytes 2 more.length ++ (a.bytes ++ b.bytes))))
                    ∧ (42 < a.bytes.length + b.bytes.length → exec .fetchLog s = .next ((logAfter rest 1).answer r .ok
                      (beBytes 1 1 ++ beBytes 2 rest.length ++ a.bytes)))))
      ∧ (r.code = 6 →
        (s.notices = [] → exec .fetchNotices s = .next (u.answer r .empty []))
          ∧ (∀ a rest, s.notices = a :: rest →
              (count = 1 ∨ rest = [] → exec .fetchNotices s = .next (State.answer { u with notices := rest } r .ok
                  (beBytes 1 1 ++ (beBytes 1 a.sender ++ a.payload))))
                ∧ ∀ b more, rest = b :: more → count = 2 → exec .fetchNotices s =
                    .next (State.answer { u with notices := more } r .ok
                      (beBytes 1 2 ++ ((beBytes 1 a.sender ++ a.payload) ++ (beBytes 1 b.sender ++ b.payload))))))

/-- The tally requests (R127, R128, R129, R182), `lifetime` the first set and `service` the second. While PROTECTION_FAULT
is set each is answered FLAG_PENDING. PRESET: MODE_PENDING with a candidate; PROTECTED, setting PROTECTION_FAULT, with the
protect bit; else the value, clamped, is set, a PRESET record appended, the service limit judged for the service tally, and
a checkpoint requested. PROTECT: off is refused PROTECTED in a set that is locked down. LOCK DOWN sets both bits. That the
limit is judged between the PRESET record and the checkpoint, which R127 names first, is the model's reading (log entry 15).
-/
def Obligations.TallyRequestsAreJudged : Prop :=
  ∀ (s : State) (r : Request), s.servesNext r → r.acceptable = true →
    let u := s.popRequest
    let now : Dating := ⟨s.tb.time, s.tb.g, s.quality⟩
    let first := byteAt r.params 0 = 0
    let value := min 140737488355327 (fieldAt r.params 2 6)
    let refused := fun st => Host.Outcome.next (u.answer r st [])
    let done := fun (t : State) => Host.Outcome.next ((t.requestCheckpoint false).answer r .ok [])
    let withTally := fun (t : Tally) => ({ u with tally := t } : State)
    let set' : TallySet := if first then .lifetime else .service
    let protectTo := fun (b : Bool) => if first then { s.tally with protectLife := b } else { s.tally with protectService := b }
    (s.flags.protectionFault = true →
        (r.code = 11 → exec .presetTally s = refused .flagPending)
          ∧ (r.code = 12 → exec .protectTally s = refused .flagPending)
          ∧ (r.code = 13 → exec .lockDownTally s = refused .flagPending))
      ∧ (s.flags.protectionFault = false → r.code = 11 →
        (s.tally.candidate ≠ none → exec .presetTally s = refused .modePending)
          ∧ (s.tally.candidate = none → (if first then s.tally.protectLife else s.tally.protectService) = true →
              exec .presetTally s = .next (State.answer
                { u with flags := { u.flags with protectionFault := true } } r .isProtected []))
          ∧ (s.tally.candidate = none → first → s.tally.protectLife = false → ∃ m : Mode,
              m.code = byteAt r.params 1 ∧ exec .presetTally s = done ((withTally
                { s.tally with lifetime := s.tally.lifetime.set m.code value }).append now
                (.preset (.mode m) (s.tally.lifetime.getD m.code 0) value)))
          ∧ (s.tally.candidate = none → ¬first → s.tally.protectService = false →
              let set'' := (withTally { s.tally with service := value }).append now
                (.preset .service s.tally.service value)
              let reached := s.cfg.serviceLimit ≠ 0 ∧ s.cfg.serviceLimit * 3600000 ≤ value
              (reached → exec .presetTally s = done set''.judgeService)
                ∧ (¬reached → exec .presetTally s =
                    done { set'' with tally := { set''.tally with serviceDue := false } })))
      ∧ (s.flags.protectionFault = false → r.code = 12 →
        (byteAt r.params 1 = 1 → exec .protectTally s =
            done ((withTally (protectTo true)).append now (.protect set' .on)))
          ∧ (byteAt r.params 1 = 0 → (if first then s.lockLife else s.lockService) = true →
              exec .protectTally s = refused .isProtected)
          ∧ (byteAt r.params 1 = 0 → (if first then s.lockLife else s.lockService) = false →
              exec .protectTally s = done ((withTally (protectTo false)).append now (.protect set' .off))))
      ∧ (s.flags.protectionFault = false → r.code = 13 → exec .lockDownTally s = done (State.append
          { u with
            tally := protectTo true
            lockLife := if first then true else s.lockLife
            lockService := if first then s.lockService else true } now (.protect set' .lockDown)))

/-- ACK GROUP (R108), CLEAR FLAGS (R184), and the requests that no owner takes (R178): ACK returns a CLOSED group to IDLE,
leaves an IDLE one and is refused for an OPEN one; CLEAR FLAGS clears the flags its mask names, but for CONFIG_FAULT, and
the stopped marks of every region where it names a store fault, and stays in service until its answer, which gives the flags
as they stand then, is queued: by a second CLEAR_FLAGS, or before the next elapsed microsecond, the model's form (log entry
42), so that a flag set again in between is shown set; a code outside 1 to 16 is answered UNKNOWN_REQUEST, and a request
with a length or a parameter out of range BAD_ARGUMENT. That the stopped marks go whether or not the named fault was set is
the model's reading (log entry 38), and that a command whose code is not that of the request served changes nothing is its
form (log entry 1). The oldest request leaves the queue as it is served, and none is while one is in service (R176). Code,
tag and parameters are the payload's bytes in their order, and a request is acceptable when its payload has 2 bytes and
those of its code's parameters, each in the range of R178, set and part of READ TALLIES in those of R181. -/
def Obligations.GroupFlagAndBadRequestsAreAnswered : Prop :=
  (∀ r : Request,
    let n := r.payload.length
    let x := byteAt r.payload 2
    let y := byteAt r.payload 3
    let sound := fun (k : Nat) => match k with
      | 3 => n = 4 ∧ x ≤ 30 ∧ 1 ≤ y ∧ y ≤ 3
      | 4 => n = 3 ∧ 1 ≤ x ∧ x ≤ 2
      | 5 => n = 5 ∧ 1 ≤ byteAt r.payload 4 ∧ byteAt r.payload 4 ≤ 2
      | 6 => n = 3 ∧ 1 ≤ x ∧ x ≤ 2
      | 7 => n = 4 ∧ 1 ≤ x ∧ x ≤ 7 ∧ y ≤ 7
      | 8 => n = 3 ∧ 1 ≤ x ∧ x ≤ 7
      | 9 => n = 4 ∧ (x, y) ∈ [(0, 0), (0, 1), (1, 0), (2, 0), (2, 1)]
      | 10 => n = 4 ∧ y ≤ 5
      | 11 => n = 10 ∧ ((x = 0 ∧ y ≤ 6) ∨ (x = 1 ∧ y = 255))
      | 12 => n = 4 ∧ x ≤ 1 ∧ y ≤ 1
      | 13 => n = 3 ∧ x ≤ 1
      | 14 => n = 10 ∧ fieldAt r.payload 6 4 ≤ 999999
      | 15 => n = 4
      | _ => n = 2
    r.code = byteAt r.payload 0 ∧ r.tag = byteAt r.payload 1 ∧ (∀ k, byteAt r.params k = byteAt r.payload (k + 2))
      ∧ (1 ≤ r.code → r.code ≤ 16 → (r.acceptable = true ↔ sound r.code)))
  ∧ (∀ s : State, s.popRequest = { s with req := { s.req with queue := s.req.queue.tail } }
      ∧ (∀ r, s.servesNext r → s.req.queue = r :: s.popRequest.req.queue))
  ∧ (∀ (s : State) (c : Instr), s.phase ≠ .running ∨ s.req.service ≠ none ∨ s.req.queue = [] →
      (c ∈ [.status, .readTime, .readPeers, .fetchLog, .readArchive, .fetchNotices, .readGroup, .ackGroup, .readTallies,
        .readShift, .presetTally, .protectTally, .lockDownTally, .restart, .unknownRequest]
          ∨ (∃ gs, c = .setTime gs) ∨ (c = .clearFlags ∧ ∀ r, s.req.service ≠ some (.clearFlags r))) →
      exec c s = .next s)
  ∧ (∀ (s : State) (r : Request), s.phase = .running → s.req.service = some (.clearFlags r) →
    let answered := State.answer { s with req := { s.req with service := none } } r .ok (beBytes 2 (bitsNat s.flags.list))
    exec .clearFlags s = .next answered
      ∧ (s.tb.secondDue = none → ∀ p o, p ≠ .signal →
          exec (.elapsedMicrosecond p o) s = exec (.elapsedMicrosecond p o) answered))
  ∧ ∀ (s : State) (r : Request), s.servesNext r →
    let u := s.popRequest
    let g := byteAt r.params 0
    let mask := fieldAt r.params 0 2
    (r.code = 8 → r.acceptable = true →
        ((s.group g).state = .idle → exec .ackGroup s = .next (u.answer r .ok []))
          ∧ ((s.group g).state = .opened → exec .ackGroup s = .next (u.answer r .refusedState []))
          ∧ ((s.group g).state = .closed → exec .ackGroup s =
              .next ((u.setGroup g ⟨.idle, none, [], 0, none, none⟩).answer r .ok [])))
      ∧ (r.code = 15 → r.acceptable = true → ∃ t : State, exec .clearFlags s = .next t
          ∧ t = { u with
              flags := t.flags
              store := t.store
              req := { u.req with service := some (.clearFlags r) } }
          ∧ (∀ k b, s.flags.list[k]? = some b → t.flags.list[k]? = some (if k = 8 then b else b && !mask.testBit k))
          ∧ (mask.testBit 4 = true ∨ mask.testBit 5 = true → t.store = { s.store with
              journal := { s.store.journal with stopped := false }
              shifts := { s.store.shifts with stopped := false }
              trips := { s.store.trips with stopped := false } })
          ∧ (mask.testBit 4 = false → mask.testBit 5 = false → t.store = s.store))
      ∧ (r.code = 0 ∨ 17 ≤ r.code → exec .unknownRequest s = .next (u.answer r .unknownRequest []))
      ∧ ∀ (k : Nat) (c : Instr),
          ((k, c) ∈ [(1, .status), (2, .readTime), (3, .readPeers), (4, .fetchLog), (5, .readArchive), (6, .fetchNotices),
            (7, .readGroup), (8, .ackGroup), (9, .readTallies), (10, .readShift), (11, .presetTally), (12, .protectTally),
            (13, .lockDownTally), (15, .clearFlags), (16, Instr.restart)] ∨ ∃ gs, (k, c) = (14, .setTime gs)) →
          (r.code = k → r.acceptable = false → exec c s = .next (u.answer r .badArgument []))
            ∧ (r.code ≠ k → exec c s = .next s)

/-! ## Resets and START (chapter 11) -/

/-- The four kinds of reset (R126, R154, R185, R186). Each takes the part into reset with every volatile block at its reset
value and the array as it stood, where nothing was being programmed or erased; the reset cause is the kind, or the first in
R186's order, POWER_ON, SUPPLY_LOW, RESET_LINE, RESTART, of the kinds of the period; power-on and supply resets clear the
lock-down latch. RESTART is answered OK and holds the handler in its service until its answer's copies have left both lists
or 100,000 µs have passed, those copies known by their kind and sender sequence (log entry 44). Where one is in hand, every
page keeps its slots but the slot being programmed, left blank, incomplete or whole, and a page under erase, whose slots
each stand as they were or are gone. The model's choices in it: what a cut-off program or erase leaves is a free value (log
entry 8), the values of the blocks that START only initialises (log entry 10) and of the log's get position (log entry 30),
that what has been driven out is not taken back (log entry 22), and that a fall below 3.90 V while the part is only held in
reset, by RST say, is a supply reset too: cause and lock-down latch as for one of a running part (log entry 41). -/
def Obligations.ResetsClearTheVolatileState : Prop :=
  (∀ s : State,
    let order : List ResetCause := [.powerOn, .supplyLow, .resetLine, .restart]
    let after := fun (kind : ResetCause) (clears : Bool) =>
      Host.Outcome.next { State.reset with
        pending := s.pending
        phase := .inReset (match s.phase with
          | .running => kind
          | .inReset d => if order.idxOf d ≤ order.idxOf kind then d else kind)
        cfg := s.cfg
        ownNumber := s.ownNumber
        console := s.console
        lockLife := s.lockLife && !clears
        lockService := s.lockService && !clears
        store := Store.cleared (s.store.cutOff s.freeIndex)
        out := s.out
        freeIndex := s.freeIndex + 1 }
    exec .powerOn s = after .powerOn true
      ∧ exec .resetLine s = after .resetLine false
      ∧ (∀ mv, mv < 3900 → exec (.supplyReset mv) s = after .supplyLow true)
      ∧ (∀ mv, 3900 ≤ mv → exec (.supplyReset mv) s = .next s)
      ∧ (s.store.programming = none → (∀ p ∈ s.store.pages, p.disturbed = false) →
          s.store.cutOff s.freeIndex = s.store.pages)
      ∧ (s.phase ≠ .running ∨ (∀ seq at', s.req.service ≠ some (.restart seq at')) → exec .restartReset s = .next s)
      ∧ ∀ seq at', s.phase = .running → s.req.service = some (.restart seq at') →
          let waiting := ∃ x ∈ s.chA.list ++ s.chB.list, x.kind = .answer ∧ x.seq = seq
          (¬waiting ∨ at' + 100000 ≤ s.tb.elapsed → exec .restartReset s = after .restart false)
            ∧ (waiting → s.tb.elapsed < at' + 100000 → exec .restartReset s = .next s))
  ∧ (∀ (st : Store) (index q : Nat) (g : Page), st.pages[q]? = some g →
    let held := fun (i : Nat) => ∃ p, st.programming = some p ∧ p.page = q ∧ p.slot = i
    (st.cutOff index).length = st.pages.length ∧ ∃ h, (st.cutOff index)[q]? = some h ∧ h.disturbed = false
      ∧ h.slots.length = g.slots.length
      ∧ (∀ i x, g.slots[i]? = some x → ¬held i →
          (g.disturbed = false → h.slots[i]? = some x)
            ∧ (g.disturbed = true → ∃ y, h.slots[i]? = some y
                ∧ (y = x ∨ y = .blank ∨ (x ≠ .blank ∧ (y = .incomplete ∨ y = .torn)))))
      ∧ ∀ i p, g.disturbed = false → i < g.slots.length → st.programming = some p → p.page = q → p.slot = i →
          ∃ y, h.slots[i]? = some y ∧ (y = .blank ∨ y = .incomplete ∨ ∃ e ∈ st.queue, e.busy = true ∧ ∃ x,
            y = .valid p.seq x ∧ match e.kind with
              | .archive a => x = .archive a
              | .shift c => x = .shift c
              | _ => st.image.content.map .checkpoint = some x))
  ∧ ∀ (s : State) (r : Request), s.servesNext r → r.code = 16 → r.acceptable = true →
    let t := s.popRequest.answer r .ok []
    exec .restart s = .next { t with req := { t.req with service := some (.restart s.senderSeq s.tb.elapsed) } }

/-- START, once the conditions that held the part in reset have gone (R169, R186) and when it ran to its end (log entry 7:
its counts are operands, with no effect out of order); a part that runs is not started again. It reads configuration and
straps (R190 to R192): defaults where the memory is absent or fails its check, else every field clamped to its range, P to
the nearest allowed value. The scan (R172, R173) classes every page and settles each region: next store sequence, active
page and append point, ready page by a page change where the active page is full, and the erase list. The order of that list
is the model's choice (log entry 19): inconsistent pages in page order, then at most one page of each region, journal,
shifts, trips, a full active page queuing but once. A region's latest checkpoint, newest archive record and next store
sequence are judged on every valid slot, its active page on used pages (log entry 40). Tallies, frequency term and next log
sequence come from what it found (R42, R81, R131); the START record (R188), at generation 0 and quality 3, is the only one
of the log, whose get position 0 is log entry 30, and of the write queue, but for the power-fail checkpoint of a supply
below its warning (R169); the shift of the checkpoint is taken up, or one opened with cause POWER_UP and no number (R150);
and every other block begins at its reset value (R18, R82, R187, R189). Station time runs on from the initialisation at the
rate A = F, to the record and to the end. The defaults are R191's table. -/
def Obligations.StartBringsThePartUp : Prop :=
  (∀ (s : State) (i : StartInputs), (s.phase = .running → exec (.start i) s = .next s)
    ∧ ∀ why, s.phase = .inReset why →
      let runs := i.rstHigh = true ∧ (why = .powerOn ∨ why = .supplyLow → 4000 < i.released)
        ∧ i.initAt ≤ i.recordAt ∧ i.recordAt ≤ i.endAt ∧ 3900 ≤ i.supply
      (¬runs → exec (.start i) s = .next s) ∧ (runs →
      let cfg := loadConfiguration i.memory
      let found := (Store.cleared s.store.pages).findings
      let fault := cfg.status = .faulted ∨ i.straps.toNat = 31
      let f : Int := match found.checkpoint with
        | some (_, c) => max (-2516) (min 2516 c.f)
        | none => 0
      let first : StationTime := ⟨(found.checkpoint.map fun x => x.2.time.s).getD 0, 0⟩
      let ran := fun (n : Nat) =>
        let us := (min 4294967295999999 ((first.s : Int) * 1000000 + n + (f * n).tdiv 16777216)).toNat
        StationTime.mk (us / 1000000) (us % 1000000)
      ∃ t, exec (.start i) s = .next t ∧ t.phase = .running ∧ t.pending = s.pending ∧ t.out = s.out
        ∧ t.cfg = cfg ∧ t.console = i.cons ∧ t.ownNumber = (if i.straps.toNat = 31 then 30 else i.straps.toNat)
        ∧ t.flags = { StickyFlags.clear with configFault := decide fault }
        ∧ t.tb.elapsed = i.endAt ∧ t.tb.g = 0 ∧ t.tb.a = f ∧ t.tb.hold = none ∧ t.tb.secondsKnown = false
        ∧ t.tb.secondDue = none ∧ t.tb.pulseEnd = none
        ∧ (first.s < 4294967296 → t.tb.time = ran (i.endAt - i.initAt)
            ∧ t.tb.acc = (f * (i.endAt - i.initAt : Nat)).tmod 16777216)
        ∧ (i.initAt = i.endAt → t.tb.acc = 0 ∧ t.tb.time = first)
        ∧ t.agr = { state := .free, f := f, good := 0, disagree := 0, holdover := 0 }
        ∧ t.marks = MarkMonitor.cleared ∧ t.peers = List.replicate 31 Peer.cleared
        ∧ t.chA = LineController.cleared i.endAt ∧ t.chB = LineController.cleared i.endAt ∧ t.senderSeq = 0
        ∧ t.inputs = List.replicate 16 InputChannel.cleared ∧ t.notices = [] ∧ t.groups = List.replicate 7 Group.idle
        ∧ t.req = RequestHandler.cleared ∧ t.lockLife = s.lockLife ∧ t.lockService = s.lockService
        ∧ (∃ n at',
            let record : Record := ⟨n, ⟨at', 0, 3⟩, .start why (found.checkpoint.map Prod.fst) found.torn found.queued
              found.interrupted (decide (cfg.status = .clamped)) (decide fault)⟩
            let store : Store := { (Store.cleared s.store.pages).scan with
              queue := [⟨.archive record, false, false, false⟩]
              timer := some (i.endAt + cfg.checkpointEvery * 1000000) }
            (i.initAt = i.recordAt → at' = first)
            ∧ (first.s < 4294967296 → at' = ran (i.recordAt - i.initAt))
            ∧ t.log = TripLog.mk [record] 0 ((n + 1) % 65536)
            ∧ (cfg.warningMv ≤ i.supply → t.supply = SupplyMonitor.normal ∧ t.store = store)
            ∧ (i.supply < cfg.warningMv → t.supply = ⟨.warning, i.endAt, 0, none⟩ ∧ t.store = { store with
                queue := store.queue ++ [⟨.powerFail, false, false, false⟩]
                image := ⟨.filled, some t.snapshot, true, false, false⟩ })
            ∧ (∀ k c, found.checkpoint = some (k, c) → c.nextLog < 65536 → ∀ a, found.newest = some a →
                let b := (a + 1) % 65536
                n = if 1 ≤ (c.nextLog + 65536 - b) % 65536 ∧ (c.nextLog + 65536 - b) % 65536 ≤ 32767 then c.nextLog else b)
            ∧ (found.checkpoint = none → ∀ a, found.newest = some a → n = (a + 1) % 65536)
            ∧ (∀ k c, found.checkpoint = some (k, c) → found.newest = none → n = c.nextLog)
            ∧ (found.checkpoint = none → found.newest = none → n = 0))
        ∧ (∀ k c, found.checkpoint = some (k, c) →
            t.tally = { Tally.blank (c.protectLife || s.lockLife) (c.protectService || s.lockService) with
                accepted := c.accepted
                lifetime := c.lifetime
                entries := c.entries
                tripStops := c.tripStops
                normalStops := c.normalStops
                service := c.service
                serviceDue := c.serviceDue }
              ∧ t.shift = ShiftUnit.mk { c.shift with worst := 3, uncertain := true } .running true (some c.time))
        ∧ (found.checkpoint = none →
            t.tally = Tally.blank (cfg.protectLife || s.lockLife) (cfg.protectService || s.lockService)
              ∧ t.shift = ShiftUnit.mk (ShiftRecord.opening none ⟨t.tb.time, 0, 3⟩ .powerUp none) .running true none)))
  ∧ (∀ pages : List Page,
    let st := Store.cleared pages
    let found := st.findings
    let slots := fun (p : Nat) => (st.page p).slots
    let blank := fun (p : Nat) => (slots p).all fun x => decide (x = .blank)
    let used := fun (p : Nat) => ((slots p).any fun
        | .valid _ _ => true
        | _ => false) && decide ((slots p).Pairwise fun x y => x = .blank → y = .blank)
    let filled := fun (p : Nat) => ((slots p).filter fun x => decide (x ≠ .blank)).length
    let ring := fun (r : Region) (p : Nat) => (r.pages.dropWhile (· ≠ p)).tail ++ r.pages.takeWhile (· ≠ p)
    let holds := fun (r : Region) (k : Nat) (x : StoredRecord) => ∃ p ∈ r.pages, Slot.valid k x ∈ slots p
    let highest := fun (r : Region) (k : Nat) (x : StoredRecord) =>
      holds r k x ∧ ∀ k' x', holds r k' x' → (k', x') = (k, x) ∨ k' < k
    (∃ late : Region → Option Nat,
      st.scan = { st with
          journal := st.scan.journal
          shifts := st.scan.shifts
          trips := st.scan.trips
          eraseList := ((List.range 16).filter fun p => !(blank p || used p))
            ++ ((late .journal).toList ++ (late .shifts).toList ++ (late .trips).toList) }
        ∧ ∀ r : Region, let now := st.scan.region r
          now.stopped = false
            ∧ ((∀ k x, ¬holds r k x) → now.nextSeq = 0)
            ∧ (∀ k x, holds r k x → (∀ k' x', holds r k' x' → k' ≤ k) → now.nextSeq = (k + 1) % 4294967296)
            ∧ ((∀ p ∈ r.pages, used p = false) → late r = none ∧ now.slot = 0 ∧ now.active = r.pages.find? blank
                ∧ now.ready = now.active.bind fun p => (ring r p).find? blank)
            ∧ ∀ p k x, p ∈ r.pages → used p = true → Slot.valid k x ∈ slots p →
              (∀ p' ∈ r.pages, used p' = true → ∀ k' x', Slot.valid k' x' ∈ slots p' → k' < k ∨ (k' = k ∧ p' = p)) →
              let next := (ring r p).find? blank
              let oldest := (ring r p).find? used
              (filled p < r.slots → now.active = some p ∧ now.slot = filled p ∧ now.ready = next
                  ∧ late r = if next = none then oldest else none)
                ∧ (r.slots ≤ filled p → next = none → now.active = some p ∧ st.scan.appendPoint r = none
                  ∧ now.ready = none ∧ late r = oldest)
                ∧ (r.slots ≤ filled p → ∀ q, next = some q → now.active = some q ∧ now.slot = 0
                  ∧ now.ready = (ring r q).find? blank
                  ∧ late r = if (ring r q).find? blank = none then (ring r q).find? used else none))
      ∧ ((∀ k x, ¬holds .journal k x) → found.checkpoint = none)
      ∧ (∀ k c, highest .journal k (.checkpoint c) → found.checkpoint = some (k, c))
      ∧ ((∀ k x, ¬holds .trips k x) → found.newest = none)
      ∧ (∀ k a, highest .trips k (.archive a) → found.newest = some a.seq)
      ∧ found.torn = min 255 (((List.range 16).filter used).map fun p =>
          ((slots p).filter fun x => decide (x = .torn)).length).sum
      ∧ found.queued = st.scan.eraseList.length
      ∧ (found.interrupted = true ↔ ∃ p, p < 16 ∧ used p = true ∧ (slots p)[filled p - 1]? = some .incomplete))
  ∧ (∀ m : List Byte, m.length ≠ 256 ∨ fieldAt m 254 2 ≠ (crc (m.take 254)).toNat →
      loadConfiguration (some m) = Configuration.defaults .faulted)
  ∧ loadConfiguration none = Configuration.defaults .faulted
  ∧ (let d := Configuration.defaults .faulted
    d.status = .faulted ∧ d.inputs.length = 16 ∧ (∀ k ∈ d.inputs, k.enabled = false) ∧ d.qualMs = 20
      ∧ d.modeTable.length = 64 ∧ (∀ m ∈ d.modeTable, m = some .standstill) ∧ d.dwell = 5 ∧ d.associationWin = 10
      ∧ d.serviceLimit = 0 ∧ d.protectLife = true ∧ d.protectService = false ∧ d.chatterWindow = 10 ∧ d.chatterLimit = 8
      ∧ d.wg = 20 ∧ d.settle = 50 ∧ d.hold = 60 ∧ d.logCritical = 192 ∧ d.noticeCritical = 48 ∧ d.senderReject = 0
      ∧ d.chatterReject = false ∧ d.rejectIndication = false ∧ d.rejectProtection = false ∧ d.rejectUnitTrip = false
      ∧ d.groupReject = 0 ∧ d.roundLength = 4 ∧ d.dropped = 1 ∧ d.stepThreshold = 1000 ∧ d.holdoverLimit = 60
      ∧ d.lineDelay = 0 ∧ d.markEnable = false ∧ d.shiftsPerDay = 3 ∧ d.firstBoundary = 21600 ∧ d.lead = 900
      ∧ d.grace = 1800 ∧ d.checkpointEvery = 60 ∧ d.warningMv = 4350 ∧ ∀ k < 15, d.alarmMask.getLsbD k = true)
  ∧ ∀ m : List Byte, m.length = 256 → fieldAt m 254 2 = (crc (m.take 254)).toNat →
    let b := byteAt m
    let w := fieldAt m
    let bit := fun (k j : Nat) => (m.getD k 0).getLsbD j
    let clamp := fun (lo hi v : Nat) => max lo (min hi v)
    let apart := fun (x y : Nat) => (x - y) + (y - x)
    let c := loadConfiguration (some m)
    let lsh := 86400 / c.shiftsPerDay
    let sound := (∀ i < 16, b (3 * i) / 4 % 4 ≤ 2 ∧ b (3 * i + 1) ≤ 7 ∧ b (3 * i + 2) ≤ 127) ∧ (∀ i < 64, b (49 + i) ≤ 7)
      ∧ b 113 ≤ 120 ∧ b 114 ≤ 60 ∧ 1 ≤ b 118 ∧ b 118 ≤ 60 ∧ 3 ≤ b 119 ∧ b 119 ≤ 31 ∧ 10 ≤ w 120 2 ∧ w 120 2 ≤ 2000
      ∧ w 122 2 ≤ 500 ∧ w 124 2 ≤ 3600 ∧ 1 ≤ w 126 2 ∧ w 126 2 ≤ 256 ∧ 1 ≤ b 128 ∧ b 128 ≤ 64 ∧ 2 ≤ b 135 ∧ b 135 ≤ 16
      ∧ b 136 ≤ 3 ∧ 100 ≤ w 137 2 ∧ w 137 2 ≤ 50000 ∧ 1 ≤ b 139 ∧ b 140 ≤ 50 ∧ b 142 = c.shiftsPerDay ∧ w 143 4 < lsh
      ∧ w 147 2 ≤ lsh / 2 ∧ w 149 2 ≤ lsh / 2 ∧ 10 ≤ w 151 2 ∧ w 151 2 ≤ 600 ∧ b 153 ≤ 3
    (sound → c.status = .good) ∧ (¬sound → c.status = .clamped)
      ∧ c.inputs.length = 16 ∧ (∀ i < 16, ∃ k : InputClass, k.code = min 2 (b (3 * i) / 4 % 4)
          ∧ c.inputs[i]? = some ⟨bit (3 * i) 0, bit (3 * i) 1, k, min 7 (b (3 * i + 1)), min 127 (b (3 * i + 2))⟩)
      ∧ c.qualMs = b 48 ∧ c.modeTable.length = 64 ∧ (∀ i < 64, ∃ x, c.modeTable[i]? = some x
          ∧ x.map Mode.code = if b (49 + i) ≤ 6 then some (b (49 + i)) else none)
      ∧ c.dwell = min 120 (b 113) ∧ c.associationWin = min 60 (b 114) ∧ c.serviceLimit = w 115 2
      ∧ c.protectLife = bit 117 0 ∧ c.protectService = bit 117 1 ∧ c.chatterWindow = clamp 1 60 (b 118)
      ∧ c.chatterLimit = clamp 3 31 (b 119) ∧ c.wg = clamp 10 2000 (w 120 2) ∧ c.settle = min 500 (w 122 2)
      ∧ c.hold = min 3600 (w 124 2) ∧ c.logCritical = clamp 1 256 (w 126 2) ∧ c.noticeCritical = clamp 1 64 (b 128)
      ∧ (∀ k < 31, c.senderReject.getLsbD k = (w 129 4).testBit k)
      ∧ c.chatterReject = bit 133 0 ∧ c.rejectIndication = bit 133 1 ∧ c.rejectProtection = bit 133 2
      ∧ c.rejectUnitTrip = bit 133 3 ∧ (∀ k, 1 ≤ k → k ≤ 7 → c.groupReject.getLsbD k = bit 134 k)
      ∧ c.roundLength = clamp 2 16 (b 135) ∧ c.dropped = min 3 (b 136) ∧ c.stepThreshold = clamp 100 50000 (w 137 2)
      ∧ c.holdoverLimit = max 1 (b 139) ∧ c.lineDelay = min 50 (b 140) ∧ c.markEnable = bit 141 0
      ∧ c.shiftsPerDay ∈ [1, 2, 3, 4, 6, 8]
      ∧ (∀ q ∈ [1, 2, 3, 4, 6, 8], q ≠ c.shiftsPerDay → apart (b 142) c.shiftsPerDay < apart (b 142) q
          ∨ (apart (b 142) c.shiftsPerDay = apart (b 142) q ∧ c.shiftsPerDay < q))
      ∧ c.firstBoundary = min (lsh - 1) (w 143 4) ∧ c.lead = min (lsh / 2) (w 147 2) ∧ c.grace = min (lsh / 2) (w 149 2)
      ∧ c.checkpointEvery = clamp 10 600 (w 151 2)
      ∧ c.warningMv = (if b 153 = 0 then 4200 else if b 153 = 1 then 4350 else if b 153 = 2 then 4500 else 4650)
      ∧ ∀ k < 15, c.alarmMask.getLsbD k = (w 154 2).testBit k
end

