-- ==== Sys2Proof/Laws/State.lean ====
section
/-! SUPPORT. What each named update of State leaves in each field: one lemma for one field, true by rfl, so that no later
proof unfolds a record update. -/

namespace Sys2Proof.Machine

variable (s : State)

@[simp] theorem State.withPending_pending (q : List Instr) : (s.withPending q).pending = q := rfl
@[simp] theorem State.withPending_phase (q : List Instr) : (s.withPending q).phase = s.phase := rfl
@[simp] theorem State.withPending_cfg (q : List Instr) : (s.withPending q).cfg = s.cfg := rfl
@[simp] theorem State.withPending_ownNumber (q : List Instr) : (s.withPending q).ownNumber = s.ownNumber := rfl
@[simp] theorem State.withPending_console (q : List Instr) : (s.withPending q).console = s.console := rfl
@[simp] theorem State.withPending_flags (q : List Instr) : (s.withPending q).flags = s.flags := rfl
@[simp] theorem State.withPending_tb (q : List Instr) : (s.withPending q).tb = s.tb := rfl
@[simp] theorem State.withPending_marks (q : List Instr) : (s.withPending q).marks = s.marks := rfl
@[simp] theorem State.withPending_agr (q : List Instr) : (s.withPending q).agr = s.agr := rfl
@[simp] theorem State.withPending_peers (q : List Instr) : (s.withPending q).peers = s.peers := rfl
@[simp] theorem State.withPending_chA (q : List Instr) : (s.withPending q).chA = s.chA := rfl
@[simp] theorem State.withPending_chB (q : List Instr) : (s.withPending q).chB = s.chB := rfl
@[simp] theorem State.withPending_senderSeq (q : List Instr) : (s.withPending q).senderSeq = s.senderSeq := rfl
@[simp] theorem State.withPending_inputs (q : List Instr) : (s.withPending q).inputs = s.inputs := rfl
@[simp] theorem State.withPending_log (q : List Instr) : (s.withPending q).log = s.log := rfl
@[simp] theorem State.withPending_notices (q : List Instr) : (s.withPending q).notices = s.notices := rfl
@[simp] theorem State.withPending_groups (q : List Instr) : (s.withPending q).groups = s.groups := rfl
@[simp] theorem State.withPending_tally (q : List Instr) : (s.withPending q).tally = s.tally := rfl
@[simp] theorem State.withPending_lockLife (q : List Instr) : (s.withPending q).lockLife = s.lockLife := rfl
@[simp] theorem State.withPending_lockService (q : List Instr) : (s.withPending q).lockService = s.lockService := rfl
@[simp] theorem State.withPending_shift (q : List Instr) : (s.withPending q).shift = s.shift := rfl
@[simp] theorem State.withPending_store (q : List Instr) : (s.withPending q).store = s.store := rfl
@[simp] theorem State.withPending_supply (q : List Instr) : (s.withPending q).supply = s.supply := rfl
@[simp] theorem State.withPending_req (q : List Instr) : (s.withPending q).req = s.req := rfl
@[simp] theorem State.withPending_out (q : List Instr) : (s.withPending q).out = s.out := rfl
@[simp] theorem State.withPending_freeIndex (q : List Instr) : (s.withPending q).freeIndex = s.freeIndex := rfl

@[simp] theorem State.setInput_pending (i : Nat) (c : InputChannel) : (s.setInput i c).pending = s.pending := rfl
@[simp] theorem State.setInput_phase (i : Nat) (c : InputChannel) : (s.setInput i c).phase = s.phase := rfl
@[simp] theorem State.setInput_cfg (i : Nat) (c : InputChannel) : (s.setInput i c).cfg = s.cfg := rfl
@[simp] theorem State.setInput_ownNumber (i : Nat) (c : InputChannel) :
    (s.setInput i c).ownNumber = s.ownNumber := rfl
@[simp] theorem State.setInput_console (i : Nat) (c : InputChannel) : (s.setInput i c).console = s.console := rfl
@[simp] theorem State.setInput_flags (i : Nat) (c : InputChannel) : (s.setInput i c).flags = s.flags := rfl
@[simp] theorem State.setInput_tb (i : Nat) (c : InputChannel) : (s.setInput i c).tb = s.tb := rfl
@[simp] theorem State.setInput_marks (i : Nat) (c : InputChannel) : (s.setInput i c).marks = s.marks := rfl
@[simp] theorem State.setInput_agr (i : Nat) (c : InputChannel) : (s.setInput i c).agr = s.agr := rfl
@[simp] theorem State.setInput_peers (i : Nat) (c : InputChannel) : (s.setInput i c).peers = s.peers := rfl
@[simp] theorem State.setInput_chA (i : Nat) (c : InputChannel) : (s.setInput i c).chA = s.chA := rfl
@[simp] theorem State.setInput_chB (i : Nat) (c : InputChannel) : (s.setInput i c).chB = s.chB := rfl
@[simp] theorem State.setInput_senderSeq (i : Nat) (c : InputChannel) :
    (s.setInput i c).senderSeq = s.senderSeq := rfl
@[simp] theorem State.setInput_inputs (i : Nat) (c : InputChannel) : (s.setInput i c).inputs = s.inputs.set i c := rfl
@[simp] theorem State.setInput_log (i : Nat) (c : InputChannel) : (s.setInput i c).log = s.log := rfl
@[simp] theorem State.setInput_notices (i : Nat) (c : InputChannel) : (s.setInput i c).notices = s.notices := rfl
@[simp] theorem State.setInput_groups (i : Nat) (c : InputChannel) : (s.setInput i c).groups = s.groups := rfl
@[simp] theorem State.setInput_tally (i : Nat) (c : InputChannel) : (s.setInput i c).tally = s.tally := rfl
@[simp] theorem State.setInput_lockLife (i : Nat) (c : InputChannel) : (s.setInput i c).lockLife = s.lockLife := rfl
@[simp] theorem State.setInput_lockService (i : Nat) (c : InputChannel) :
    (s.setInput i c).lockService = s.lockService := rfl
@[simp] theorem State.setInput_shift (i : Nat) (c : InputChannel) : (s.setInput i c).shift = s.shift := rfl
@[simp] theorem State.setInput_store (i : Nat) (c : InputChannel) : (s.setInput i c).store = s.store := rfl
@[simp] theorem State.setInput_supply (i : Nat) (c : InputChannel) : (s.setInput i c).supply = s.supply := rfl
@[simp] theorem State.setInput_req (i : Nat) (c : InputChannel) : (s.setInput i c).req = s.req := rfl
@[simp] theorem State.setInput_out (i : Nat) (c : InputChannel) : (s.setInput i c).out = s.out := rfl
@[simp] theorem State.setInput_freeIndex (i : Nat) (c : InputChannel) :
    (s.setInput i c).freeIndex = s.freeIndex := rfl

@[simp] theorem State.setPeer_pending (n : Nat) (p : Peer) : (s.setPeer n p).pending = s.pending := rfl
@[simp] theorem State.setPeer_phase (n : Nat) (p : Peer) : (s.setPeer n p).phase = s.phase := rfl
@[simp] theorem State.setPeer_cfg (n : Nat) (p : Peer) : (s.setPeer n p).cfg = s.cfg := rfl
@[simp] theorem State.setPeer_ownNumber (n : Nat) (p : Peer) : (s.setPeer n p).ownNumber = s.ownNumber := rfl
@[simp] theorem State.setPeer_console (n : Nat) (p : Peer) : (s.setPeer n p).console = s.console := rfl
@[simp] theorem State.setPeer_flags (n : Nat) (p : Peer) : (s.setPeer n p).flags = s.flags := rfl
@[simp] theorem State.setPeer_tb (n : Nat) (p : Peer) : (s.setPeer n p).tb = s.tb := rfl
@[simp] theorem State.setPeer_marks (n : Nat) (p : Peer) : (s.setPeer n p).marks = s.marks := rfl
@[simp] theorem State.setPeer_agr (n : Nat) (p : Peer) : (s.setPeer n p).agr = s.agr := rfl
@[simp] theorem State.setPeer_peers (n : Nat) (p : Peer) : (s.setPeer n p).peers = s.peers.set n p := rfl
@[simp] theorem State.setPeer_chA (n : Nat) (p : Peer) : (s.setPeer n p).chA = s.chA := rfl
@[simp] theorem State.setPeer_chB (n : Nat) (p : Peer) : (s.setPeer n p).chB = s.chB := rfl
@[simp] theorem State.setPeer_senderSeq (n : Nat) (p : Peer) : (s.setPeer n p).senderSeq = s.senderSeq := rfl
@[simp] theorem State.setPeer_inputs (n : Nat) (p : Peer) : (s.setPeer n p).inputs = s.inputs := rfl
@[simp] theorem State.setPeer_log (n : Nat) (p : Peer) : (s.setPeer n p).log = s.log := rfl
@[simp] theorem State.setPeer_notices (n : Nat) (p : Peer) : (s.setPeer n p).notices = s.notices := rfl
@[simp] theorem State.setPeer_groups (n : Nat) (p : Peer) : (s.setPeer n p).groups = s.groups := rfl
@[simp] theorem State.setPeer_tally (n : Nat) (p : Peer) : (s.setPeer n p).tally = s.tally := rfl
@[simp] theorem State.setPeer_lockLife (n : Nat) (p : Peer) : (s.setPeer n p).lockLife = s.lockLife := rfl
@[simp] theorem State.setPeer_lockService (n : Nat) (p : Peer) : (s.setPeer n p).lockService = s.lockService := rfl
@[simp] theorem State.setPeer_shift (n : Nat) (p : Peer) : (s.setPeer n p).shift = s.shift := rfl
@[simp] theorem State.setPeer_store (n : Nat) (p : Peer) : (s.setPeer n p).store = s.store := rfl
@[simp] theorem State.setPeer_supply (n : Nat) (p : Peer) : (s.setPeer n p).supply = s.supply := rfl
@[simp] theorem State.setPeer_req (n : Nat) (p : Peer) : (s.setPeer n p).req = s.req := rfl
@[simp] theorem State.setPeer_out (n : Nat) (p : Peer) : (s.setPeer n p).out = s.out := rfl
@[simp] theorem State.setPeer_freeIndex (n : Nat) (p : Peer) : (s.setPeer n p).freeIndex = s.freeIndex := rfl

@[simp] theorem State.setSupply_pending (m : SupplyMonitor) : (s.setSupply m).pending = s.pending := rfl
@[simp] theorem State.setSupply_phase (m : SupplyMonitor) : (s.setSupply m).phase = s.phase := rfl
@[simp] theorem State.setSupply_cfg (m : SupplyMonitor) : (s.setSupply m).cfg = s.cfg := rfl
@[simp] theorem State.setSupply_ownNumber (m : SupplyMonitor) : (s.setSupply m).ownNumber = s.ownNumber := rfl
@[simp] theorem State.setSupply_console (m : SupplyMonitor) : (s.setSupply m).console = s.console := rfl
@[simp] theorem State.setSupply_flags (m : SupplyMonitor) : (s.setSupply m).flags = s.flags := rfl
@[simp] theorem State.setSupply_tb (m : SupplyMonitor) : (s.setSupply m).tb = s.tb := rfl
@[simp] theorem State.setSupply_marks (m : SupplyMonitor) : (s.setSupply m).marks = s.marks := rfl
@[simp] theorem State.setSupply_agr (m : SupplyMonitor) : (s.setSupply m).agr = s.agr := rfl
@[simp] theorem State.setSupply_peers (m : SupplyMonitor) : (s.setSupply m).peers = s.peers := rfl
@[simp] theorem State.setSupply_chA (m : SupplyMonitor) : (s.setSupply m).chA = s.chA := rfl
@[simp] theorem State.setSupply_chB (m : SupplyMonitor) : (s.setSupply m).chB = s.chB := rfl
@[simp] theorem State.setSupply_senderSeq (m : SupplyMonitor) : (s.setSupply m).senderSeq = s.senderSeq := rfl
@[simp] theorem State.setSupply_inputs (m : SupplyMonitor) : (s.setSupply m).inputs = s.inputs := rfl
@[simp] theorem State.setSupply_log (m : SupplyMonitor) : (s.setSupply m).log = s.log := rfl
@[simp] theorem State.setSupply_notices (m : SupplyMonitor) : (s.setSupply m).notices = s.notices := rfl
@[simp] theorem State.setSupply_groups (m : SupplyMonitor) : (s.setSupply m).groups = s.groups := rfl
@[simp] theorem State.setSupply_tally (m : SupplyMonitor) : (s.setSupply m).tally = s.tally := rfl
@[simp] theorem State.setSupply_lockLife (m : SupplyMonitor) : (s.setSupply m).lockLife = s.lockLife := rfl
@[simp] theorem State.setSupply_lockService (m : SupplyMonitor) : (s.setSupply m).lockService = s.lockService := rfl
@[simp] theorem State.setSupply_shift (m : SupplyMonitor) : (s.setSupply m).shift = s.shift := rfl
@[simp] theorem State.setSupply_store (m : SupplyMonitor) : (s.setSupply m).store = s.store := rfl
@[simp] theorem State.setSupply_supply (m : SupplyMonitor) : (s.setSupply m).supply = m := rfl
@[simp] theorem State.setSupply_req (m : SupplyMonitor) : (s.setSupply m).req = s.req := rfl
@[simp] theorem State.setSupply_out (m : SupplyMonitor) : (s.setSupply m).out = s.out := rfl
@[simp] theorem State.setSupply_freeIndex (m : SupplyMonitor) : (s.setSupply m).freeIndex = s.freeIndex := rfl

@[simp] theorem State.emit_pending (o : Output) : (s.emit o).pending = s.pending := rfl
@[simp] theorem State.emit_phase (o : Output) : (s.emit o).phase = s.phase := rfl
@[simp] theorem State.emit_cfg (o : Output) : (s.emit o).cfg = s.cfg := rfl
@[simp] theorem State.emit_ownNumber (o : Output) : (s.emit o).ownNumber = s.ownNumber := rfl
@[simp] theorem State.emit_console (o : Output) : (s.emit o).console = s.console := rfl
@[simp] theorem State.emit_flags (o : Output) : (s.emit o).flags = s.flags := rfl
@[simp] theorem State.emit_tb (o : Output) : (s.emit o).tb = s.tb := rfl
@[simp] theorem State.emit_marks (o : Output) : (s.emit o).marks = s.marks := rfl
@[simp] theorem State.emit_agr (o : Output) : (s.emit o).agr = s.agr := rfl
@[simp] theorem State.emit_peers (o : Output) : (s.emit o).peers = s.peers := rfl
@[simp] theorem State.emit_chA (o : Output) : (s.emit o).chA = s.chA := rfl
@[simp] theorem State.emit_chB (o : Output) : (s.emit o).chB = s.chB := rfl
@[simp] theorem State.emit_senderSeq (o : Output) : (s.emit o).senderSeq = s.senderSeq := rfl
@[simp] theorem State.emit_inputs (o : Output) : (s.emit o).inputs = s.inputs := rfl
@[simp] theorem State.emit_log (o : Output) : (s.emit o).log = s.log := rfl
@[simp] theorem State.emit_notices (o : Output) : (s.emit o).notices = s.notices := rfl
@[simp] theorem State.emit_groups (o : Output) : (s.emit o).groups = s.groups := rfl
@[simp] theorem State.emit_tally (o : Output) : (s.emit o).tally = s.tally := rfl
@[simp] theorem State.emit_lockLife (o : Output) : (s.emit o).lockLife = s.lockLife := rfl
@[simp] theorem State.emit_lockService (o : Output) : (s.emit o).lockService = s.lockService := rfl
@[simp] theorem State.emit_shift (o : Output) : (s.emit o).shift = s.shift := rfl
@[simp] theorem State.emit_store (o : Output) : (s.emit o).store = s.store := rfl
@[simp] theorem State.emit_supply (o : Output) : (s.emit o).supply = s.supply := rfl
@[simp] theorem State.emit_req (o : Output) : (s.emit o).req = s.req := rfl
@[simp] theorem State.emit_out (o : Output) : (s.emit o).out = s.out ++ [o] := rfl
@[simp] theorem State.emit_freeIndex (o : Output) : (s.emit o).freeIndex = s.freeIndex := rfl

@[simp] theorem State.modShift_pending (f : ShiftRecord → ShiftRecord) : (s.modShift f).pending = s.pending := rfl
@[simp] theorem State.modShift_phase (f : ShiftRecord → ShiftRecord) : (s.modShift f).phase = s.phase := rfl
@[simp] theorem State.modShift_cfg (f : ShiftRecord → ShiftRecord) : (s.modShift f).cfg = s.cfg := rfl
@[simp] theorem State.modShift_ownNumber (f : ShiftRecord → ShiftRecord) :
    (s.modShift f).ownNumber = s.ownNumber := rfl
@[simp] theorem State.modShift_console (f : ShiftRecord → ShiftRecord) : (s.modShift f).console = s.console := rfl
@[simp] theorem State.modShift_flags (f : ShiftRecord → ShiftRecord) : (s.modShift f).flags = s.flags := rfl
@[simp] theorem State.modShift_tb (f : ShiftRecord → ShiftRecord) : (s.modShift f).tb = s.tb := rfl
@[simp] theorem State.modShift_marks (f : ShiftRecord → ShiftRecord) : (s.modShift f).marks = s.marks := rfl
@[simp] theorem State.modShift_agr (f : ShiftRecord → ShiftRecord) : (s.modShift f).agr = s.agr := rfl
@[simp] theorem State.modShift_peers (f : ShiftRecord → ShiftRecord) : (s.modShift f).peers = s.peers := rfl
@[simp] theorem State.modShift_chA (f : ShiftRecord → ShiftRecord) : (s.modShift f).chA = s.chA := rfl
@[simp] theorem State.modShift_chB (f : ShiftRecord → ShiftRecord) : (s.modShift f).chB = s.chB := rfl
@[simp] theorem State.modShift_senderSeq (f : ShiftRecord → ShiftRecord) :
    (s.modShift f).senderSeq = s.senderSeq := rfl
@[simp] theorem State.modShift_inputs (f : ShiftRecord → ShiftRecord) : (s.modShift f).inputs = s.inputs := rfl
@[simp] theorem State.modShift_log (f : ShiftRecord → ShiftRecord) : (s.modShift f).log = s.log := rfl
@[simp] theorem State.modShift_notices (f : ShiftRecord → ShiftRecord) : (s.modShift f).notices = s.notices := rfl
@[simp] theorem State.modShift_groups (f : ShiftRecord → ShiftRecord) : (s.modShift f).groups = s.groups := rfl
@[simp] theorem State.modShift_tally (f : ShiftRecord → ShiftRecord) : (s.modShift f).tally = s.tally := rfl
@[simp] theorem State.modShift_lockLife (f : ShiftRecord → ShiftRecord) : (s.modShift f).lockLife = s.lockLife := rfl
@[simp] theorem State.modShift_lockService (f : ShiftRecord → ShiftRecord) :
    (s.modShift f).lockService = s.lockService := rfl
@[simp] theorem State.modShift_shift (f : ShiftRecord → ShiftRecord) :
    (s.modShift f).shift = { s.shift with current := f s.shift.current } := rfl
@[simp] theorem State.modShift_store (f : ShiftRecord → ShiftRecord) : (s.modShift f).store = s.store := rfl
@[simp] theorem State.modShift_supply (f : ShiftRecord → ShiftRecord) : (s.modShift f).supply = s.supply := rfl
@[simp] theorem State.modShift_req (f : ShiftRecord → ShiftRecord) : (s.modShift f).req = s.req := rfl
@[simp] theorem State.modShift_out (f : ShiftRecord → ShiftRecord) : (s.modShift f).out = s.out := rfl
@[simp] theorem State.modShift_freeIndex (f : ShiftRecord → ShiftRecord) :
    (s.modShift f).freeIndex = s.freeIndex := rfl

@[simp] theorem State.popRequest_pending : (s.popRequest).pending = s.pending := rfl
@[simp] theorem State.popRequest_phase : (s.popRequest).phase = s.phase := rfl
@[simp] theorem State.popRequest_cfg : (s.popRequest).cfg = s.cfg := rfl
@[simp] theorem State.popRequest_ownNumber : (s.popRequest).ownNumber = s.ownNumber := rfl
@[simp] theorem State.popRequest_console : (s.popRequest).console = s.console := rfl
@[simp] theorem State.popRequest_flags : (s.popRequest).flags = s.flags := rfl
@[simp] theorem State.popRequest_tb : (s.popRequest).tb = s.tb := rfl
@[simp] theorem State.popRequest_marks : (s.popRequest).marks = s.marks := rfl
@[simp] theorem State.popRequest_agr : (s.popRequest).agr = s.agr := rfl
@[simp] theorem State.popRequest_peers : (s.popRequest).peers = s.peers := rfl
@[simp] theorem State.popRequest_chA : (s.popRequest).chA = s.chA := rfl
@[simp] theorem State.popRequest_chB : (s.popRequest).chB = s.chB := rfl
@[simp] theorem State.popRequest_senderSeq : (s.popRequest).senderSeq = s.senderSeq := rfl
@[simp] theorem State.popRequest_inputs : (s.popRequest).inputs = s.inputs := rfl
@[simp] theorem State.popRequest_log : (s.popRequest).log = s.log := rfl
@[simp] theorem State.popRequest_notices : (s.popRequest).notices = s.notices := rfl
@[simp] theorem State.popRequest_groups : (s.popRequest).groups = s.groups := rfl
@[simp] theorem State.popRequest_tally : (s.popRequest).tally = s.tally := rfl
@[simp] theorem State.popRequest_lockLife : (s.popRequest).lockLife = s.lockLife := rfl
@[simp] theorem State.popRequest_lockService : (s.popRequest).lockService = s.lockService := rfl
@[simp] theorem State.popRequest_shift : (s.popRequest).shift = s.shift := rfl
@[simp] theorem State.popRequest_store : (s.popRequest).store = s.store := rfl
@[simp] theorem State.popRequest_supply : (s.popRequest).supply = s.supply := rfl
@[simp] theorem State.popRequest_req : (s.popRequest).req = { s.req with queue := s.req.queue.tail } := rfl
@[simp] theorem State.popRequest_out : (s.popRequest).out = s.out := rfl
@[simp] theorem State.popRequest_freeIndex : (s.popRequest).freeIndex = s.freeIndex := rfl

@[simp] theorem State.loseArchive_pending : (s.loseArchive).pending = s.pending := rfl
@[simp] theorem State.loseArchive_phase : (s.loseArchive).phase = s.phase := rfl
@[simp] theorem State.loseArchive_cfg : (s.loseArchive).cfg = s.cfg := rfl
@[simp] theorem State.loseArchive_ownNumber : (s.loseArchive).ownNumber = s.ownNumber := rfl
@[simp] theorem State.loseArchive_console : (s.loseArchive).console = s.console := rfl
@[simp] theorem State.loseArchive_flags : (s.loseArchive).flags = { s.flags with archiveLoss := true } := rfl
@[simp] theorem State.loseArchive_tb : (s.loseArchive).tb = s.tb := rfl
@[simp] theorem State.loseArchive_marks : (s.loseArchive).marks = s.marks := rfl
@[simp] theorem State.loseArchive_agr : (s.loseArchive).agr = s.agr := rfl
@[simp] theorem State.loseArchive_peers : (s.loseArchive).peers = s.peers := rfl
@[simp] theorem State.loseArchive_chA : (s.loseArchive).chA = s.chA := rfl
@[simp] theorem State.loseArchive_chB : (s.loseArchive).chB = s.chB := rfl
@[simp] theorem State.loseArchive_senderSeq : (s.loseArchive).senderSeq = s.senderSeq := rfl
@[simp] theorem State.loseArchive_inputs : (s.loseArchive).inputs = s.inputs := rfl
@[simp] theorem State.loseArchive_log : (s.loseArchive).log = s.log := rfl
@[simp] theorem State.loseArchive_notices : (s.loseArchive).notices = s.notices := rfl
@[simp] theorem State.loseArchive_groups : (s.loseArchive).groups = s.groups := rfl
@[simp] theorem State.loseArchive_tally : (s.loseArchive).tally = s.tally := rfl
@[simp] theorem State.loseArchive_lockLife : (s.loseArchive).lockLife = s.lockLife := rfl
@[simp] theorem State.loseArchive_lockService : (s.loseArchive).lockService = s.lockService := rfl
@[simp] theorem State.loseArchive_shift : (s.loseArchive).shift = s.shift := rfl
@[simp] theorem State.loseArchive_store : (s.loseArchive).store = s.store := rfl
@[simp] theorem State.loseArchive_supply : (s.loseArchive).supply = s.supply := rfl
@[simp] theorem State.loseArchive_req : (s.loseArchive).req = s.req := rfl
@[simp] theorem State.loseArchive_out : (s.loseArchive).out = s.out := rfl
@[simp] theorem State.loseArchive_freeIndex : (s.loseArchive).freeIndex = s.freeIndex := rfl

@[simp] theorem State.enqueue_pending (k : EntryKind) : (s.enqueue k).pending = s.pending := rfl
@[simp] theorem State.enqueue_phase (k : EntryKind) : (s.enqueue k).phase = s.phase := rfl
@[simp] theorem State.enqueue_cfg (k : EntryKind) : (s.enqueue k).cfg = s.cfg := rfl
@[simp] theorem State.enqueue_ownNumber (k : EntryKind) : (s.enqueue k).ownNumber = s.ownNumber := rfl
@[simp] theorem State.enqueue_console (k : EntryKind) : (s.enqueue k).console = s.console := rfl
@[simp] theorem State.enqueue_flags (k : EntryKind) : (s.enqueue k).flags = s.flags := rfl
@[simp] theorem State.enqueue_tb (k : EntryKind) : (s.enqueue k).tb = s.tb := rfl
@[simp] theorem State.enqueue_marks (k : EntryKind) : (s.enqueue k).marks = s.marks := rfl
@[simp] theorem State.enqueue_agr (k : EntryKind) : (s.enqueue k).agr = s.agr := rfl
@[simp] theorem State.enqueue_peers (k : EntryKind) : (s.enqueue k).peers = s.peers := rfl
@[simp] theorem State.enqueue_chA (k : EntryKind) : (s.enqueue k).chA = s.chA := rfl
@[simp] theorem State.enqueue_chB (k : EntryKind) : (s.enqueue k).chB = s.chB := rfl
@[simp] theorem State.enqueue_senderSeq (k : EntryKind) : (s.enqueue k).senderSeq = s.senderSeq := rfl
@[simp] theorem State.enqueue_inputs (k : EntryKind) : (s.enqueue k).inputs = s.inputs := rfl
@[simp] theorem State.enqueue_log (k : EntryKind) : (s.enqueue k).log = s.log := rfl
@[simp] theorem State.enqueue_notices (k : EntryKind) : (s.enqueue k).notices = s.notices := rfl
@[simp] theorem State.enqueue_groups (k : EntryKind) : (s.enqueue k).groups = s.groups := rfl
@[simp] theorem State.enqueue_tally (k : EntryKind) : (s.enqueue k).tally = s.tally := rfl
@[simp] theorem State.enqueue_lockLife (k : EntryKind) : (s.enqueue k).lockLife = s.lockLife := rfl
@[simp] theorem State.enqueue_lockService (k : EntryKind) : (s.enqueue k).lockService = s.lockService := rfl
@[simp] theorem State.enqueue_shift (k : EntryKind) : (s.enqueue k).shift = s.shift := rfl
@[simp] theorem State.enqueue_store (k : EntryKind) :
    (s.enqueue k).store = { s.store with queue := s.store.queue ++ [Entry.fresh k] } := rfl
@[simp] theorem State.enqueue_supply (k : EntryKind) : (s.enqueue k).supply = s.supply := rfl
@[simp] theorem State.enqueue_req (k : EntryKind) : (s.enqueue k).req = s.req := rfl
@[simp] theorem State.enqueue_out (k : EntryKind) : (s.enqueue k).out = s.out := rfl
@[simp] theorem State.enqueue_freeIndex (k : EntryKind) : (s.enqueue k).freeIndex = s.freeIndex := rfl

@[simp] theorem State.restartTimer_pending : (s.restartTimer).pending = s.pending := rfl
@[simp] theorem State.restartTimer_phase : (s.restartTimer).phase = s.phase := rfl
@[simp] theorem State.restartTimer_cfg : (s.restartTimer).cfg = s.cfg := rfl
@[simp] theorem State.restartTimer_ownNumber : (s.restartTimer).ownNumber = s.ownNumber := rfl
@[simp] theorem State.restartTimer_console : (s.restartTimer).console = s.console := rfl
@[simp] theorem State.restartTimer_flags : (s.restartTimer).flags = s.flags := rfl
@[simp] theorem State.restartTimer_tb : (s.restartTimer).tb = s.tb := rfl
@[simp] theorem State.restartTimer_marks : (s.restartTimer).marks = s.marks := rfl
@[simp] theorem State.restartTimer_agr : (s.restartTimer).agr = s.agr := rfl
@[simp] theorem State.restartTimer_peers : (s.restartTimer).peers = s.peers := rfl
@[simp] theorem State.restartTimer_chA : (s.restartTimer).chA = s.chA := rfl
@[simp] theorem State.restartTimer_chB : (s.restartTimer).chB = s.chB := rfl
@[simp] theorem State.restartTimer_senderSeq : (s.restartTimer).senderSeq = s.senderSeq := rfl
@[simp] theorem State.restartTimer_inputs : (s.restartTimer).inputs = s.inputs := rfl
@[simp] theorem State.restartTimer_log : (s.restartTimer).log = s.log := rfl
@[simp] theorem State.restartTimer_notices : (s.restartTimer).notices = s.notices := rfl
@[simp] theorem State.restartTimer_groups : (s.restartTimer).groups = s.groups := rfl
@[simp] theorem State.restartTimer_tally : (s.restartTimer).tally = s.tally := rfl
@[simp] theorem State.restartTimer_lockLife : (s.restartTimer).lockLife = s.lockLife := rfl
@[simp] theorem State.restartTimer_lockService : (s.restartTimer).lockService = s.lockService := rfl
@[simp] theorem State.restartTimer_shift : (s.restartTimer).shift = s.shift := rfl
@[simp] theorem State.restartTimer_store :
    (s.restartTimer).store = { s.store with timer := some (s.tb.elapsed + s.cfg.checkpointEvery * 1000000) } := rfl
@[simp] theorem State.restartTimer_supply : (s.restartTimer).supply = s.supply := rfl
@[simp] theorem State.restartTimer_req : (s.restartTimer).req = s.req := rfl
@[simp] theorem State.restartTimer_out : (s.restartTimer).out = s.out := rfl
@[simp] theorem State.restartTimer_freeIndex : (s.restartTimer).freeIndex = s.freeIndex := rfl

@[simp] theorem State.dropCheckpoint_pending : (s.dropCheckpoint).pending = s.pending := rfl
@[simp] theorem State.dropCheckpoint_phase : (s.dropCheckpoint).phase = s.phase := rfl
@[simp] theorem State.dropCheckpoint_cfg : (s.dropCheckpoint).cfg = s.cfg := rfl
@[simp] theorem State.dropCheckpoint_ownNumber : (s.dropCheckpoint).ownNumber = s.ownNumber := rfl
@[simp] theorem State.dropCheckpoint_console : (s.dropCheckpoint).console = s.console := rfl
@[simp] theorem State.dropCheckpoint_flags : (s.dropCheckpoint).flags = s.flags := rfl
@[simp] theorem State.dropCheckpoint_tb : (s.dropCheckpoint).tb = s.tb := rfl
@[simp] theorem State.dropCheckpoint_marks : (s.dropCheckpoint).marks = s.marks := rfl
@[simp] theorem State.dropCheckpoint_agr : (s.dropCheckpoint).agr = s.agr := rfl
@[simp] theorem State.dropCheckpoint_peers : (s.dropCheckpoint).peers = s.peers := rfl
@[simp] theorem State.dropCheckpoint_chA : (s.dropCheckpoint).chA = s.chA := rfl
@[simp] theorem State.dropCheckpoint_chB : (s.dropCheckpoint).chB = s.chB := rfl
@[simp] theorem State.dropCheckpoint_senderSeq : (s.dropCheckpoint).senderSeq = s.senderSeq := rfl
@[simp] theorem State.dropCheckpoint_inputs : (s.dropCheckpoint).inputs = s.inputs := rfl
@[simp] theorem State.dropCheckpoint_log : (s.dropCheckpoint).log = s.log := rfl
@[simp] theorem State.dropCheckpoint_notices : (s.dropCheckpoint).notices = s.notices := rfl
@[simp] theorem State.dropCheckpoint_groups : (s.dropCheckpoint).groups = s.groups := rfl
@[simp] theorem State.dropCheckpoint_tally : (s.dropCheckpoint).tally = s.tally := rfl
@[simp] theorem State.dropCheckpoint_lockLife : (s.dropCheckpoint).lockLife = s.lockLife := rfl
@[simp] theorem State.dropCheckpoint_lockService : (s.dropCheckpoint).lockService = s.lockService := rfl
@[simp] theorem State.dropCheckpoint_shift : (s.dropCheckpoint).shift = s.shift := rfl
@[simp] theorem State.dropCheckpoint_store :
    (s.dropCheckpoint).store = { s.store with image := Image.empty, dropped := satInc 65535 s.store.dropped } := rfl
@[simp] theorem State.dropCheckpoint_supply : (s.dropCheckpoint).supply = s.supply := rfl
@[simp] theorem State.dropCheckpoint_req : (s.dropCheckpoint).req = s.req := rfl
@[simp] theorem State.dropCheckpoint_out : (s.dropCheckpoint).out = s.out := rfl
@[simp] theorem State.dropCheckpoint_freeIndex : (s.dropCheckpoint).freeIndex = s.freeIndex := rfl

@[simp] theorem State.writeA_pending (a : Int) : (s.writeA a).pending = s.pending := rfl
@[simp] theorem State.writeA_phase (a : Int) : (s.writeA a).phase = s.phase := rfl
@[simp] theorem State.writeA_cfg (a : Int) : (s.writeA a).cfg = s.cfg := rfl
@[simp] theorem State.writeA_ownNumber (a : Int) : (s.writeA a).ownNumber = s.ownNumber := rfl
@[simp] theorem State.writeA_console (a : Int) : (s.writeA a).console = s.console := rfl
@[simp] theorem State.writeA_flags (a : Int) : (s.writeA a).flags = s.flags := rfl
@[simp] theorem State.writeA_tb (a : Int) : (s.writeA a).tb = { s.tb with a := clampInt (-3355) 3355 a } := rfl
@[simp] theorem State.writeA_marks (a : Int) : (s.writeA a).marks = s.marks := rfl
@[simp] theorem State.writeA_agr (a : Int) : (s.writeA a).agr = s.agr := rfl
@[simp] theorem State.writeA_peers (a : Int) : (s.writeA a).peers = s.peers := rfl
@[simp] theorem State.writeA_chA (a : Int) : (s.writeA a).chA = s.chA := rfl
@[simp] theorem State.writeA_chB (a : Int) : (s.writeA a).chB = s.chB := rfl
@[simp] theorem State.writeA_senderSeq (a : Int) : (s.writeA a).senderSeq = s.senderSeq := rfl
@[simp] theorem State.writeA_inputs (a : Int) : (s.writeA a).inputs = s.inputs := rfl
@[simp] theorem State.writeA_log (a : Int) : (s.writeA a).log = s.log := rfl
@[simp] theorem State.writeA_notices (a : Int) : (s.writeA a).notices = s.notices := rfl
@[simp] theorem State.writeA_groups (a : Int) : (s.writeA a).groups = s.groups := rfl
@[simp] theorem State.writeA_tally (a : Int) : (s.writeA a).tally = s.tally := rfl
@[simp] theorem State.writeA_lockLife (a : Int) : (s.writeA a).lockLife = s.lockLife := rfl
@[simp] theorem State.writeA_lockService (a : Int) : (s.writeA a).lockService = s.lockService := rfl
@[simp] theorem State.writeA_shift (a : Int) : (s.writeA a).shift = s.shift := rfl
@[simp] theorem State.writeA_store (a : Int) : (s.writeA a).store = s.store := rfl
@[simp] theorem State.writeA_supply (a : Int) : (s.writeA a).supply = s.supply := rfl
@[simp] theorem State.writeA_req (a : Int) : (s.writeA a).req = s.req := rfl
@[simp] theorem State.writeA_out (a : Int) : (s.writeA a).out = s.out := rfl
@[simp] theorem State.writeA_freeIndex (a : Int) : (s.writeA a).freeIndex = s.freeIndex := rfl

@[simp] theorem State.setStatusTest_pending (t : Option StatusTest) : (s.setStatusTest t).pending = s.pending := rfl
@[simp] theorem State.setStatusTest_phase (t : Option StatusTest) : (s.setStatusTest t).phase = s.phase := rfl
@[simp] theorem State.setStatusTest_cfg (t : Option StatusTest) : (s.setStatusTest t).cfg = s.cfg := rfl
@[simp] theorem State.setStatusTest_ownNumber (t : Option StatusTest) :
    (s.setStatusTest t).ownNumber = s.ownNumber := rfl
@[simp] theorem State.setStatusTest_console (t : Option StatusTest) : (s.setStatusTest t).console = s.console := rfl
@[simp] theorem State.setStatusTest_flags (t : Option StatusTest) : (s.setStatusTest t).flags = s.flags := rfl
@[simp] theorem State.setStatusTest_tb (t : Option StatusTest) : (s.setStatusTest t).tb = s.tb := rfl
@[simp] theorem State.setStatusTest_marks (t : Option StatusTest) : (s.setStatusTest t).marks = s.marks := rfl
@[simp] theorem State.setStatusTest_agr (t : Option StatusTest) : (s.setStatusTest t).agr = s.agr := rfl
@[simp] theorem State.setStatusTest_peers (t : Option StatusTest) : (s.setStatusTest t).peers = s.peers := rfl
@[simp] theorem State.setStatusTest_chA (t : Option StatusTest) : (s.setStatusTest t).chA = s.chA := rfl
@[simp] theorem State.setStatusTest_chB (t : Option StatusTest) : (s.setStatusTest t).chB = s.chB := rfl
@[simp] theorem State.setStatusTest_senderSeq (t : Option StatusTest) :
    (s.setStatusTest t).senderSeq = s.senderSeq := rfl
@[simp] theorem State.setStatusTest_inputs (t : Option StatusTest) : (s.setStatusTest t).inputs = s.inputs := rfl
@[simp] theorem State.setStatusTest_log (t : Option StatusTest) : (s.setStatusTest t).log = s.log := rfl
@[simp] theorem State.setStatusTest_notices (t : Option StatusTest) : (s.setStatusTest t).notices = s.notices := rfl
@[simp] theorem State.setStatusTest_groups (t : Option StatusTest) : (s.setStatusTest t).groups = s.groups := rfl
@[simp] theorem State.setStatusTest_tally (t : Option StatusTest) :
    (s.setStatusTest t).tally = { s.tally with qual := t } := rfl
@[simp] theorem State.setStatusTest_lockLife (t : Option StatusTest) :
    (s.setStatusTest t).lockLife = s.lockLife := rfl
@[simp] theorem State.setStatusTest_lockService (t : Option StatusTest) :
    (s.setStatusTest t).lockService = s.lockService := rfl
@[simp] theorem State.setStatusTest_shift (t : Option StatusTest) : (s.setStatusTest t).shift = s.shift := rfl
@[simp] theorem State.setStatusTest_store (t : Option StatusTest) : (s.setStatusTest t).store = s.store := rfl
@[simp] theorem State.setStatusTest_supply (t : Option StatusTest) : (s.setStatusTest t).supply = s.supply := rfl
@[simp] theorem State.setStatusTest_req (t : Option StatusTest) : (s.setStatusTest t).req = s.req := rfl
@[simp] theorem State.setStatusTest_out (t : Option StatusTest) : (s.setStatusTest t).out = s.out := rfl
@[simp] theorem State.setStatusTest_freeIndex (t : Option StatusTest) :
    (s.setStatusTest t).freeIndex = s.freeIndex := rfl

@[simp] theorem State.clearCandidate_pending : (s.clearCandidate).pending = s.pending := rfl
@[simp] theorem State.clearCandidate_phase : (s.clearCandidate).phase = s.phase := rfl
@[simp] theorem State.clearCandidate_cfg : (s.clearCandidate).cfg = s.cfg := rfl
@[simp] theorem State.clearCandidate_ownNumber : (s.clearCandidate).ownNumber = s.ownNumber := rfl
@[simp] theorem State.clearCandidate_console : (s.clearCandidate).console = s.console := rfl
@[simp] theorem State.clearCandidate_flags : (s.clearCandidate).flags = s.flags := rfl
@[simp] theorem State.clearCandidate_tb : (s.clearCandidate).tb = s.tb := rfl
@[simp] theorem State.clearCandidate_marks : (s.clearCandidate).marks = s.marks := rfl
@[simp] theorem State.clearCandidate_agr : (s.clearCandidate).agr = s.agr := rfl
@[simp] theorem State.clearCandidate_peers : (s.clearCandidate).peers = s.peers := rfl
@[simp] theorem State.clearCandidate_chA : (s.clearCandidate).chA = s.chA := rfl
@[simp] theorem State.clearCandidate_chB : (s.clearCandidate).chB = s.chB := rfl
@[simp] theorem State.clearCandidate_senderSeq : (s.clearCandidate).senderSeq = s.senderSeq := rfl
@[simp] theorem State.clearCandidate_inputs : (s.clearCandidate).inputs = s.inputs := rfl
@[simp] theorem State.clearCandidate_log : (s.clearCandidate).log = s.log := rfl
@[simp] theorem State.clearCandidate_notices : (s.clearCandidate).notices = s.notices := rfl
@[simp] theorem State.clearCandidate_groups : (s.clearCandidate).groups = s.groups := rfl
@[simp] theorem State.clearCandidate_tally : (s.clearCandidate).tally = { s.tally with candidate := none } := rfl
@[simp] theorem State.clearCandidate_lockLife : (s.clearCandidate).lockLife = s.lockLife := rfl
@[simp] theorem State.clearCandidate_lockService : (s.clearCandidate).lockService = s.lockService := rfl
@[simp] theorem State.clearCandidate_shift : (s.clearCandidate).shift = s.shift := rfl
@[simp] theorem State.clearCandidate_store : (s.clearCandidate).store = s.store := rfl
@[simp] theorem State.clearCandidate_supply : (s.clearCandidate).supply = s.supply := rfl
@[simp] theorem State.clearCandidate_req : (s.clearCandidate).req = s.req := rfl
@[simp] theorem State.clearCandidate_out : (s.clearCandidate).out = s.out := rfl
@[simp] theorem State.clearCandidate_freeIndex : (s.clearCandidate).freeIndex = s.freeIndex := rfl

@[simp] theorem State.setInvalidLogged_pending (b : Bool) : (s.setInvalidLogged b).pending = s.pending := rfl
@[simp] theorem State.setInvalidLogged_phase (b : Bool) : (s.setInvalidLogged b).phase = s.phase := rfl
@[simp] theorem State.setInvalidLogged_cfg (b : Bool) : (s.setInvalidLogged b).cfg = s.cfg := rfl
@[simp] theorem State.setInvalidLogged_ownNumber (b : Bool) : (s.setInvalidLogged b).ownNumber = s.ownNumber := rfl
@[simp] theorem State.setInvalidLogged_console (b : Bool) : (s.setInvalidLogged b).console = s.console := rfl
@[simp] theorem State.setInvalidLogged_flags (b : Bool) : (s.setInvalidLogged b).flags = s.flags := rfl
@[simp] theorem State.setInvalidLogged_tb (b : Bool) : (s.setInvalidLogged b).tb = s.tb := rfl
@[simp] theorem State.setInvalidLogged_marks (b : Bool) : (s.setInvalidLogged b).marks = s.marks := rfl
@[simp] theorem State.setInvalidLogged_agr (b : Bool) : (s.setInvalidLogged b).agr = s.agr := rfl
@[simp] theorem State.setInvalidLogged_peers (b : Bool) : (s.setInvalidLogged b).peers = s.peers := rfl
@[simp] theorem State.setInvalidLogged_chA (b : Bool) : (s.setInvalidLogged b).chA = s.chA := rfl
@[simp] theorem State.setInvalidLogged_chB (b : Bool) : (s.setInvalidLogged b).chB = s.chB := rfl
@[simp] theorem State.setInvalidLogged_senderSeq (b : Bool) : (s.setInvalidLogged b).senderSeq = s.senderSeq := rfl
@[simp] theorem State.setInvalidLogged_inputs (b : Bool) : (s.setInvalidLogged b).inputs = s.inputs := rfl
@[simp] theorem State.setInvalidLogged_log (b : Bool) : (s.setInvalidLogged b).log = s.log := rfl
@[simp] theorem State.setInvalidLogged_notices (b : Bool) : (s.setInvalidLogged b).notices = s.notices := rfl
@[simp] theorem State.setInvalidLogged_groups (b : Bool) : (s.setInvalidLogged b).groups = s.groups := rfl
@[simp] theorem State.setInvalidLogged_tally (b : Bool) :
    (s.setInvalidLogged b).tally = { s.tally with invalidLogged := b } := rfl
@[simp] theorem State.setInvalidLogged_lockLife (b : Bool) : (s.setInvalidLogged b).lockLife = s.lockLife := rfl
@[simp] theorem State.setInvalidLogged_lockService (b : Bool) :
    (s.setInvalidLogged b).lockService = s.lockService := rfl
@[simp] theorem State.setInvalidLogged_shift (b : Bool) : (s.setInvalidLogged b).shift = s.shift := rfl
@[simp] theorem State.setInvalidLogged_store (b : Bool) : (s.setInvalidLogged b).store = s.store := rfl
@[simp] theorem State.setInvalidLogged_supply (b : Bool) : (s.setInvalidLogged b).supply = s.supply := rfl
@[simp] theorem State.setInvalidLogged_req (b : Bool) : (s.setInvalidLogged b).req = s.req := rfl
@[simp] theorem State.setInvalidLogged_out (b : Bool) : (s.setInvalidLogged b).out = s.out := rfl
@[simp] theorem State.setInvalidLogged_freeIndex (b : Bool) : (s.setInvalidLogged b).freeIndex = s.freeIndex := rfl

@[simp] theorem State.tick_pending : (s.tick).pending = s.pending := rfl
@[simp] theorem State.tick_phase : (s.tick).phase = s.phase := rfl
@[simp] theorem State.tick_cfg : (s.tick).cfg = s.cfg := rfl
@[simp] theorem State.tick_ownNumber : (s.tick).ownNumber = s.ownNumber := rfl
@[simp] theorem State.tick_console : (s.tick).console = s.console := rfl
@[simp] theorem State.tick_flags : (s.tick).flags = s.flags := rfl
@[simp] theorem State.tick_tb : (s.tick).tb = s.tb.tick := rfl
@[simp] theorem State.tick_marks : (s.tick).marks = s.marks := rfl
@[simp] theorem State.tick_agr : (s.tick).agr = s.agr := rfl
@[simp] theorem State.tick_peers : (s.tick).peers = s.peers := rfl
@[simp] theorem State.tick_chA : (s.tick).chA = s.chA := rfl
@[simp] theorem State.tick_chB : (s.tick).chB = s.chB := rfl
@[simp] theorem State.tick_senderSeq : (s.tick).senderSeq = s.senderSeq := rfl
@[simp] theorem State.tick_inputs : (s.tick).inputs = s.inputs := rfl
@[simp] theorem State.tick_log : (s.tick).log = s.log := rfl
@[simp] theorem State.tick_notices : (s.tick).notices = s.notices := rfl
@[simp] theorem State.tick_groups : (s.tick).groups = s.groups := rfl
@[simp] theorem State.tick_tally : (s.tick).tally = s.tally := rfl
@[simp] theorem State.tick_lockLife : (s.tick).lockLife = s.lockLife := rfl
@[simp] theorem State.tick_lockService : (s.tick).lockService = s.lockService := rfl
@[simp] theorem State.tick_shift : (s.tick).shift = s.shift := rfl
@[simp] theorem State.tick_store : (s.tick).store = s.store := rfl
@[simp] theorem State.tick_supply : (s.tick).supply = s.supply := rfl
@[simp] theorem State.tick_req : (s.tick).req = s.req := rfl
@[simp] theorem State.tick_out : (s.tick).out = s.out := rfl
@[simp] theorem State.tick_freeIndex : (s.tick).freeIndex = s.freeIndex := rfl

@[simp] theorem State.setCandidate_pending (c : Candidate) : (s.setCandidate c).pending = s.pending := rfl
@[simp] theorem State.setCandidate_phase (c : Candidate) : (s.setCandidate c).phase = s.phase := rfl
@[simp] theorem State.setCandidate_cfg (c : Candidate) : (s.setCandidate c).cfg = s.cfg := rfl
@[simp] theorem State.setCandidate_ownNumber (c : Candidate) : (s.setCandidate c).ownNumber = s.ownNumber := rfl
@[simp] theorem State.setCandidate_console (c : Candidate) : (s.setCandidate c).console = s.console := rfl
@[simp] theorem State.setCandidate_flags (c : Candidate) : (s.setCandidate c).flags = s.flags := rfl
@[simp] theorem State.setCandidate_tb (c : Candidate) : (s.setCandidate c).tb = s.tb := rfl
@[simp] theorem State.setCandidate_marks (c : Candidate) : (s.setCandidate c).marks = s.marks := rfl
@[simp] theorem State.setCandidate_agr (c : Candidate) : (s.setCandidate c).agr = s.agr := rfl
@[simp] theorem State.setCandidate_peers (c : Candidate) : (s.setCandidate c).peers = s.peers := rfl
@[simp] theorem State.setCandidate_chA (c : Candidate) : (s.setCandidate c).chA = s.chA := rfl
@[simp] theorem State.setCandidate_chB (c : Candidate) : (s.setCandidate c).chB = s.chB := rfl
@[simp] theorem State.setCandidate_senderSeq (c : Candidate) : (s.setCandidate c).senderSeq = s.senderSeq := rfl
@[simp] theorem State.setCandidate_inputs (c : Candidate) : (s.setCandidate c).inputs = s.inputs := rfl
@[simp] theorem State.setCandidate_log (c : Candidate) : (s.setCandidate c).log = s.log := rfl
@[simp] theorem State.setCandidate_notices (c : Candidate) : (s.setCandidate c).notices = s.notices := rfl
@[simp] theorem State.setCandidate_groups (c : Candidate) : (s.setCandidate c).groups = s.groups := rfl
@[simp] theorem State.setCandidate_tally (c : Candidate) :
    (s.setCandidate c).tally = { s.tally with candidate := some c } := rfl
@[simp] theorem State.setCandidate_lockLife (c : Candidate) : (s.setCandidate c).lockLife = s.lockLife := rfl
@[simp] theorem State.setCandidate_lockService (c : Candidate) : (s.setCandidate c).lockService = s.lockService := rfl
@[simp] theorem State.setCandidate_shift (c : Candidate) : (s.setCandidate c).shift = s.shift := rfl
@[simp] theorem State.setCandidate_store (c : Candidate) : (s.setCandidate c).store = s.store := rfl
@[simp] theorem State.setCandidate_supply (c : Candidate) : (s.setCandidate c).supply = s.supply := rfl
@[simp] theorem State.setCandidate_req (c : Candidate) : (s.setCandidate c).req = s.req := rfl
@[simp] theorem State.setCandidate_out (c : Candidate) : (s.setCandidate c).out = s.out := rfl
@[simp] theorem State.setCandidate_freeIndex (c : Candidate) : (s.setCandidate c).freeIndex = s.freeIndex := rfl

@[simp] theorem State.setServiceDue_pending (b : Bool) : (s.setServiceDue b).pending = s.pending := rfl
@[simp] theorem State.setServiceDue_phase (b : Bool) : (s.setServiceDue b).phase = s.phase := rfl
@[simp] theorem State.setServiceDue_cfg (b : Bool) : (s.setServiceDue b).cfg = s.cfg := rfl
@[simp] theorem State.setServiceDue_ownNumber (b : Bool) : (s.setServiceDue b).ownNumber = s.ownNumber := rfl
@[simp] theorem State.setServiceDue_console (b : Bool) : (s.setServiceDue b).console = s.console := rfl
@[simp] theorem State.setServiceDue_flags (b : Bool) : (s.setServiceDue b).flags = s.flags := rfl
@[simp] theorem State.setServiceDue_tb (b : Bool) : (s.setServiceDue b).tb = s.tb := rfl
@[simp] theorem State.setServiceDue_marks (b : Bool) : (s.setServiceDue b).marks = s.marks := rfl
@[simp] theorem State.setServiceDue_agr (b : Bool) : (s.setServiceDue b).agr = s.agr := rfl
@[simp] theorem State.setServiceDue_peers (b : Bool) : (s.setServiceDue b).peers = s.peers := rfl
@[simp] theorem State.setServiceDue_chA (b : Bool) : (s.setServiceDue b).chA = s.chA := rfl
@[simp] theorem State.setServiceDue_chB (b : Bool) : (s.setServiceDue b).chB = s.chB := rfl
@[simp] theorem State.setServiceDue_senderSeq (b : Bool) : (s.setServiceDue b).senderSeq = s.senderSeq := rfl
@[simp] theorem State.setServiceDue_inputs (b : Bool) : (s.setServiceDue b).inputs = s.inputs := rfl
@[simp] theorem State.setServiceDue_log (b : Bool) : (s.setServiceDue b).log = s.log := rfl
@[simp] theorem State.setServiceDue_notices (b : Bool) : (s.setServiceDue b).notices = s.notices := rfl
@[simp] theorem State.setServiceDue_groups (b : Bool) : (s.setServiceDue b).groups = s.groups := rfl
@[simp] theorem State.setServiceDue_tally (b : Bool) :
    (s.setServiceDue b).tally = { s.tally with serviceDue := b } := rfl
@[simp] theorem State.setServiceDue_lockLife (b : Bool) : (s.setServiceDue b).lockLife = s.lockLife := rfl
@[simp] theorem State.setServiceDue_lockService (b : Bool) : (s.setServiceDue b).lockService = s.lockService := rfl
@[simp] theorem State.setServiceDue_shift (b : Bool) : (s.setServiceDue b).shift = s.shift := rfl
@[simp] theorem State.setServiceDue_store (b : Bool) : (s.setServiceDue b).store = s.store := rfl
@[simp] theorem State.setServiceDue_supply (b : Bool) : (s.setServiceDue b).supply = s.supply := rfl
@[simp] theorem State.setServiceDue_req (b : Bool) : (s.setServiceDue b).req = s.req := rfl
@[simp] theorem State.setServiceDue_out (b : Bool) : (s.setServiceDue b).out = s.out := rfl
@[simp] theorem State.setServiceDue_freeIndex (b : Bool) : (s.setServiceDue b).freeIndex = s.freeIndex := rfl

@[simp] theorem State.settleStatus_pending (n : Nat) : (s.settleStatus n).pending = s.pending := rfl
@[simp] theorem State.settleStatus_phase (n : Nat) : (s.settleStatus n).phase = s.phase := rfl
@[simp] theorem State.settleStatus_cfg (n : Nat) : (s.settleStatus n).cfg = s.cfg := rfl
@[simp] theorem State.settleStatus_ownNumber (n : Nat) : (s.settleStatus n).ownNumber = s.ownNumber := rfl
@[simp] theorem State.settleStatus_console (n : Nat) : (s.settleStatus n).console = s.console := rfl
@[simp] theorem State.settleStatus_flags (n : Nat) : (s.settleStatus n).flags = s.flags := rfl
@[simp] theorem State.settleStatus_tb (n : Nat) : (s.settleStatus n).tb = s.tb := rfl
@[simp] theorem State.settleStatus_marks (n : Nat) : (s.settleStatus n).marks = s.marks := rfl
@[simp] theorem State.settleStatus_agr (n : Nat) : (s.settleStatus n).agr = s.agr := rfl
@[simp] theorem State.settleStatus_peers (n : Nat) : (s.settleStatus n).peers = s.peers := rfl
@[simp] theorem State.settleStatus_chA (n : Nat) : (s.settleStatus n).chA = s.chA := rfl
@[simp] theorem State.settleStatus_chB (n : Nat) : (s.settleStatus n).chB = s.chB := rfl
@[simp] theorem State.settleStatus_senderSeq (n : Nat) : (s.settleStatus n).senderSeq = s.senderSeq := rfl
@[simp] theorem State.settleStatus_inputs (n : Nat) : (s.settleStatus n).inputs = s.inputs := rfl
@[simp] theorem State.settleStatus_log (n : Nat) : (s.settleStatus n).log = s.log := rfl
@[simp] theorem State.settleStatus_notices (n : Nat) : (s.settleStatus n).notices = s.notices := rfl
@[simp] theorem State.settleStatus_groups (n : Nat) : (s.settleStatus n).groups = s.groups := rfl
@[simp] theorem State.settleStatus_tally (n : Nat) :
    (s.settleStatus n).tally = { s.tally with qual := none, qualified := some n } := rfl
@[simp] theorem State.settleStatus_lockLife (n : Nat) : (s.settleStatus n).lockLife = s.lockLife := rfl
@[simp] theorem State.settleStatus_lockService (n : Nat) : (s.settleStatus n).lockService = s.lockService := rfl
@[simp] theorem State.settleStatus_shift (n : Nat) : (s.settleStatus n).shift = s.shift := rfl
@[simp] theorem State.settleStatus_store (n : Nat) : (s.settleStatus n).store = s.store := rfl
@[simp] theorem State.settleStatus_supply (n : Nat) : (s.settleStatus n).supply = s.supply := rfl
@[simp] theorem State.settleStatus_req (n : Nat) : (s.settleStatus n).req = s.req := rfl
@[simp] theorem State.settleStatus_out (n : Nat) : (s.settleStatus n).out = s.out := rfl
@[simp] theorem State.settleStatus_freeIndex (n : Nat) : (s.settleStatus n).freeIndex = s.freeIndex := rfl

@[simp] theorem State.takeMode_pending (m : Mode) : (s.takeMode m).pending = s.pending := rfl
@[simp] theorem State.takeMode_phase (m : Mode) : (s.takeMode m).phase = s.phase := rfl
@[simp] theorem State.takeMode_cfg (m : Mode) : (s.takeMode m).cfg = s.cfg := rfl
@[simp] theorem State.takeMode_ownNumber (m : Mode) : (s.takeMode m).ownNumber = s.ownNumber := rfl
@[simp] theorem State.takeMode_console (m : Mode) : (s.takeMode m).console = s.console := rfl
@[simp] theorem State.takeMode_flags (m : Mode) : (s.takeMode m).flags = s.flags := rfl
@[simp] theorem State.takeMode_tb (m : Mode) : (s.takeMode m).tb = s.tb := rfl
@[simp] theorem State.takeMode_marks (m : Mode) : (s.takeMode m).marks = s.marks := rfl
@[simp] theorem State.takeMode_agr (m : Mode) : (s.takeMode m).agr = s.agr := rfl
@[simp] theorem State.takeMode_peers (m : Mode) : (s.takeMode m).peers = s.peers := rfl
@[simp] theorem State.takeMode_chA (m : Mode) : (s.takeMode m).chA = s.chA := rfl
@[simp] theorem State.takeMode_chB (m : Mode) : (s.takeMode m).chB = s.chB := rfl
@[simp] theorem State.takeMode_senderSeq (m : Mode) : (s.takeMode m).senderSeq = s.senderSeq := rfl
@[simp] theorem State.takeMode_inputs (m : Mode) : (s.takeMode m).inputs = s.inputs := rfl
@[simp] theorem State.takeMode_log (m : Mode) : (s.takeMode m).log = s.log := rfl
@[simp] theorem State.takeMode_notices (m : Mode) : (s.takeMode m).notices = s.notices := rfl
@[simp] theorem State.takeMode_groups (m : Mode) : (s.takeMode m).groups = s.groups := rfl
@[simp] theorem State.takeMode_tally (m : Mode) :
    (s.takeMode m).tally = { s.tally with accepted := m, candidate := none } := rfl
@[simp] theorem State.takeMode_lockLife (m : Mode) : (s.takeMode m).lockLife = s.lockLife := rfl
@[simp] theorem State.takeMode_lockService (m : Mode) : (s.takeMode m).lockService = s.lockService := rfl
@[simp] theorem State.takeMode_shift (m : Mode) : (s.takeMode m).shift = s.shift := rfl
@[simp] theorem State.takeMode_store (m : Mode) : (s.takeMode m).store = s.store := rfl
@[simp] theorem State.takeMode_supply (m : Mode) : (s.takeMode m).supply = s.supply := rfl
@[simp] theorem State.takeMode_req (m : Mode) : (s.takeMode m).req = s.req := rfl
@[simp] theorem State.takeMode_out (m : Mode) : (s.takeMode m).out = s.out := rfl
@[simp] theorem State.takeMode_freeIndex (m : Mode) : (s.takeMode m).freeIndex = s.freeIndex := rfl

@[simp] theorem State.setAssociation_pending (n : Nat) : (s.setAssociation n).pending = s.pending := rfl
@[simp] theorem State.setAssociation_phase (n : Nat) : (s.setAssociation n).phase = s.phase := rfl
@[simp] theorem State.setAssociation_cfg (n : Nat) : (s.setAssociation n).cfg = s.cfg := rfl
@[simp] theorem State.setAssociation_ownNumber (n : Nat) : (s.setAssociation n).ownNumber = s.ownNumber := rfl
@[simp] theorem State.setAssociation_console (n : Nat) : (s.setAssociation n).console = s.console := rfl
@[simp] theorem State.setAssociation_flags (n : Nat) : (s.setAssociation n).flags = s.flags := rfl
@[simp] theorem State.setAssociation_tb (n : Nat) : (s.setAssociation n).tb = s.tb := rfl
@[simp] theorem State.setAssociation_marks (n : Nat) : (s.setAssociation n).marks = s.marks := rfl
@[simp] theorem State.setAssociation_agr (n : Nat) : (s.setAssociation n).agr = s.agr := rfl
@[simp] theorem State.setAssociation_peers (n : Nat) : (s.setAssociation n).peers = s.peers := rfl
@[simp] theorem State.setAssociation_chA (n : Nat) : (s.setAssociation n).chA = s.chA := rfl
@[simp] theorem State.setAssociation_chB (n : Nat) : (s.setAssociation n).chB = s.chB := rfl
@[simp] theorem State.setAssociation_senderSeq (n : Nat) : (s.setAssociation n).senderSeq = s.senderSeq := rfl
@[simp] theorem State.setAssociation_inputs (n : Nat) : (s.setAssociation n).inputs = s.inputs := rfl
@[simp] theorem State.setAssociation_log (n : Nat) : (s.setAssociation n).log = s.log := rfl
@[simp] theorem State.setAssociation_notices (n : Nat) : (s.setAssociation n).notices = s.notices := rfl
@[simp] theorem State.setAssociation_groups (n : Nat) : (s.setAssociation n).groups = s.groups := rfl
@[simp] theorem State.setAssociation_tally (n : Nat) :
    (s.setAssociation n).tally = { s.tally with association := some n } := rfl
@[simp] theorem State.setAssociation_lockLife (n : Nat) : (s.setAssociation n).lockLife = s.lockLife := rfl
@[simp] theorem State.setAssociation_lockService (n : Nat) : (s.setAssociation n).lockService = s.lockService := rfl
@[simp] theorem State.setAssociation_shift (n : Nat) : (s.setAssociation n).shift = s.shift := rfl
@[simp] theorem State.setAssociation_store (n : Nat) : (s.setAssociation n).store = s.store := rfl
@[simp] theorem State.setAssociation_supply (n : Nat) : (s.setAssociation n).supply = s.supply := rfl
@[simp] theorem State.setAssociation_req (n : Nat) : (s.setAssociation n).req = s.req := rfl
@[simp] theorem State.setAssociation_out (n : Nat) : (s.setAssociation n).out = s.out := rfl
@[simp] theorem State.setAssociation_freeIndex (n : Nat) : (s.setAssociation n).freeIndex = s.freeIndex := rfl

@[simp] theorem State.setTally_pending (v : Nat) (t : TallyTarget) : (s.setTally v t).pending = s.pending := rfl
@[simp] theorem State.setTally_phase (v : Nat) (t : TallyTarget) : (s.setTally v t).phase = s.phase := rfl
@[simp] theorem State.setTally_cfg (v : Nat) (t : TallyTarget) : (s.setTally v t).cfg = s.cfg := rfl
@[simp] theorem State.setTally_ownNumber (v : Nat) (t : TallyTarget) : (s.setTally v t).ownNumber = s.ownNumber := rfl
@[simp] theorem State.setTally_console (v : Nat) (t : TallyTarget) : (s.setTally v t).console = s.console := rfl
@[simp] theorem State.setTally_flags (v : Nat) (t : TallyTarget) : (s.setTally v t).flags = s.flags := rfl
@[simp] theorem State.setTally_tb (v : Nat) (t : TallyTarget) : (s.setTally v t).tb = s.tb := rfl
@[simp] theorem State.setTally_marks (v : Nat) (t : TallyTarget) : (s.setTally v t).marks = s.marks := rfl
@[simp] theorem State.setTally_agr (v : Nat) (t : TallyTarget) : (s.setTally v t).agr = s.agr := rfl
@[simp] theorem State.setTally_peers (v : Nat) (t : TallyTarget) : (s.setTally v t).peers = s.peers := rfl
@[simp] theorem State.setTally_chA (v : Nat) (t : TallyTarget) : (s.setTally v t).chA = s.chA := rfl
@[simp] theorem State.setTally_chB (v : Nat) (t : TallyTarget) : (s.setTally v t).chB = s.chB := rfl
@[simp] theorem State.setTally_senderSeq (v : Nat) (t : TallyTarget) : (s.setTally v t).senderSeq = s.senderSeq := rfl
@[simp] theorem State.setTally_inputs (v : Nat) (t : TallyTarget) : (s.setTally v t).inputs = s.inputs := rfl
@[simp] theorem State.setTally_log (v : Nat) (t : TallyTarget) : (s.setTally v t).log = s.log := rfl
@[simp] theorem State.setTally_notices (v : Nat) (t : TallyTarget) : (s.setTally v t).notices = s.notices := rfl
@[simp] theorem State.setTally_groups (v : Nat) (t : TallyTarget) : (s.setTally v t).groups = s.groups := rfl
@[simp] theorem State.setTally_tally (v : Nat) (t : TallyTarget) :
    (s.setTally v t).tally = s.tally.setValue (min v tallyTop) t := rfl
@[simp] theorem State.setTally_lockLife (v : Nat) (t : TallyTarget) : (s.setTally v t).lockLife = s.lockLife := rfl
@[simp] theorem State.setTally_lockService (v : Nat) (t : TallyTarget) :
    (s.setTally v t).lockService = s.lockService := rfl
@[simp] theorem State.setTally_shift (v : Nat) (t : TallyTarget) : (s.setTally v t).shift = s.shift := rfl
@[simp] theorem State.setTally_store (v : Nat) (t : TallyTarget) : (s.setTally v t).store = s.store := rfl
@[simp] theorem State.setTally_supply (v : Nat) (t : TallyTarget) : (s.setTally v t).supply = s.supply := rfl
@[simp] theorem State.setTally_req (v : Nat) (t : TallyTarget) : (s.setTally v t).req = s.req := rfl
@[simp] theorem State.setTally_out (v : Nat) (t : TallyTarget) : (s.setTally v t).out = s.out := rfl
@[simp] theorem State.setTally_freeIndex (v : Nat) (t : TallyTarget) : (s.setTally v t).freeIndex = s.freeIndex := rfl

@[simp] theorem State.setProtect_pending (b : Bool) (t : TallySet) : (s.setProtect b t).pending = s.pending := rfl
@[simp] theorem State.setProtect_phase (b : Bool) (t : TallySet) : (s.setProtect b t).phase = s.phase := rfl
@[simp] theorem State.setProtect_cfg (b : Bool) (t : TallySet) : (s.setProtect b t).cfg = s.cfg := rfl
@[simp] theorem State.setProtect_ownNumber (b : Bool) (t : TallySet) :
    (s.setProtect b t).ownNumber = s.ownNumber := rfl
@[simp] theorem State.setProtect_console (b : Bool) (t : TallySet) : (s.setProtect b t).console = s.console := rfl
@[simp] theorem State.setProtect_flags (b : Bool) (t : TallySet) : (s.setProtect b t).flags = s.flags := rfl
@[simp] theorem State.setProtect_tb (b : Bool) (t : TallySet) : (s.setProtect b t).tb = s.tb := rfl
@[simp] theorem State.setProtect_marks (b : Bool) (t : TallySet) : (s.setProtect b t).marks = s.marks := rfl
@[simp] theorem State.setProtect_agr (b : Bool) (t : TallySet) : (s.setProtect b t).agr = s.agr := rfl
@[simp] theorem State.setProtect_peers (b : Bool) (t : TallySet) : (s.setProtect b t).peers = s.peers := rfl
@[simp] theorem State.setProtect_chA (b : Bool) (t : TallySet) : (s.setProtect b t).chA = s.chA := rfl
@[simp] theorem State.setProtect_chB (b : Bool) (t : TallySet) : (s.setProtect b t).chB = s.chB := rfl
@[simp] theorem State.setProtect_senderSeq (b : Bool) (t : TallySet) :
    (s.setProtect b t).senderSeq = s.senderSeq := rfl
@[simp] theorem State.setProtect_inputs (b : Bool) (t : TallySet) : (s.setProtect b t).inputs = s.inputs := rfl
@[simp] theorem State.setProtect_log (b : Bool) (t : TallySet) : (s.setProtect b t).log = s.log := rfl
@[simp] theorem State.setProtect_notices (b : Bool) (t : TallySet) : (s.setProtect b t).notices = s.notices := rfl
@[simp] theorem State.setProtect_groups (b : Bool) (t : TallySet) : (s.setProtect b t).groups = s.groups := rfl
@[simp] theorem State.setProtect_tally (b : Bool) (t : TallySet) :
    (s.setProtect b t).tally = s.tally.setProtect b t := rfl
@[simp] theorem State.setProtect_lockLife (b : Bool) (t : TallySet) : (s.setProtect b t).lockLife = s.lockLife := rfl
@[simp] theorem State.setProtect_lockService (b : Bool) (t : TallySet) :
    (s.setProtect b t).lockService = s.lockService := rfl
@[simp] theorem State.setProtect_shift (b : Bool) (t : TallySet) : (s.setProtect b t).shift = s.shift := rfl
@[simp] theorem State.setProtect_store (b : Bool) (t : TallySet) : (s.setProtect b t).store = s.store := rfl
@[simp] theorem State.setProtect_supply (b : Bool) (t : TallySet) : (s.setProtect b t).supply = s.supply := rfl
@[simp] theorem State.setProtect_req (b : Bool) (t : TallySet) : (s.setProtect b t).req = s.req := rfl
@[simp] theorem State.setProtect_out (b : Bool) (t : TallySet) : (s.setProtect b t).out = s.out := rfl
@[simp] theorem State.setProtect_freeIndex (b : Bool) (t : TallySet) :
    (s.setProtect b t).freeIndex = s.freeIndex := rfl

@[simp] theorem State.setProtectionFault_pending : (s.setProtectionFault).pending = s.pending := rfl
@[simp] theorem State.setProtectionFault_phase : (s.setProtectionFault).phase = s.phase := rfl
@[simp] theorem State.setProtectionFault_cfg : (s.setProtectionFault).cfg = s.cfg := rfl
@[simp] theorem State.setProtectionFault_ownNumber : (s.setProtectionFault).ownNumber = s.ownNumber := rfl
@[simp] theorem State.setProtectionFault_console : (s.setProtectionFault).console = s.console := rfl
@[simp] theorem State.setProtectionFault_flags :
    (s.setProtectionFault).flags = { s.flags with protectionFault := true } := rfl
@[simp] theorem State.setProtectionFault_tb : (s.setProtectionFault).tb = s.tb := rfl
@[simp] theorem State.setProtectionFault_marks : (s.setProtectionFault).marks = s.marks := rfl
@[simp] theorem State.setProtectionFault_agr : (s.setProtectionFault).agr = s.agr := rfl
@[simp] theorem State.setProtectionFault_peers : (s.setProtectionFault).peers = s.peers := rfl
@[simp] theorem State.setProtectionFault_chA : (s.setProtectionFault).chA = s.chA := rfl
@[simp] theorem State.setProtectionFault_chB : (s.setProtectionFault).chB = s.chB := rfl
@[simp] theorem State.setProtectionFault_senderSeq : (s.setProtectionFault).senderSeq = s.senderSeq := rfl
@[simp] theorem State.setProtectionFault_inputs : (s.setProtectionFault).inputs = s.inputs := rfl
@[simp] theorem State.setProtectionFault_log : (s.setProtectionFault).log = s.log := rfl
@[simp] theorem State.setProtectionFault_notices : (s.setProtectionFault).notices = s.notices := rfl
@[simp] theorem State.setProtectionFault_groups : (s.setProtectionFault).groups = s.groups := rfl
@[simp] theorem State.setProtectionFault_tally : (s.setProtectionFault).tally = s.tally := rfl
@[simp] theorem State.setProtectionFault_lockLife : (s.setProtectionFault).lockLife = s.lockLife := rfl
@[simp] theorem State.setProtectionFault_lockService : (s.setProtectionFault).lockService = s.lockService := rfl
@[simp] theorem State.setProtectionFault_shift : (s.setProtectionFault).shift = s.shift := rfl
@[simp] theorem State.setProtectionFault_store : (s.setProtectionFault).store = s.store := rfl
@[simp] theorem State.setProtectionFault_supply : (s.setProtectionFault).supply = s.supply := rfl
@[simp] theorem State.setProtectionFault_req : (s.setProtectionFault).req = s.req := rfl
@[simp] theorem State.setProtectionFault_out : (s.setProtectionFault).out = s.out := rfl
@[simp] theorem State.setProtectionFault_freeIndex : (s.setProtectionFault).freeIndex = s.freeIndex := rfl

@[simp] theorem State.moveTallies_pending (c : Candidate) : (s.moveTallies c).pending = s.pending := rfl
@[simp] theorem State.moveTallies_phase (c : Candidate) : (s.moveTallies c).phase = s.phase := rfl
@[simp] theorem State.moveTallies_cfg (c : Candidate) : (s.moveTallies c).cfg = s.cfg := rfl
@[simp] theorem State.moveTallies_ownNumber (c : Candidate) : (s.moveTallies c).ownNumber = s.ownNumber := rfl
@[simp] theorem State.moveTallies_console (c : Candidate) : (s.moveTallies c).console = s.console := rfl
@[simp] theorem State.moveTallies_flags (c : Candidate) : (s.moveTallies c).flags = s.flags := rfl
@[simp] theorem State.moveTallies_tb (c : Candidate) : (s.moveTallies c).tb = s.tb := rfl
@[simp] theorem State.moveTallies_marks (c : Candidate) : (s.moveTallies c).marks = s.marks := rfl
@[simp] theorem State.moveTallies_agr (c : Candidate) : (s.moveTallies c).agr = s.agr := rfl
@[simp] theorem State.moveTallies_peers (c : Candidate) : (s.moveTallies c).peers = s.peers := rfl
@[simp] theorem State.moveTallies_chA (c : Candidate) : (s.moveTallies c).chA = s.chA := rfl
@[simp] theorem State.moveTallies_chB (c : Candidate) : (s.moveTallies c).chB = s.chB := rfl
@[simp] theorem State.moveTallies_senderSeq (c : Candidate) : (s.moveTallies c).senderSeq = s.senderSeq := rfl
@[simp] theorem State.moveTallies_inputs (c : Candidate) : (s.moveTallies c).inputs = s.inputs := rfl
@[simp] theorem State.moveTallies_log (c : Candidate) : (s.moveTallies c).log = s.log := rfl
@[simp] theorem State.moveTallies_notices (c : Candidate) : (s.moveTallies c).notices = s.notices := rfl
@[simp] theorem State.moveTallies_groups (c : Candidate) : (s.moveTallies c).groups = s.groups := rfl
@[simp] theorem State.moveTallies_tally (c : Candidate) :
    (s.moveTallies c).tally = s.tally.acceptMode c (s.tripStop c) (s.normalStop c) := rfl
@[simp] theorem State.moveTallies_lockLife (c : Candidate) : (s.moveTallies c).lockLife = s.lockLife := rfl
@[simp] theorem State.moveTallies_lockService (c : Candidate) : (s.moveTallies c).lockService = s.lockService := rfl
@[simp] theorem State.moveTallies_shift (c : Candidate) :
    (s.moveTallies c).shift = 
      { s.shift with current := s.shift.current.acceptMode s.tally.accepted c (s.tripStop c) (s.normalStop c) } := rfl
@[simp] theorem State.moveTallies_store (c : Candidate) : (s.moveTallies c).store = s.store := rfl
@[simp] theorem State.moveTallies_supply (c : Candidate) : (s.moveTallies c).supply = s.supply := rfl
@[simp] theorem State.moveTallies_req (c : Candidate) : (s.moveTallies c).req = s.req := rfl
@[simp] theorem State.moveTallies_out (c : Candidate) : (s.moveTallies c).out = s.out := rfl
@[simp] theorem State.moveTallies_freeIndex (c : Candidate) : (s.moveTallies c).freeIndex = s.freeIndex := rfl

@[simp] theorem State.creditTallies_pending : (s.creditTallies).pending = s.pending := rfl
@[simp] theorem State.creditTallies_phase : (s.creditTallies).phase = s.phase := rfl
@[simp] theorem State.creditTallies_cfg : (s.creditTallies).cfg = s.cfg := rfl
@[simp] theorem State.creditTallies_ownNumber : (s.creditTallies).ownNumber = s.ownNumber := rfl
@[simp] theorem State.creditTallies_console : (s.creditTallies).console = s.console := rfl
@[simp] theorem State.creditTallies_flags : (s.creditTallies).flags = s.flags := rfl
@[simp] theorem State.creditTallies_tb : (s.creditTallies).tb = s.tb := rfl
@[simp] theorem State.creditTallies_marks : (s.creditTallies).marks = s.marks := rfl
@[simp] theorem State.creditTallies_agr : (s.creditTallies).agr = s.agr := rfl
@[simp] theorem State.creditTallies_peers : (s.creditTallies).peers = s.peers := rfl
@[simp] theorem State.creditTallies_chA : (s.creditTallies).chA = s.chA := rfl
@[simp] theorem State.creditTallies_chB : (s.creditTallies).chB = s.chB := rfl
@[simp] theorem State.creditTallies_senderSeq : (s.creditTallies).senderSeq = s.senderSeq := rfl
@[simp] theorem State.creditTallies_inputs : (s.creditTallies).inputs = s.inputs := rfl
@[simp] theorem State.creditTallies_log : (s.creditTallies).log = s.log := rfl
@[simp] theorem State.creditTallies_notices : (s.creditTallies).notices = s.notices := rfl
@[simp] theorem State.creditTallies_groups : (s.creditTallies).groups = s.groups := rfl
@[simp] theorem State.creditTallies_tally :
    (s.creditTallies).tally = s.tally.credit s.tb.elapsed (decide (s.shift.current.powered < durationTop)) := rfl
@[simp] theorem State.creditTallies_lockLife : (s.creditTallies).lockLife = s.lockLife := rfl
@[simp] theorem State.creditTallies_lockService : (s.creditTallies).lockService = s.lockService := rfl
@[simp] theorem State.creditTallies_shift :
    (s.creditTallies).shift = { s.shift with current := s.shift.current.credit s.tally.accepted } := rfl
@[simp] theorem State.creditTallies_store : (s.creditTallies).store = s.store := rfl
@[simp] theorem State.creditTallies_supply : (s.creditTallies).supply = s.supply := rfl
@[simp] theorem State.creditTallies_req : (s.creditTallies).req = s.req := rfl
@[simp] theorem State.creditTallies_out : (s.creditTallies).out = s.out := rfl
@[simp] theorem State.creditTallies_freeIndex : (s.creditTallies).freeIndex = s.freeIndex := rfl

@[simp] theorem State.openShift_pending (r : ShiftRecord) : (s.openShift r).pending = s.pending := rfl
@[simp] theorem State.openShift_phase (r : ShiftRecord) : (s.openShift r).phase = s.phase := rfl
@[simp] theorem State.openShift_cfg (r : ShiftRecord) : (s.openShift r).cfg = s.cfg := rfl
@[simp] theorem State.openShift_ownNumber (r : ShiftRecord) : (s.openShift r).ownNumber = s.ownNumber := rfl
@[simp] theorem State.openShift_console (r : ShiftRecord) : (s.openShift r).console = s.console := rfl
@[simp] theorem State.openShift_flags (r : ShiftRecord) : (s.openShift r).flags = s.flags := rfl
@[simp] theorem State.openShift_tb (r : ShiftRecord) : (s.openShift r).tb = s.tb := rfl
@[simp] theorem State.openShift_marks (r : ShiftRecord) : (s.openShift r).marks = s.marks := rfl
@[simp] theorem State.openShift_agr (r : ShiftRecord) : (s.openShift r).agr = s.agr := rfl
@[simp] theorem State.openShift_peers (r : ShiftRecord) : (s.openShift r).peers = s.peers := rfl
@[simp] theorem State.openShift_chA (r : ShiftRecord) : (s.openShift r).chA = s.chA := rfl
@[simp] theorem State.openShift_chB (r : ShiftRecord) : (s.openShift r).chB = s.chB := rfl
@[simp] theorem State.openShift_senderSeq (r : ShiftRecord) : (s.openShift r).senderSeq = s.senderSeq := rfl
@[simp] theorem State.openShift_inputs (r : ShiftRecord) : (s.openShift r).inputs = s.inputs := rfl
@[simp] theorem State.openShift_log (r : ShiftRecord) : (s.openShift r).log = s.log := rfl
@[simp] theorem State.openShift_notices (r : ShiftRecord) : (s.openShift r).notices = s.notices := rfl
@[simp] theorem State.openShift_groups (r : ShiftRecord) : (s.openShift r).groups = s.groups := rfl
@[simp] theorem State.openShift_tally (r : ShiftRecord) : (s.openShift r).tally = s.tally := rfl
@[simp] theorem State.openShift_lockLife (r : ShiftRecord) : (s.openShift r).lockLife = s.lockLife := rfl
@[simp] theorem State.openShift_lockService (r : ShiftRecord) : (s.openShift r).lockService = s.lockService := rfl
@[simp] theorem State.openShift_shift (r : ShiftRecord) :
    (s.openShift r).shift = { s.shift with current := r, state := .running } := rfl
@[simp] theorem State.openShift_store (r : ShiftRecord) : (s.openShift r).store = s.store := rfl
@[simp] theorem State.openShift_supply (r : ShiftRecord) : (s.openShift r).supply = s.supply := rfl
@[simp] theorem State.openShift_req (r : ShiftRecord) : (s.openShift r).req = s.req := rfl
@[simp] theorem State.openShift_out (r : ShiftRecord) : (s.openShift r).out = s.out := rfl
@[simp] theorem State.openShift_freeIndex (r : ShiftRecord) : (s.openShift r).freeIndex = s.freeIndex := rfl

@[simp] theorem State.setHandover_pending (h : HandoverState) : (s.setHandover h).pending = s.pending := rfl
@[simp] theorem State.setHandover_phase (h : HandoverState) : (s.setHandover h).phase = s.phase := rfl
@[simp] theorem State.setHandover_cfg (h : HandoverState) : (s.setHandover h).cfg = s.cfg := rfl
@[simp] theorem State.setHandover_ownNumber (h : HandoverState) : (s.setHandover h).ownNumber = s.ownNumber := rfl
@[simp] theorem State.setHandover_console (h : HandoverState) : (s.setHandover h).console = s.console := rfl
@[simp] theorem State.setHandover_flags (h : HandoverState) : (s.setHandover h).flags = s.flags := rfl
@[simp] theorem State.setHandover_tb (h : HandoverState) : (s.setHandover h).tb = s.tb := rfl
@[simp] theorem State.setHandover_marks (h : HandoverState) : (s.setHandover h).marks = s.marks := rfl
@[simp] theorem State.setHandover_agr (h : HandoverState) : (s.setHandover h).agr = s.agr := rfl
@[simp] theorem State.setHandover_peers (h : HandoverState) : (s.setHandover h).peers = s.peers := rfl
@[simp] theorem State.setHandover_chA (h : HandoverState) : (s.setHandover h).chA = s.chA := rfl
@[simp] theorem State.setHandover_chB (h : HandoverState) : (s.setHandover h).chB = s.chB := rfl
@[simp] theorem State.setHandover_senderSeq (h : HandoverState) : (s.setHandover h).senderSeq = s.senderSeq := rfl
@[simp] theorem State.setHandover_inputs (h : HandoverState) : (s.setHandover h).inputs = s.inputs := rfl
@[simp] theorem State.setHandover_log (h : HandoverState) : (s.setHandover h).log = s.log := rfl
@[simp] theorem State.setHandover_notices (h : HandoverState) : (s.setHandover h).notices = s.notices := rfl
@[simp] theorem State.setHandover_groups (h : HandoverState) : (s.setHandover h).groups = s.groups := rfl
@[simp] theorem State.setHandover_tally (h : HandoverState) : (s.setHandover h).tally = s.tally := rfl
@[simp] theorem State.setHandover_lockLife (h : HandoverState) : (s.setHandover h).lockLife = s.lockLife := rfl
@[simp] theorem State.setHandover_lockService (h : HandoverState) :
    (s.setHandover h).lockService = s.lockService := rfl
@[simp] theorem State.setHandover_shift (h : HandoverState) :
    (s.setHandover h).shift = { s.shift with state := h } := rfl
@[simp] theorem State.setHandover_store (h : HandoverState) : (s.setHandover h).store = s.store := rfl
@[simp] theorem State.setHandover_supply (h : HandoverState) : (s.setHandover h).supply = s.supply := rfl
@[simp] theorem State.setHandover_req (h : HandoverState) : (s.setHandover h).req = s.req := rfl
@[simp] theorem State.setHandover_out (h : HandoverState) : (s.setHandover h).out = s.out := rfl
@[simp] theorem State.setHandover_freeIndex (h : HandoverState) : (s.setHandover h).freeIndex = s.freeIndex := rfl

@[simp] theorem State.endDeferral_pending : (s.endDeferral).pending = s.pending := rfl
@[simp] theorem State.endDeferral_phase : (s.endDeferral).phase = s.phase := rfl
@[simp] theorem State.endDeferral_cfg : (s.endDeferral).cfg = s.cfg := rfl
@[simp] theorem State.endDeferral_ownNumber : (s.endDeferral).ownNumber = s.ownNumber := rfl
@[simp] theorem State.endDeferral_console : (s.endDeferral).console = s.console := rfl
@[simp] theorem State.endDeferral_flags : (s.endDeferral).flags = s.flags := rfl
@[simp] theorem State.endDeferral_tb : (s.endDeferral).tb = s.tb := rfl
@[simp] theorem State.endDeferral_marks : (s.endDeferral).marks = s.marks := rfl
@[simp] theorem State.endDeferral_agr : (s.endDeferral).agr = s.agr := rfl
@[simp] theorem State.endDeferral_peers : (s.endDeferral).peers = s.peers := rfl
@[simp] theorem State.endDeferral_chA : (s.endDeferral).chA = s.chA := rfl
@[simp] theorem State.endDeferral_chB : (s.endDeferral).chB = s.chB := rfl
@[simp] theorem State.endDeferral_senderSeq : (s.endDeferral).senderSeq = s.senderSeq := rfl
@[simp] theorem State.endDeferral_inputs : (s.endDeferral).inputs = s.inputs := rfl
@[simp] theorem State.endDeferral_log : (s.endDeferral).log = s.log := rfl
@[simp] theorem State.endDeferral_notices : (s.endDeferral).notices = s.notices := rfl
@[simp] theorem State.endDeferral_groups : (s.endDeferral).groups = s.groups := rfl
@[simp] theorem State.endDeferral_tally : (s.endDeferral).tally = s.tally := rfl
@[simp] theorem State.endDeferral_lockLife : (s.endDeferral).lockLife = s.lockLife := rfl
@[simp] theorem State.endDeferral_lockService : (s.endDeferral).lockService = s.lockService := rfl
@[simp] theorem State.endDeferral_shift :
    (s.endDeferral).shift = { s.shift with deferred := false, recovered := none } := rfl
@[simp] theorem State.endDeferral_store : (s.endDeferral).store = s.store := rfl
@[simp] theorem State.endDeferral_supply : (s.endDeferral).supply = s.supply := rfl
@[simp] theorem State.endDeferral_req : (s.endDeferral).req = s.req := rfl
@[simp] theorem State.endDeferral_out : (s.endDeferral).out = s.out := rfl
@[simp] theorem State.endDeferral_freeIndex : (s.endDeferral).freeIndex = s.freeIndex := rfl

@[simp] theorem State.countFirstOut_pending : (s.countFirstOut).pending = s.pending := rfl
@[simp] theorem State.countFirstOut_phase : (s.countFirstOut).phase = s.phase := rfl
@[simp] theorem State.countFirstOut_cfg : (s.countFirstOut).cfg = s.cfg := rfl
@[simp] theorem State.countFirstOut_ownNumber : (s.countFirstOut).ownNumber = s.ownNumber := rfl
@[simp] theorem State.countFirstOut_console : (s.countFirstOut).console = s.console := rfl
@[simp] theorem State.countFirstOut_flags : (s.countFirstOut).flags = s.flags := rfl
@[simp] theorem State.countFirstOut_tb : (s.countFirstOut).tb = s.tb := rfl
@[simp] theorem State.countFirstOut_marks : (s.countFirstOut).marks = s.marks := rfl
@[simp] theorem State.countFirstOut_agr : (s.countFirstOut).agr = s.agr := rfl
@[simp] theorem State.countFirstOut_peers : (s.countFirstOut).peers = s.peers := rfl
@[simp] theorem State.countFirstOut_chA : (s.countFirstOut).chA = s.chA := rfl
@[simp] theorem State.countFirstOut_chB : (s.countFirstOut).chB = s.chB := rfl
@[simp] theorem State.countFirstOut_senderSeq : (s.countFirstOut).senderSeq = s.senderSeq := rfl
@[simp] theorem State.countFirstOut_inputs : (s.countFirstOut).inputs = s.inputs := rfl
@[simp] theorem State.countFirstOut_log : (s.countFirstOut).log = s.log := rfl
@[simp] theorem State.countFirstOut_notices : (s.countFirstOut).notices = s.notices := rfl
@[simp] theorem State.countFirstOut_groups : (s.countFirstOut).groups = s.groups := rfl
@[simp] theorem State.countFirstOut_tally : (s.countFirstOut).tally = s.tally := rfl
@[simp] theorem State.countFirstOut_lockLife : (s.countFirstOut).lockLife = s.lockLife := rfl
@[simp] theorem State.countFirstOut_lockService : (s.countFirstOut).lockService = s.lockService := rfl
@[simp] theorem State.countFirstOut_shift :
    (s.countFirstOut).shift = 
      { s.shift with current := { s.shift.current with firstOuts := satInc 16777215 s.shift.current.firstOuts } } := rfl
@[simp] theorem State.countFirstOut_store : (s.countFirstOut).store = s.store := rfl
@[simp] theorem State.countFirstOut_supply : (s.countFirstOut).supply = s.supply := rfl
@[simp] theorem State.countFirstOut_req : (s.countFirstOut).req = s.req := rfl
@[simp] theorem State.countFirstOut_out : (s.countFirstOut).out = s.out := rfl
@[simp] theorem State.countFirstOut_freeIndex : (s.countFirstOut).freeIndex = s.freeIndex := rfl

@[simp] theorem State.jump_pending (n : Nat) (a : AgreementState) : (s.jump n a).pending = s.pending := rfl
@[simp] theorem State.jump_phase (n : Nat) (a : AgreementState) : (s.jump n a).phase = s.phase := rfl
@[simp] theorem State.jump_cfg (n : Nat) (a : AgreementState) : (s.jump n a).cfg = s.cfg := rfl
@[simp] theorem State.jump_ownNumber (n : Nat) (a : AgreementState) : (s.jump n a).ownNumber = s.ownNumber := rfl
@[simp] theorem State.jump_console (n : Nat) (a : AgreementState) : (s.jump n a).console = s.console := rfl
@[simp] theorem State.jump_flags (n : Nat) (a : AgreementState) : (s.jump n a).flags = s.flags := rfl
@[simp] theorem State.jump_tb (n : Nat) (a : AgreementState) :
    (s.jump n a).tb = s.tb.stepTo s.cfg.roundLength n := rfl
@[simp] theorem State.jump_marks (n : Nat) (a : AgreementState) :
    (s.jump n a).marks = { s.marks with phase := none } := rfl
@[simp] theorem State.jump_agr (n : Nat) (a : AgreementState) : (s.jump n a).agr = { s.agr with state := a } := rfl
@[simp] theorem State.jump_peers (n : Nat) (a : AgreementState) :
    (s.jump n a).peers = s.peers.map Peer.clearRound := rfl
@[simp] theorem State.jump_chA (n : Nat) (a : AgreementState) : (s.jump n a).chA = s.chA := rfl
@[simp] theorem State.jump_chB (n : Nat) (a : AgreementState) : (s.jump n a).chB = s.chB := rfl
@[simp] theorem State.jump_senderSeq (n : Nat) (a : AgreementState) : (s.jump n a).senderSeq = s.senderSeq := rfl
@[simp] theorem State.jump_inputs (n : Nat) (a : AgreementState) : (s.jump n a).inputs = s.inputs := rfl
@[simp] theorem State.jump_log (n : Nat) (a : AgreementState) : (s.jump n a).log = s.log := rfl
@[simp] theorem State.jump_notices (n : Nat) (a : AgreementState) : (s.jump n a).notices = s.notices := rfl
@[simp] theorem State.jump_groups (n : Nat) (a : AgreementState) : (s.jump n a).groups = s.groups := rfl
@[simp] theorem State.jump_tally (n : Nat) (a : AgreementState) : (s.jump n a).tally = s.tally := rfl
@[simp] theorem State.jump_lockLife (n : Nat) (a : AgreementState) : (s.jump n a).lockLife = s.lockLife := rfl
@[simp] theorem State.jump_lockService (n : Nat) (a : AgreementState) :
    (s.jump n a).lockService = s.lockService := rfl
@[simp] theorem State.jump_shift (n : Nat) (a : AgreementState) : (s.jump n a).shift = s.shift := rfl
@[simp] theorem State.jump_store (n : Nat) (a : AgreementState) : (s.jump n a).store = s.store := rfl
@[simp] theorem State.jump_supply (n : Nat) (a : AgreementState) : (s.jump n a).supply = s.supply := rfl
@[simp] theorem State.jump_req (n : Nat) (a : AgreementState) : (s.jump n a).req = s.req := rfl
@[simp] theorem State.jump_out (n : Nat) (a : AgreementState) : (s.jump n a).out = s.out := rfl
@[simp] theorem State.jump_freeIndex (n : Nat) (a : AgreementState) : (s.jump n a).freeIndex = s.freeIndex := rfl

@[simp] theorem State.setCounts_pending (d : Decision) : (s.setCounts d).pending = s.pending := rfl
@[simp] theorem State.setCounts_phase (d : Decision) : (s.setCounts d).phase = s.phase := rfl
@[simp] theorem State.setCounts_cfg (d : Decision) : (s.setCounts d).cfg = s.cfg := rfl
@[simp] theorem State.setCounts_ownNumber (d : Decision) : (s.setCounts d).ownNumber = s.ownNumber := rfl
@[simp] theorem State.setCounts_console (d : Decision) : (s.setCounts d).console = s.console := rfl
@[simp] theorem State.setCounts_flags (d : Decision) : (s.setCounts d).flags = s.flags := rfl
@[simp] theorem State.setCounts_tb (d : Decision) :
    (s.setCounts d).tb = { s.tb with secondsKnown := s.tb.secondsKnown || d.known } := rfl
@[simp] theorem State.setCounts_marks (d : Decision) : (s.setCounts d).marks = s.marks := rfl
@[simp] theorem State.setCounts_agr (d : Decision) :
    (s.setCounts d).agr = { s.agr with good := d.good, disagree := d.disagree, holdover := d.holdover } := rfl
@[simp] theorem State.setCounts_peers (d : Decision) : (s.setCounts d).peers = s.peers := rfl
@[simp] theorem State.setCounts_chA (d : Decision) : (s.setCounts d).chA = s.chA := rfl
@[simp] theorem State.setCounts_chB (d : Decision) : (s.setCounts d).chB = s.chB := rfl
@[simp] theorem State.setCounts_senderSeq (d : Decision) : (s.setCounts d).senderSeq = s.senderSeq := rfl
@[simp] theorem State.setCounts_inputs (d : Decision) : (s.setCounts d).inputs = s.inputs := rfl
@[simp] theorem State.setCounts_log (d : Decision) : (s.setCounts d).log = s.log := rfl
@[simp] theorem State.setCounts_notices (d : Decision) : (s.setCounts d).notices = s.notices := rfl
@[simp] theorem State.setCounts_groups (d : Decision) : (s.setCounts d).groups = s.groups := rfl
@[simp] theorem State.setCounts_tally (d : Decision) : (s.setCounts d).tally = s.tally := rfl
@[simp] theorem State.setCounts_lockLife (d : Decision) : (s.setCounts d).lockLife = s.lockLife := rfl
@[simp] theorem State.setCounts_lockService (d : Decision) : (s.setCounts d).lockService = s.lockService := rfl
@[simp] theorem State.setCounts_shift (d : Decision) : (s.setCounts d).shift = s.shift := rfl
@[simp] theorem State.setCounts_store (d : Decision) : (s.setCounts d).store = s.store := rfl
@[simp] theorem State.setCounts_supply (d : Decision) : (s.setCounts d).supply = s.supply := rfl
@[simp] theorem State.setCounts_req (d : Decision) : (s.setCounts d).req = s.req := rfl
@[simp] theorem State.setCounts_out (d : Decision) : (s.setCounts d).out = s.out := rfl
@[simp] theorem State.setCounts_freeIndex (d : Decision) : (s.setCounts d).freeIndex = s.freeIndex := rfl

@[simp] theorem State.setAgreement_pending (a : AgreementState) : (s.setAgreement a).pending = s.pending := rfl
@[simp] theorem State.setAgreement_phase (a : AgreementState) : (s.setAgreement a).phase = s.phase := rfl
@[simp] theorem State.setAgreement_cfg (a : AgreementState) : (s.setAgreement a).cfg = s.cfg := rfl
@[simp] theorem State.setAgreement_ownNumber (a : AgreementState) : (s.setAgreement a).ownNumber = s.ownNumber := rfl
@[simp] theorem State.setAgreement_console (a : AgreementState) : (s.setAgreement a).console = s.console := rfl
@[simp] theorem State.setAgreement_flags (a : AgreementState) : (s.setAgreement a).flags = s.flags := rfl
@[simp] theorem State.setAgreement_tb (a : AgreementState) : (s.setAgreement a).tb = s.tb := rfl
@[simp] theorem State.setAgreement_marks (a : AgreementState) : (s.setAgreement a).marks = s.marks := rfl
@[simp] theorem State.setAgreement_agr (a : AgreementState) :
    (s.setAgreement a).agr = { s.agr with state := a } := rfl
@[simp] theorem State.setAgreement_peers (a : AgreementState) : (s.setAgreement a).peers = s.peers := rfl
@[simp] theorem State.setAgreement_chA (a : AgreementState) : (s.setAgreement a).chA = s.chA := rfl
@[simp] theorem State.setAgreement_chB (a : AgreementState) : (s.setAgreement a).chB = s.chB := rfl
@[simp] theorem State.setAgreement_senderSeq (a : AgreementState) : (s.setAgreement a).senderSeq = s.senderSeq := rfl
@[simp] theorem State.setAgreement_inputs (a : AgreementState) : (s.setAgreement a).inputs = s.inputs := rfl
@[simp] theorem State.setAgreement_log (a : AgreementState) : (s.setAgreement a).log = s.log := rfl
@[simp] theorem State.setAgreement_notices (a : AgreementState) : (s.setAgreement a).notices = s.notices := rfl
@[simp] theorem State.setAgreement_groups (a : AgreementState) : (s.setAgreement a).groups = s.groups := rfl
@[simp] theorem State.setAgreement_tally (a : AgreementState) : (s.setAgreement a).tally = s.tally := rfl
@[simp] theorem State.setAgreement_lockLife (a : AgreementState) : (s.setAgreement a).lockLife = s.lockLife := rfl
@[simp] theorem State.setAgreement_lockService (a : AgreementState) :
    (s.setAgreement a).lockService = s.lockService := rfl
@[simp] theorem State.setAgreement_shift (a : AgreementState) : (s.setAgreement a).shift = s.shift := rfl
@[simp] theorem State.setAgreement_store (a : AgreementState) : (s.setAgreement a).store = s.store := rfl
@[simp] theorem State.setAgreement_supply (a : AgreementState) : (s.setAgreement a).supply = s.supply := rfl
@[simp] theorem State.setAgreement_req (a : AgreementState) : (s.setAgreement a).req = s.req := rfl
@[simp] theorem State.setAgreement_out (a : AgreementState) : (s.setAgreement a).out = s.out := rfl
@[simp] theorem State.setAgreement_freeIndex (a : AgreementState) : (s.setAgreement a).freeIndex = s.freeIndex := rfl

@[simp] theorem State.mapPeers_pending (f : Peer → Peer) : (s.mapPeers f).pending = s.pending := rfl
@[simp] theorem State.mapPeers_phase (f : Peer → Peer) : (s.mapPeers f).phase = s.phase := rfl
@[simp] theorem State.mapPeers_cfg (f : Peer → Peer) : (s.mapPeers f).cfg = s.cfg := rfl
@[simp] theorem State.mapPeers_ownNumber (f : Peer → Peer) : (s.mapPeers f).ownNumber = s.ownNumber := rfl
@[simp] theorem State.mapPeers_console (f : Peer → Peer) : (s.mapPeers f).console = s.console := rfl
@[simp] theorem State.mapPeers_flags (f : Peer → Peer) : (s.mapPeers f).flags = s.flags := rfl
@[simp] theorem State.mapPeers_tb (f : Peer → Peer) : (s.mapPeers f).tb = s.tb := rfl
@[simp] theorem State.mapPeers_marks (f : Peer → Peer) : (s.mapPeers f).marks = s.marks := rfl
@[simp] theorem State.mapPeers_agr (f : Peer → Peer) : (s.mapPeers f).agr = s.agr := rfl
@[simp] theorem State.mapPeers_peers (f : Peer → Peer) : (s.mapPeers f).peers = s.peers.map f := rfl
@[simp] theorem State.mapPeers_chA (f : Peer → Peer) : (s.mapPeers f).chA = s.chA := rfl
@[simp] theorem State.mapPeers_chB (f : Peer → Peer) : (s.mapPeers f).chB = s.chB := rfl
@[simp] theorem State.mapPeers_senderSeq (f : Peer → Peer) : (s.mapPeers f).senderSeq = s.senderSeq := rfl
@[simp] theorem State.mapPeers_inputs (f : Peer → Peer) : (s.mapPeers f).inputs = s.inputs := rfl
@[simp] theorem State.mapPeers_log (f : Peer → Peer) : (s.mapPeers f).log = s.log := rfl
@[simp] theorem State.mapPeers_notices (f : Peer → Peer) : (s.mapPeers f).notices = s.notices := rfl
@[simp] theorem State.mapPeers_groups (f : Peer → Peer) : (s.mapPeers f).groups = s.groups := rfl
@[simp] theorem State.mapPeers_tally (f : Peer → Peer) : (s.mapPeers f).tally = s.tally := rfl
@[simp] theorem State.mapPeers_lockLife (f : Peer → Peer) : (s.mapPeers f).lockLife = s.lockLife := rfl
@[simp] theorem State.mapPeers_lockService (f : Peer → Peer) : (s.mapPeers f).lockService = s.lockService := rfl
@[simp] theorem State.mapPeers_shift (f : Peer → Peer) : (s.mapPeers f).shift = s.shift := rfl
@[simp] theorem State.mapPeers_store (f : Peer → Peer) : (s.mapPeers f).store = s.store := rfl
@[simp] theorem State.mapPeers_supply (f : Peer → Peer) : (s.mapPeers f).supply = s.supply := rfl
@[simp] theorem State.mapPeers_req (f : Peer → Peer) : (s.mapPeers f).req = s.req := rfl
@[simp] theorem State.mapPeers_out (f : Peer → Peer) : (s.mapPeers f).out = s.out := rfl
@[simp] theorem State.mapPeers_freeIndex (f : Peer → Peer) : (s.mapPeers f).freeIndex = s.freeIndex := rfl

@[simp] theorem State.endHold_pending : (s.endHold).pending = s.pending := rfl
@[simp] theorem State.endHold_phase : (s.endHold).phase = s.phase := rfl
@[simp] theorem State.endHold_cfg : (s.endHold).cfg = s.cfg := rfl
@[simp] theorem State.endHold_ownNumber : (s.endHold).ownNumber = s.ownNumber := rfl
@[simp] theorem State.endHold_console : (s.endHold).console = s.console := rfl
@[simp] theorem State.endHold_flags : (s.endHold).flags = s.flags := rfl
@[simp] theorem State.endHold_tb : (s.endHold).tb = { s.tb with hold := none } := rfl
@[simp] theorem State.endHold_marks : (s.endHold).marks = s.marks := rfl
@[simp] theorem State.endHold_agr : (s.endHold).agr = s.agr := rfl
@[simp] theorem State.endHold_peers : (s.endHold).peers = s.peers := rfl
@[simp] theorem State.endHold_chA : (s.endHold).chA = s.chA.judgeDegraded := rfl
@[simp] theorem State.endHold_chB : (s.endHold).chB = s.chB.judgeDegraded := rfl
@[simp] theorem State.endHold_senderSeq : (s.endHold).senderSeq = s.senderSeq := rfl
@[simp] theorem State.endHold_inputs : (s.endHold).inputs = s.inputs := rfl
@[simp] theorem State.endHold_log : (s.endHold).log = s.log := rfl
@[simp] theorem State.endHold_notices : (s.endHold).notices = s.notices := rfl
@[simp] theorem State.endHold_groups : (s.endHold).groups = s.groups := rfl
@[simp] theorem State.endHold_tally : (s.endHold).tally = s.tally := rfl
@[simp] theorem State.endHold_lockLife : (s.endHold).lockLife = s.lockLife := rfl
@[simp] theorem State.endHold_lockService : (s.endHold).lockService = s.lockService := rfl
@[simp] theorem State.endHold_shift : (s.endHold).shift = s.shift := rfl
@[simp] theorem State.endHold_store : (s.endHold).store = s.store := rfl
@[simp] theorem State.endHold_supply : (s.endHold).supply = s.supply := rfl
@[simp] theorem State.endHold_req : (s.endHold).req = s.req := rfl
@[simp] theorem State.endHold_out : (s.endHold).out = s.out := rfl
@[simp] theorem State.endHold_freeIndex : (s.endHold).freeIndex = s.freeIndex := rfl

@[simp] theorem State.takeSecond_pending : (s.takeSecond).pending = s.pending := rfl
@[simp] theorem State.takeSecond_phase : (s.takeSecond).phase = s.phase := rfl
@[simp] theorem State.takeSecond_cfg : (s.takeSecond).cfg = s.cfg := rfl
@[simp] theorem State.takeSecond_ownNumber : (s.takeSecond).ownNumber = s.ownNumber := rfl
@[simp] theorem State.takeSecond_console : (s.takeSecond).console = s.console := rfl
@[simp] theorem State.takeSecond_flags : (s.takeSecond).flags = s.flags := rfl
@[simp] theorem State.takeSecond_tb : (s.takeSecond).tb = { s.tb with secondDue := none } := rfl
@[simp] theorem State.takeSecond_marks : (s.takeSecond).marks = s.marks := rfl
@[simp] theorem State.takeSecond_agr : (s.takeSecond).agr = s.agr := rfl
@[simp] theorem State.takeSecond_peers : (s.takeSecond).peers = s.peers := rfl
@[simp] theorem State.takeSecond_chA : (s.takeSecond).chA = s.chA := rfl
@[simp] theorem State.takeSecond_chB : (s.takeSecond).chB = s.chB := rfl
@[simp] theorem State.takeSecond_senderSeq : (s.takeSecond).senderSeq = s.senderSeq := rfl
@[simp] theorem State.takeSecond_inputs : (s.takeSecond).inputs = s.inputs := rfl
@[simp] theorem State.takeSecond_log : (s.takeSecond).log = s.log := rfl
@[simp] theorem State.takeSecond_notices : (s.takeSecond).notices = s.notices := rfl
@[simp] theorem State.takeSecond_groups : (s.takeSecond).groups = s.groups := rfl
@[simp] theorem State.takeSecond_tally : (s.takeSecond).tally = s.tally := rfl
@[simp] theorem State.takeSecond_lockLife : (s.takeSecond).lockLife = s.lockLife := rfl
@[simp] theorem State.takeSecond_lockService : (s.takeSecond).lockService = s.lockService := rfl
@[simp] theorem State.takeSecond_shift : (s.takeSecond).shift = s.shift := rfl
@[simp] theorem State.takeSecond_store : (s.takeSecond).store = s.store := rfl
@[simp] theorem State.takeSecond_supply : (s.takeSecond).supply = s.supply := rfl
@[simp] theorem State.takeSecond_req : (s.takeSecond).req = s.req := rfl
@[simp] theorem State.takeSecond_out : (s.takeSecond).out = s.out := rfl
@[simp] theorem State.takeSecond_freeIndex : (s.takeSecond).freeIndex = s.freeIndex := rfl

@[simp] theorem State.knowSeconds_pending : (s.knowSeconds).pending = s.pending := rfl
@[simp] theorem State.knowSeconds_phase : (s.knowSeconds).phase = s.phase := rfl
@[simp] theorem State.knowSeconds_cfg : (s.knowSeconds).cfg = s.cfg := rfl
@[simp] theorem State.knowSeconds_ownNumber : (s.knowSeconds).ownNumber = s.ownNumber := rfl
@[simp] theorem State.knowSeconds_console : (s.knowSeconds).console = s.console := rfl
@[simp] theorem State.knowSeconds_flags : (s.knowSeconds).flags = s.flags := rfl
@[simp] theorem State.knowSeconds_tb : (s.knowSeconds).tb = { s.tb with secondsKnown := true } := rfl
@[simp] theorem State.knowSeconds_marks : (s.knowSeconds).marks = s.marks := rfl
@[simp] theorem State.knowSeconds_agr :
    (s.knowSeconds).agr = { s.agr with good := 0, disagree := 0, holdover := 0 } := rfl
@[simp] theorem State.knowSeconds_peers : (s.knowSeconds).peers = s.peers := rfl
@[simp] theorem State.knowSeconds_chA : (s.knowSeconds).chA = s.chA := rfl
@[simp] theorem State.knowSeconds_chB : (s.knowSeconds).chB = s.chB := rfl
@[simp] theorem State.knowSeconds_senderSeq : (s.knowSeconds).senderSeq = s.senderSeq := rfl
@[simp] theorem State.knowSeconds_inputs : (s.knowSeconds).inputs = s.inputs := rfl
@[simp] theorem State.knowSeconds_log : (s.knowSeconds).log = s.log := rfl
@[simp] theorem State.knowSeconds_notices : (s.knowSeconds).notices = s.notices := rfl
@[simp] theorem State.knowSeconds_groups : (s.knowSeconds).groups = s.groups := rfl
@[simp] theorem State.knowSeconds_tally : (s.knowSeconds).tally = s.tally := rfl
@[simp] theorem State.knowSeconds_lockLife : (s.knowSeconds).lockLife = s.lockLife := rfl
@[simp] theorem State.knowSeconds_lockService : (s.knowSeconds).lockService = s.lockService := rfl
@[simp] theorem State.knowSeconds_shift : (s.knowSeconds).shift = s.shift := rfl
@[simp] theorem State.knowSeconds_store : (s.knowSeconds).store = s.store := rfl
@[simp] theorem State.knowSeconds_supply : (s.knowSeconds).supply = s.supply := rfl
@[simp] theorem State.knowSeconds_req : (s.knowSeconds).req = s.req := rfl
@[simp] theorem State.knowSeconds_out : (s.knowSeconds).out = s.out := rfl
@[simp] theorem State.knowSeconds_freeIndex : (s.knowSeconds).freeIndex = s.freeIndex := rfl

@[simp] theorem State.setLine_a_pending (lc : LineController) : (s.setLine .a lc).pending = s.pending := rfl
@[simp] theorem State.setLine_a_phase (lc : LineController) : (s.setLine .a lc).phase = s.phase := rfl
@[simp] theorem State.setLine_a_cfg (lc : LineController) : (s.setLine .a lc).cfg = s.cfg := rfl
@[simp] theorem State.setLine_a_ownNumber (lc : LineController) : (s.setLine .a lc).ownNumber = s.ownNumber := rfl
@[simp] theorem State.setLine_a_console (lc : LineController) : (s.setLine .a lc).console = s.console := rfl
@[simp] theorem State.setLine_a_flags (lc : LineController) : (s.setLine .a lc).flags = s.flags := rfl
@[simp] theorem State.setLine_a_tb (lc : LineController) : (s.setLine .a lc).tb = s.tb := rfl
@[simp] theorem State.setLine_a_marks (lc : LineController) : (s.setLine .a lc).marks = s.marks := rfl
@[simp] theorem State.setLine_a_agr (lc : LineController) : (s.setLine .a lc).agr = s.agr := rfl
@[simp] theorem State.setLine_a_peers (lc : LineController) : (s.setLine .a lc).peers = s.peers := rfl
@[simp] theorem State.setLine_a_chA (lc : LineController) : (s.setLine .a lc).chA = lc := rfl
@[simp] theorem State.setLine_a_chB (lc : LineController) : (s.setLine .a lc).chB = s.chB := rfl
@[simp] theorem State.setLine_a_senderSeq (lc : LineController) : (s.setLine .a lc).senderSeq = s.senderSeq := rfl
@[simp] theorem State.setLine_a_inputs (lc : LineController) : (s.setLine .a lc).inputs = s.inputs := rfl
@[simp] theorem State.setLine_a_log (lc : LineController) : (s.setLine .a lc).log = s.log := rfl
@[simp] theorem State.setLine_a_notices (lc : LineController) : (s.setLine .a lc).notices = s.notices := rfl
@[simp] theorem State.setLine_a_groups (lc : LineController) : (s.setLine .a lc).groups = s.groups := rfl
@[simp] theorem State.setLine_a_tally (lc : LineController) : (s.setLine .a lc).tally = s.tally := rfl
@[simp] theorem State.setLine_a_lockLife (lc : LineController) : (s.setLine .a lc).lockLife = s.lockLife := rfl
@[simp] theorem State.setLine_a_lockService (lc : LineController) : (s.setLine .a lc).lockService = s.lockService := rfl
@[simp] theorem State.setLine_a_shift (lc : LineController) : (s.setLine .a lc).shift = s.shift := rfl
@[simp] theorem State.setLine_a_store (lc : LineController) : (s.setLine .a lc).store = s.store := rfl
@[simp] theorem State.setLine_a_supply (lc : LineController) : (s.setLine .a lc).supply = s.supply := rfl
@[simp] theorem State.setLine_a_req (lc : LineController) : (s.setLine .a lc).req = s.req := rfl
@[simp] theorem State.setLine_a_out (lc : LineController) : (s.setLine .a lc).out = s.out := rfl
@[simp] theorem State.setLine_a_freeIndex (lc : LineController) : (s.setLine .a lc).freeIndex = s.freeIndex := rfl

@[simp] theorem State.setLine_b_pending (lc : LineController) : (s.setLine .b lc).pending = s.pending := rfl
@[simp] theorem State.setLine_b_phase (lc : LineController) : (s.setLine .b lc).phase = s.phase := rfl
@[simp] theorem State.setLine_b_cfg (lc : LineController) : (s.setLine .b lc).cfg = s.cfg := rfl
@[simp] theorem State.setLine_b_ownNumber (lc : LineController) : (s.setLine .b lc).ownNumber = s.ownNumber := rfl
@[simp] theorem State.setLine_b_console (lc : LineController) : (s.setLine .b lc).console = s.console := rfl
@[simp] theorem State.setLine_b_flags (lc : LineController) : (s.setLine .b lc).flags = s.flags := rfl
@[simp] theorem State.setLine_b_tb (lc : LineController) : (s.setLine .b lc).tb = s.tb := rfl
@[simp] theorem State.setLine_b_marks (lc : LineController) : (s.setLine .b lc).marks = s.marks := rfl
@[simp] theorem State.setLine_b_agr (lc : LineController) : (s.setLine .b lc).agr = s.agr := rfl
@[simp] theorem State.setLine_b_peers (lc : LineController) : (s.setLine .b lc).peers = s.peers := rfl
@[simp] theorem State.setLine_b_chA (lc : LineController) : (s.setLine .b lc).chA = s.chA := rfl
@[simp] theorem State.setLine_b_chB (lc : LineController) : (s.setLine .b lc).chB = lc := rfl
@[simp] theorem State.setLine_b_senderSeq (lc : LineController) : (s.setLine .b lc).senderSeq = s.senderSeq := rfl
@[simp] theorem State.setLine_b_inputs (lc : LineController) : (s.setLine .b lc).inputs = s.inputs := rfl
@[simp] theorem State.setLine_b_log (lc : LineController) : (s.setLine .b lc).log = s.log := rfl
@[simp] theorem State.setLine_b_notices (lc : LineController) : (s.setLine .b lc).notices = s.notices := rfl
@[simp] theorem State.setLine_b_groups (lc : LineController) : (s.setLine .b lc).groups = s.groups := rfl
@[simp] theorem State.setLine_b_tally (lc : LineController) : (s.setLine .b lc).tally = s.tally := rfl
@[simp] theorem State.setLine_b_lockLife (lc : LineController) : (s.setLine .b lc).lockLife = s.lockLife := rfl
@[simp] theorem State.setLine_b_lockService (lc : LineController) : (s.setLine .b lc).lockService = s.lockService := rfl
@[simp] theorem State.setLine_b_shift (lc : LineController) : (s.setLine .b lc).shift = s.shift := rfl
@[simp] theorem State.setLine_b_store (lc : LineController) : (s.setLine .b lc).store = s.store := rfl
@[simp] theorem State.setLine_b_supply (lc : LineController) : (s.setLine .b lc).supply = s.supply := rfl
@[simp] theorem State.setLine_b_req (lc : LineController) : (s.setLine .b lc).req = s.req := rfl
@[simp] theorem State.setLine_b_out (lc : LineController) : (s.setLine .b lc).out = s.out := rfl
@[simp] theorem State.setLine_b_freeIndex (lc : LineController) : (s.setLine .b lc).freeIndex = s.freeIndex := rfl

/-! ## Reading a channel back -/

@[simp] theorem State.line_setLine (ch : Channel) (lc : LineController) : (s.setLine ch lc).line ch = lc := by
  cases ch <;> rfl

theorem State.line_setLine_other (ch : Channel) (lc : LineController) :
    (s.setLine ch lc).line (otherChannel ch) = s.line (otherChannel ch) := by
  cases ch <;> rfl

@[simp] theorem State.setLine_line (ch : Channel) : s.setLine ch (s.line ch) = s := by
  cases ch <;> rfl

end Sys2Proof.Machine
end

