-- ==== Sys2Proof/Laws/Forms.lean ====
section
/-! SUPPORT. Numbers as bytes (R36): their length, and that reading back what was written gives the number. -/

namespace Sys2Proof.Machine

/-- A number of `n` bytes has `n` bytes. -/
@[simp] theorem beBytes_length (n v : Nat) : (beBytes n v).length = n := by
  induction n generalizing v with
  | zero => rfl
  | succ n ih => simp [beBytes, ih]

/-- One more byte at the least significant end. -/
theorem beNat_append (l : List Byte) (b : Byte) : beNat (l ++ [b]) = beNat l * 256 + b.toNat := by
  simp [beNat, List.foldl_append]

/-- Reading what was written gives the number, as far as its bytes hold it. -/
theorem beNat_beBytes (n v : Nat) : beNat (beBytes n v) = v % 256 ^ n := by
  induction n generalizing v with
  | zero => simp [beBytes, beNat, Nat.mod_one]
  | succ n ih =>
    have h : v % 256 ^ (n + 1) = v % 256 + 256 * (v / 256 % 256 ^ n) := by rw [Nat.pow_succ', Nat.mod_mul]
    rw [beBytes, beNat_append, ih, BitVec.toNat_ofNat, h]
    omega

/-- A field of `n` bytes that stands at place `i` after `pre` reads as it was written. -/
theorem fieldAt_append (pre post : List Byte) (n v : Nat) :
    fieldAt (pre ++ beBytes n v ++ post) pre.length n = v % 256 ^ n := by
  have h : ((pre ++ beBytes n v ++ post).drop pre.length).take n = beBytes n v := by
    rw [List.append_assoc, List.drop_left]
    exact List.take_left' (beBytes_length n v)
  rw [fieldAt, h, beNat_beBytes]

/-- The bits of a number built from flags are the flags in order (R36), which is how a mask names them (R184, R194). -/
theorem bitsNat_testBit (bs : List Bool) (k : Nat) : (bitsNat bs).testBit k = bs.getD k false := by
  induction bs generalizing k with
  | nil => simp [bitsNat]
  | cons b bs ih =>
    have h : bitsNat (b :: bs) = 2 * bitsNat bs + b.toNat := Nat.add_comm _ _
    cases k with
    | zero => rw [h, Nat.testBit_zero]; cases b <;> simp
    | succ k => rw [h, Nat.testBit_succ]; cases b <;> simp [Nat.mul_add_div, ih]

/-- The header, payload and check of a copy are 8 bytes longer than its payload (R28, R36). -/
theorem Copy.frame_length (own : Nat) (c : Copy) : (c.frame own).length = 8 + c.payload.length := by
  simp only [Copy.frame, Copy.content, List.length_append, beBytes_length]
  omega

end Sys2Proof.Machine
end

