-- ==== Sys2Proof/Laws/Groups.lean ====
section
/-! SUPPORT. The group table's list: what putting a member in does to the list, its length and its order (R98, R100). -/

namespace Sys2Proof.Machine

/-- List order leaves no two members before one another. -/
theorem Member.before_asymm {a b : Member} (h : a.before b = true) : b.before a = false := by
  simp only [Member.before, decide_eq_true_eq, decide_eq_false_iff_not] at *
  omega

/-- A member that is not before `b`, itself not before `c`, is not before `c`. -/
theorem Member.not_before_trans {a b c : Member} (h : b.before a = false) (k : c.before b = false) :
    c.before a = false := by
  simp only [Member.before, decide_eq_false_iff_not] at *
  omega

/-- The list holds the member and what it held, nothing else. -/
theorem insertMember_perm (m : Member) (l : List Member) : (insertMember m l).Perm (m :: l) := by
  induction l with
  | nil => exact .refl _
  | cons x xs ih =>
    simp only [insertMember]
    split
    · exact .refl _
    · exact (ih.cons x).trans (.swap m x xs)

/-- The list is one longer. -/
@[simp] theorem insertMember_length (m : Member) (l : List Member) : (insertMember m l).length = l.length + 1 := by
  simpa using (insertMember_perm m l).length_eq

/-- A list in list order is in list order with the member put in. -/
theorem insertMember_pairwise (m : Member) (l : List Member) (h : l.Pairwise fun a b => b.before a = false) :
    (insertMember m l).Pairwise fun a b => b.before a = false := by
  induction l with
  | nil => simp [insertMember]
  | cons x xs ih =>
    rw [List.pairwise_cons] at h
    simp only [insertMember]
    split
    · rename_i hb
      refine List.pairwise_cons.2 ⟨fun y hy => ?_, List.pairwise_cons.2 h⟩
      rcases List.mem_cons.1 hy with rfl | hy
      · exact Member.before_asymm hb
      · exact Member.not_before_trans (Member.before_asymm hb) (h.1 y hy)
    · rename_i hb
      refine List.pairwise_cons.2 ⟨fun y hy => ?_, ih h.2⟩
      rcases List.mem_cons.1 ((insertMember_perm m xs).mem_iff.1 hy) with rfl | hy
      · simpa using hb
      · exact h.1 y hy

/-- Where the member stands: after every listed one it is not before, an equal one among them, and before the rest. -/
theorem insertMember_place (m : Member) (l : List Member) (h : l.Pairwise fun a b => b.before a = false) :
    insertMember m l = l.filter (fun a => !m.before a) ++ m :: l.filter (fun a => m.before a) := by
  induction l with
  | nil => rfl
  | cons x xs ih =>
    rw [List.pairwise_cons] at h
    simp only [insertMember]
    split
    · rename_i hb
      have all : ∀ y ∈ x :: xs, m.before y = true := by
        intro y hy
        rcases List.mem_cons.1 hy with rfl | hy
        · exact hb
        · cases hm : m.before y with
          | true => rfl
          | false =>
            have := Member.not_before_trans (h.1 y hy) hm
            rw [hb] at this
            cases this
      rw [List.filter_eq_self.2 all, List.filter_eq_nil_iff.2 fun y hy => by simp [all y hy]]
      rfl
    · rename_i hb
      rw [ih h.2]
      simp [hb]

/-- The first-out that R98 ranks best is a place of the list, where the list holds a member. -/
theorem bestRanked_lt (l : List Member) (i : Nat) (h : bestRanked l = some i) : i < l.length := by
  have timed : ∀ (l : List Member) (k : Nat), firstTimed l k = some i → i < k + l.length := by
    intro l
    induction l with
    | nil => intro k h; cases h
    | cons m ms ih =>
      intro k h
      simp only [firstTimed] at h
      split at h
      · cases h; simp
      · have := ih _ h
        simp only [List.length_cons]
        omega
  unfold bestRanked at h
  split at h
  · cases h; simpa using timed l 0 ‹_›
  · split at h
    · cases h
    · cases h
      cases l with
      | nil => simp_all
      | cons => simp

end Sys2Proof.Machine
end

