-- ==== Sys2Proof/Laws/KeptOps.lean ====
section
/-! SUPPORT. What the operations of the store's queue, the log, the transmit lists and the supply warning keep: for each, every field
of State (and of the store, where it changes the store) that it never changes. -/

namespace Sys2Proof.Machine

variable (s : State)

@[simp] theorem State.placeImage_kept :
    (s.placeImage).pending = s.pending ∧ (s.placeImage).phase = s.phase ∧ (s.placeImage).cfg = s.cfg ∧
    (s.placeImage).ownNumber = s.ownNumber ∧ (s.placeImage).console = s.console ∧ (s.placeImage).flags = s.flags ∧
    (s.placeImage).tb = s.tb ∧ (s.placeImage).marks = s.marks ∧ (s.placeImage).agr = s.agr ∧
    (s.placeImage).peers = s.peers ∧ (s.placeImage).chA = s.chA ∧ (s.placeImage).chB = s.chB ∧
    (s.placeImage).senderSeq = s.senderSeq ∧ (s.placeImage).inputs = s.inputs ∧ (s.placeImage).log = s.log ∧
    (s.placeImage).notices = s.notices ∧ (s.placeImage).groups = s.groups ∧ (s.placeImage).tally = s.tally ∧
    (s.placeImage).lockLife = s.lockLife ∧ (s.placeImage).lockService = s.lockService ∧
    (s.placeImage).shift = s.shift ∧ (s.placeImage).supply = s.supply ∧ (s.placeImage).req = s.req ∧
    (s.placeImage).out = s.out ∧ (s.placeImage).freeIndex = s.freeIndex ∧
    (s.placeImage).store.pages = s.store.pages ∧ (s.placeImage).store.journal = s.store.journal ∧
    (s.placeImage).store.shifts = s.store.shifts ∧ (s.placeImage).store.trips = s.store.trips ∧
    (s.placeImage).store.leftOut = s.store.leftOut ∧ (s.placeImage).store.image = s.store.image ∧
    (s.placeImage).store.eraseList = s.store.eraseList ∧ (s.placeImage).store.erase = s.store.erase ∧
    (s.placeImage).store.abandoned = s.store.abandoned ∧ (s.placeImage).store.programming = s.store.programming ∧
    (s.placeImage).store.timer = s.store.timer ∧ (s.placeImage).store.dropped = s.store.dropped := by
  unfold State.placeImage; split <;> simp

@[simp] theorem State.displaceNewest_kept :
    (s.displaceNewest).pending = s.pending ∧ (s.displaceNewest).phase = s.phase ∧ (s.displaceNewest).cfg = s.cfg ∧
    (s.displaceNewest).ownNumber = s.ownNumber ∧ (s.displaceNewest).console = s.console ∧
    (s.displaceNewest).tb = s.tb ∧ (s.displaceNewest).marks = s.marks ∧ (s.displaceNewest).agr = s.agr ∧
    (s.displaceNewest).peers = s.peers ∧ (s.displaceNewest).chA = s.chA ∧ (s.displaceNewest).chB = s.chB ∧
    (s.displaceNewest).senderSeq = s.senderSeq ∧ (s.displaceNewest).inputs = s.inputs ∧
    (s.displaceNewest).log = s.log ∧ (s.displaceNewest).notices = s.notices ∧ (s.displaceNewest).groups = s.groups ∧
    (s.displaceNewest).tally = s.tally ∧ (s.displaceNewest).lockLife = s.lockLife ∧
    (s.displaceNewest).lockService = s.lockService ∧ (s.displaceNewest).shift = s.shift ∧
    (s.displaceNewest).supply = s.supply ∧ (s.displaceNewest).req = s.req ∧ (s.displaceNewest).out = s.out ∧
    (s.displaceNewest).freeIndex = s.freeIndex ∧ (s.displaceNewest).store.pages = s.store.pages ∧
    (s.displaceNewest).store.journal = s.store.journal ∧ (s.displaceNewest).store.shifts = s.store.shifts ∧
    (s.displaceNewest).store.trips = s.store.trips ∧ (s.displaceNewest).store.leftOut = s.store.leftOut ∧
    (s.displaceNewest).store.image = s.store.image ∧ (s.displaceNewest).store.eraseList = s.store.eraseList ∧
    (s.displaceNewest).store.erase = s.store.erase ∧ (s.displaceNewest).store.abandoned = s.store.abandoned ∧
    (s.displaceNewest).store.programming = s.store.programming ∧ (s.displaceNewest).store.timer = s.store.timer ∧
    (s.displaceNewest).store.dropped = s.store.dropped := by
  simp [State.displaceNewest]

@[simp] theorem State.placeFilled_kept :
    (s.placeFilled).pending = s.pending ∧ (s.placeFilled).phase = s.phase ∧ (s.placeFilled).cfg = s.cfg ∧
    (s.placeFilled).ownNumber = s.ownNumber ∧ (s.placeFilled).console = s.console ∧ (s.placeFilled).tb = s.tb ∧
    (s.placeFilled).marks = s.marks ∧ (s.placeFilled).agr = s.agr ∧ (s.placeFilled).peers = s.peers ∧
    (s.placeFilled).chA = s.chA ∧ (s.placeFilled).chB = s.chB ∧ (s.placeFilled).senderSeq = s.senderSeq ∧
    (s.placeFilled).inputs = s.inputs ∧ (s.placeFilled).log = s.log ∧ (s.placeFilled).notices = s.notices ∧
    (s.placeFilled).groups = s.groups ∧ (s.placeFilled).tally = s.tally ∧ (s.placeFilled).lockLife = s.lockLife ∧
    (s.placeFilled).lockService = s.lockService ∧ (s.placeFilled).shift = s.shift ∧
    (s.placeFilled).supply = s.supply ∧ (s.placeFilled).req = s.req ∧ (s.placeFilled).out = s.out ∧
    (s.placeFilled).freeIndex = s.freeIndex ∧ (s.placeFilled).store.pages = s.store.pages ∧
    (s.placeFilled).store.journal = s.store.journal ∧ (s.placeFilled).store.shifts = s.store.shifts ∧
    (s.placeFilled).store.trips = s.store.trips ∧ (s.placeFilled).store.leftOut = s.store.leftOut ∧
    (s.placeFilled).store.image = s.store.image ∧ (s.placeFilled).store.eraseList = s.store.eraseList ∧
    (s.placeFilled).store.erase = s.store.erase ∧ (s.placeFilled).store.abandoned = s.store.abandoned ∧
    (s.placeFilled).store.programming = s.store.programming ∧ (s.placeFilled).store.timer = s.store.timer ∧
    (s.placeFilled).store.dropped = s.store.dropped := by
  unfold State.placeFilled; split <;> simp

@[simp] theorem State.fillImage_kept (b : Bool) :
    (s.fillImage b).pending = s.pending ∧ (s.fillImage b).phase = s.phase ∧ (s.fillImage b).cfg = s.cfg ∧
    (s.fillImage b).ownNumber = s.ownNumber ∧ (s.fillImage b).console = s.console ∧ (s.fillImage b).flags = s.flags ∧
    (s.fillImage b).tb = s.tb ∧ (s.fillImage b).marks = s.marks ∧ (s.fillImage b).agr = s.agr ∧
    (s.fillImage b).peers = s.peers ∧ (s.fillImage b).chA = s.chA ∧ (s.fillImage b).chB = s.chB ∧
    (s.fillImage b).senderSeq = s.senderSeq ∧ (s.fillImage b).inputs = s.inputs ∧ (s.fillImage b).log = s.log ∧
    (s.fillImage b).notices = s.notices ∧ (s.fillImage b).groups = s.groups ∧ (s.fillImage b).tally = s.tally ∧
    (s.fillImage b).lockLife = s.lockLife ∧ (s.fillImage b).lockService = s.lockService ∧
    (s.fillImage b).shift = s.shift ∧ (s.fillImage b).supply = s.supply ∧ (s.fillImage b).req = s.req ∧
    (s.fillImage b).out = s.out ∧ (s.fillImage b).freeIndex = s.freeIndex ∧
    (s.fillImage b).store.pages = s.store.pages ∧ (s.fillImage b).store.journal = s.store.journal ∧
    (s.fillImage b).store.shifts = s.store.shifts ∧ (s.fillImage b).store.trips = s.store.trips ∧
    (s.fillImage b).store.leftOut = s.store.leftOut ∧ (s.fillImage b).store.queue = s.store.queue ∧
    (s.fillImage b).store.eraseList = s.store.eraseList ∧ (s.fillImage b).store.erase = s.store.erase ∧
    (s.fillImage b).store.abandoned = s.store.abandoned ∧ (s.fillImage b).store.programming = s.store.programming ∧
    (s.fillImage b).store.dropped = s.store.dropped := by
  simp [State.fillImage]

@[simp] theorem State.requestCheckpoint_kept (b : Bool) :
    (s.requestCheckpoint b).pending = s.pending ∧ (s.requestCheckpoint b).phase = s.phase ∧
    (s.requestCheckpoint b).cfg = s.cfg ∧ (s.requestCheckpoint b).ownNumber = s.ownNumber ∧
    (s.requestCheckpoint b).console = s.console ∧ (s.requestCheckpoint b).tb = s.tb ∧
    (s.requestCheckpoint b).marks = s.marks ∧ (s.requestCheckpoint b).agr = s.agr ∧
    (s.requestCheckpoint b).peers = s.peers ∧ (s.requestCheckpoint b).chA = s.chA ∧
    (s.requestCheckpoint b).chB = s.chB ∧ (s.requestCheckpoint b).senderSeq = s.senderSeq ∧
    (s.requestCheckpoint b).inputs = s.inputs ∧ (s.requestCheckpoint b).log = s.log ∧
    (s.requestCheckpoint b).notices = s.notices ∧ (s.requestCheckpoint b).groups = s.groups ∧
    (s.requestCheckpoint b).tally = s.tally ∧ (s.requestCheckpoint b).lockLife = s.lockLife ∧
    (s.requestCheckpoint b).lockService = s.lockService ∧ (s.requestCheckpoint b).shift = s.shift ∧
    (s.requestCheckpoint b).supply = s.supply ∧ (s.requestCheckpoint b).req = s.req ∧
    (s.requestCheckpoint b).out = s.out ∧ (s.requestCheckpoint b).freeIndex = s.freeIndex ∧
    (s.requestCheckpoint b).store.pages = s.store.pages ∧ (s.requestCheckpoint b).store.journal = s.store.journal ∧
    (s.requestCheckpoint b).store.shifts = s.store.shifts ∧ (s.requestCheckpoint b).store.trips = s.store.trips ∧
    (s.requestCheckpoint b).store.leftOut = s.store.leftOut ∧
    (s.requestCheckpoint b).store.eraseList = s.store.eraseList ∧
    (s.requestCheckpoint b).store.erase = s.store.erase ∧
    (s.requestCheckpoint b).store.abandoned = s.store.abandoned ∧
    (s.requestCheckpoint b).store.programming = s.store.programming := by
  unfold State.requestCheckpoint; repeat' split
  all_goals simp

@[simp] theorem State.queueArchive_kept (r : Record) :
    (s.queueArchive r).pending = s.pending ∧ (s.queueArchive r).phase = s.phase ∧ (s.queueArchive r).cfg = s.cfg ∧
    (s.queueArchive r).ownNumber = s.ownNumber ∧ (s.queueArchive r).console = s.console ∧
    (s.queueArchive r).tb = s.tb ∧ (s.queueArchive r).marks = s.marks ∧ (s.queueArchive r).agr = s.agr ∧
    (s.queueArchive r).peers = s.peers ∧ (s.queueArchive r).chA = s.chA ∧ (s.queueArchive r).chB = s.chB ∧
    (s.queueArchive r).senderSeq = s.senderSeq ∧ (s.queueArchive r).inputs = s.inputs ∧
    (s.queueArchive r).log = s.log ∧ (s.queueArchive r).notices = s.notices ∧ (s.queueArchive r).groups = s.groups ∧
    (s.queueArchive r).tally = s.tally ∧ (s.queueArchive r).lockLife = s.lockLife ∧
    (s.queueArchive r).lockService = s.lockService ∧ (s.queueArchive r).shift = s.shift ∧
    (s.queueArchive r).supply = s.supply ∧ (s.queueArchive r).req = s.req ∧ (s.queueArchive r).out = s.out ∧
    (s.queueArchive r).freeIndex = s.freeIndex ∧ (s.queueArchive r).store.pages = s.store.pages ∧
    (s.queueArchive r).store.journal = s.store.journal ∧ (s.queueArchive r).store.shifts = s.store.shifts ∧
    (s.queueArchive r).store.trips = s.store.trips ∧ (s.queueArchive r).store.leftOut = s.store.leftOut ∧
    (s.queueArchive r).store.image = s.store.image ∧ (s.queueArchive r).store.eraseList = s.store.eraseList ∧
    (s.queueArchive r).store.erase = s.store.erase ∧ (s.queueArchive r).store.abandoned = s.store.abandoned ∧
    (s.queueArchive r).store.programming = s.store.programming ∧ (s.queueArchive r).store.timer = s.store.timer ∧
    (s.queueArchive r).store.dropped = s.store.dropped := by
  unfold State.queueArchive; split <;> simp

@[simp] theorem State.queueShift_kept (c : ClosedShift) :
    (s.queueShift c).pending = s.pending ∧ (s.queueShift c).phase = s.phase ∧ (s.queueShift c).cfg = s.cfg ∧
    (s.queueShift c).ownNumber = s.ownNumber ∧ (s.queueShift c).console = s.console ∧ (s.queueShift c).tb = s.tb ∧
    (s.queueShift c).marks = s.marks ∧ (s.queueShift c).agr = s.agr ∧ (s.queueShift c).peers = s.peers ∧
    (s.queueShift c).chA = s.chA ∧ (s.queueShift c).chB = s.chB ∧ (s.queueShift c).senderSeq = s.senderSeq ∧
    (s.queueShift c).inputs = s.inputs ∧ (s.queueShift c).log = s.log ∧ (s.queueShift c).notices = s.notices ∧
    (s.queueShift c).groups = s.groups ∧ (s.queueShift c).tally = s.tally ∧ (s.queueShift c).lockLife = s.lockLife ∧
    (s.queueShift c).lockService = s.lockService ∧ (s.queueShift c).shift = s.shift ∧
    (s.queueShift c).supply = s.supply ∧ (s.queueShift c).req = s.req ∧ (s.queueShift c).out = s.out ∧
    (s.queueShift c).freeIndex = s.freeIndex ∧ (s.queueShift c).store.pages = s.store.pages ∧
    (s.queueShift c).store.journal = s.store.journal ∧ (s.queueShift c).store.shifts = s.store.shifts ∧
    (s.queueShift c).store.trips = s.store.trips ∧ (s.queueShift c).store.leftOut = s.store.leftOut ∧
    (s.queueShift c).store.image = s.store.image ∧ (s.queueShift c).store.eraseList = s.store.eraseList ∧
    (s.queueShift c).store.erase = s.store.erase ∧ (s.queueShift c).store.abandoned = s.store.abandoned ∧
    (s.queueShift c).store.programming = s.store.programming ∧ (s.queueShift c).store.timer = s.store.timer ∧
    (s.queueShift c).store.dropped = s.store.dropped := by
  unfold State.queueShift; repeat' split
  all_goals simp

@[simp] theorem State.dropEntry_kept (k : EntryKind) :
    (s.dropEntry k).pending = s.pending ∧ (s.dropEntry k).phase = s.phase ∧ (s.dropEntry k).cfg = s.cfg ∧
    (s.dropEntry k).ownNumber = s.ownNumber ∧ (s.dropEntry k).console = s.console ∧ (s.dropEntry k).tb = s.tb ∧
    (s.dropEntry k).marks = s.marks ∧ (s.dropEntry k).agr = s.agr ∧ (s.dropEntry k).peers = s.peers ∧
    (s.dropEntry k).chA = s.chA ∧ (s.dropEntry k).chB = s.chB ∧ (s.dropEntry k).senderSeq = s.senderSeq ∧
    (s.dropEntry k).inputs = s.inputs ∧ (s.dropEntry k).log = s.log ∧ (s.dropEntry k).notices = s.notices ∧
    (s.dropEntry k).groups = s.groups ∧ (s.dropEntry k).tally = s.tally ∧ (s.dropEntry k).lockLife = s.lockLife ∧
    (s.dropEntry k).lockService = s.lockService ∧ (s.dropEntry k).shift = s.shift ∧
    (s.dropEntry k).supply = s.supply ∧ (s.dropEntry k).req = s.req ∧ (s.dropEntry k).out = s.out ∧
    (s.dropEntry k).freeIndex = s.freeIndex ∧ (s.dropEntry k).store.pages = s.store.pages ∧
    (s.dropEntry k).store.journal = s.store.journal ∧ (s.dropEntry k).store.shifts = s.store.shifts ∧
    (s.dropEntry k).store.trips = s.store.trips ∧ (s.dropEntry k).store.leftOut = s.store.leftOut ∧
    (s.dropEntry k).store.queue = s.store.queue ∧ (s.dropEntry k).store.eraseList = s.store.eraseList ∧
    (s.dropEntry k).store.erase = s.store.erase ∧ (s.dropEntry k).store.abandoned = s.store.abandoned ∧
    (s.dropEntry k).store.programming = s.store.programming ∧ (s.dropEntry k).store.timer = s.store.timer := by
  unfold State.dropEntry; split <;> simp

@[simp] theorem State.dropEntries_kept (l : List Entry) :
    (l.foldl (fun u e => u.dropEntry e.kind) s).pending = s.pending ∧
    (l.foldl (fun u e => u.dropEntry e.kind) s).phase = s.phase ∧
    (l.foldl (fun u e => u.dropEntry e.kind) s).cfg = s.cfg ∧
    (l.foldl (fun u e => u.dropEntry e.kind) s).ownNumber = s.ownNumber ∧
    (l.foldl (fun u e => u.dropEntry e.kind) s).console = s.console ∧
    (l.foldl (fun u e => u.dropEntry e.kind) s).tb = s.tb ∧
    (l.foldl (fun u e => u.dropEntry e.kind) s).marks = s.marks ∧
    (l.foldl (fun u e => u.dropEntry e.kind) s).agr = s.agr ∧
    (l.foldl (fun u e => u.dropEntry e.kind) s).peers = s.peers ∧
    (l.foldl (fun u e => u.dropEntry e.kind) s).chA = s.chA ∧
    (l.foldl (fun u e => u.dropEntry e.kind) s).chB = s.chB ∧
    (l.foldl (fun u e => u.dropEntry e.kind) s).senderSeq = s.senderSeq ∧
    (l.foldl (fun u e => u.dropEntry e.kind) s).inputs = s.inputs ∧
    (l.foldl (fun u e => u.dropEntry e.kind) s).log = s.log ∧
    (l.foldl (fun u e => u.dropEntry e.kind) s).notices = s.notices ∧
    (l.foldl (fun u e => u.dropEntry e.kind) s).groups = s.groups ∧
    (l.foldl (fun u e => u.dropEntry e.kind) s).tally = s.tally ∧
    (l.foldl (fun u e => u.dropEntry e.kind) s).lockLife = s.lockLife ∧
    (l.foldl (fun u e => u.dropEntry e.kind) s).lockService = s.lockService ∧
    (l.foldl (fun u e => u.dropEntry e.kind) s).shift = s.shift ∧
    (l.foldl (fun u e => u.dropEntry e.kind) s).supply = s.supply ∧
    (l.foldl (fun u e => u.dropEntry e.kind) s).req = s.req ∧
    (l.foldl (fun u e => u.dropEntry e.kind) s).out = s.out ∧
    (l.foldl (fun u e => u.dropEntry e.kind) s).freeIndex = s.freeIndex ∧
    (l.foldl (fun u e => u.dropEntry e.kind) s).store.pages = s.store.pages ∧
    (l.foldl (fun u e => u.dropEntry e.kind) s).store.journal = s.store.journal ∧
    (l.foldl (fun u e => u.dropEntry e.kind) s).store.shifts = s.store.shifts ∧
    (l.foldl (fun u e => u.dropEntry e.kind) s).store.trips = s.store.trips ∧
    (l.foldl (fun u e => u.dropEntry e.kind) s).store.leftOut = s.store.leftOut ∧
    (l.foldl (fun u e => u.dropEntry e.kind) s).store.queue = s.store.queue ∧
    (l.foldl (fun u e => u.dropEntry e.kind) s).store.eraseList = s.store.eraseList ∧
    (l.foldl (fun u e => u.dropEntry e.kind) s).store.erase = s.store.erase ∧
    (l.foldl (fun u e => u.dropEntry e.kind) s).store.abandoned = s.store.abandoned ∧
    (l.foldl (fun u e => u.dropEntry e.kind) s).store.programming = s.store.programming ∧
    (l.foldl (fun u e => u.dropEntry e.kind) s).store.timer = s.store.timer := by
  induction l generalizing s with
  | nil => simp
  | cons e l ih => simp [ih]

@[simp] theorem State.stopWrites_kept (r : Region) :
    (s.stopWrites r).pending = s.pending ∧ (s.stopWrites r).phase = s.phase ∧ (s.stopWrites r).cfg = s.cfg ∧
    (s.stopWrites r).ownNumber = s.ownNumber ∧ (s.stopWrites r).console = s.console ∧ (s.stopWrites r).tb = s.tb ∧
    (s.stopWrites r).marks = s.marks ∧ (s.stopWrites r).agr = s.agr ∧ (s.stopWrites r).peers = s.peers ∧
    (s.stopWrites r).chA = s.chA ∧ (s.stopWrites r).chB = s.chB ∧ (s.stopWrites r).senderSeq = s.senderSeq ∧
    (s.stopWrites r).inputs = s.inputs ∧ (s.stopWrites r).log = s.log ∧ (s.stopWrites r).notices = s.notices ∧
    (s.stopWrites r).groups = s.groups ∧ (s.stopWrites r).tally = s.tally ∧ (s.stopWrites r).lockLife = s.lockLife ∧
    (s.stopWrites r).lockService = s.lockService ∧ (s.stopWrites r).shift = s.shift ∧
    (s.stopWrites r).supply = s.supply ∧ (s.stopWrites r).req = s.req ∧ (s.stopWrites r).out = s.out ∧
    (s.stopWrites r).freeIndex = s.freeIndex ∧ (s.stopWrites r).store.pages = s.store.pages ∧
    (s.stopWrites r).store.journal = s.store.journal ∧ (s.stopWrites r).store.shifts = s.store.shifts ∧
    (s.stopWrites r).store.trips = s.store.trips ∧ (s.stopWrites r).store.leftOut = s.store.leftOut ∧
    (s.stopWrites r).store.eraseList = s.store.eraseList ∧ (s.stopWrites r).store.erase = s.store.erase ∧
    (s.stopWrites r).store.abandoned = s.store.abandoned ∧ (s.stopWrites r).store.programming = s.store.programming ∧
    (s.stopWrites r).store.timer = s.store.timer := by
  unfold State.stopWrites; dsimp only; split <;> simp

@[simp] theorem State.append_kept (d : Dating) (b : RecordBody) :
    (s.append d b).pending = s.pending ∧ (s.append d b).phase = s.phase ∧ (s.append d b).cfg = s.cfg ∧
    (s.append d b).ownNumber = s.ownNumber ∧ (s.append d b).console = s.console ∧ (s.append d b).tb = s.tb ∧
    (s.append d b).marks = s.marks ∧ (s.append d b).agr = s.agr ∧ (s.append d b).peers = s.peers ∧
    (s.append d b).chA = s.chA ∧ (s.append d b).chB = s.chB ∧ (s.append d b).senderSeq = s.senderSeq ∧
    (s.append d b).inputs = s.inputs ∧ (s.append d b).notices = s.notices ∧ (s.append d b).groups = s.groups ∧
    (s.append d b).tally = s.tally ∧ (s.append d b).lockLife = s.lockLife ∧
    (s.append d b).lockService = s.lockService ∧ (s.append d b).shift = s.shift ∧ (s.append d b).supply = s.supply ∧
    (s.append d b).req = s.req ∧ (s.append d b).out = s.out ∧ (s.append d b).freeIndex = s.freeIndex ∧
    (s.append d b).store.pages = s.store.pages ∧ (s.append d b).store.journal = s.store.journal ∧
    (s.append d b).store.shifts = s.store.shifts ∧ (s.append d b).store.trips = s.store.trips ∧
    (s.append d b).store.leftOut = s.store.leftOut ∧ (s.append d b).store.image = s.store.image ∧
    (s.append d b).store.eraseList = s.store.eraseList ∧ (s.append d b).store.erase = s.store.erase ∧
    (s.append d b).store.abandoned = s.store.abandoned ∧ (s.append d b).store.programming = s.store.programming ∧
    (s.append d b).store.timer = s.store.timer ∧ (s.append d b).store.dropped = s.store.dropped := by
  simp [State.append]

@[simp] theorem State.appendNow_kept (b : RecordBody) :
    (s.appendNow b).pending = s.pending ∧ (s.appendNow b).phase = s.phase ∧ (s.appendNow b).cfg = s.cfg ∧
    (s.appendNow b).ownNumber = s.ownNumber ∧ (s.appendNow b).console = s.console ∧ (s.appendNow b).tb = s.tb ∧
    (s.appendNow b).marks = s.marks ∧ (s.appendNow b).agr = s.agr ∧ (s.appendNow b).peers = s.peers ∧
    (s.appendNow b).chA = s.chA ∧ (s.appendNow b).chB = s.chB ∧ (s.appendNow b).senderSeq = s.senderSeq ∧
    (s.appendNow b).inputs = s.inputs ∧ (s.appendNow b).notices = s.notices ∧ (s.appendNow b).groups = s.groups ∧
    (s.appendNow b).tally = s.tally ∧ (s.appendNow b).lockLife = s.lockLife ∧
    (s.appendNow b).lockService = s.lockService ∧ (s.appendNow b).shift = s.shift ∧
    (s.appendNow b).supply = s.supply ∧ (s.appendNow b).req = s.req ∧ (s.appendNow b).out = s.out ∧
    (s.appendNow b).freeIndex = s.freeIndex ∧ (s.appendNow b).store.pages = s.store.pages ∧
    (s.appendNow b).store.journal = s.store.journal ∧ (s.appendNow b).store.shifts = s.store.shifts ∧
    (s.appendNow b).store.trips = s.store.trips ∧ (s.appendNow b).store.leftOut = s.store.leftOut ∧
    (s.appendNow b).store.image = s.store.image ∧ (s.appendNow b).store.eraseList = s.store.eraseList ∧
    (s.appendNow b).store.erase = s.store.erase ∧ (s.appendNow b).store.abandoned = s.store.abandoned ∧
    (s.appendNow b).store.programming = s.store.programming ∧ (s.appendNow b).store.timer = s.store.timer ∧
    (s.appendNow b).store.dropped = s.store.dropped := by
  simp [State.appendNow]

@[simp] theorem State.send_kept (k : TelegramKind) (target : Nat) (p : List Byte) :
    (s.send k target p).pending = s.pending ∧ (s.send k target p).phase = s.phase ∧ (s.send k target p).cfg = s.cfg ∧
    (s.send k target p).ownNumber = s.ownNumber ∧ (s.send k target p).console = s.console ∧
    (s.send k target p).tb = s.tb ∧ (s.send k target p).marks = s.marks ∧ (s.send k target p).agr = s.agr ∧
    (s.send k target p).peers = s.peers ∧ (s.send k target p).inputs = s.inputs ∧ (s.send k target p).log = s.log ∧
    (s.send k target p).notices = s.notices ∧ (s.send k target p).groups = s.groups ∧
    (s.send k target p).tally = s.tally ∧ (s.send k target p).lockLife = s.lockLife ∧
    (s.send k target p).lockService = s.lockService ∧ (s.send k target p).shift = s.shift ∧
    (s.send k target p).store = s.store ∧ (s.send k target p).supply = s.supply ∧ (s.send k target p).out = s.out ∧
    (s.send k target p).freeIndex = s.freeIndex := by
  simp [State.send]

@[simp] theorem State.answer_kept (r : Request) (st : Status) (c : List Byte) :
    (s.answer r st c).pending = s.pending ∧ (s.answer r st c).phase = s.phase ∧ (s.answer r st c).cfg = s.cfg ∧
    (s.answer r st c).ownNumber = s.ownNumber ∧ (s.answer r st c).console = s.console ∧ (s.answer r st c).tb = s.tb ∧
    (s.answer r st c).marks = s.marks ∧ (s.answer r st c).agr = s.agr ∧ (s.answer r st c).peers = s.peers ∧
    (s.answer r st c).inputs = s.inputs ∧ (s.answer r st c).log = s.log ∧ (s.answer r st c).notices = s.notices ∧
    (s.answer r st c).groups = s.groups ∧ (s.answer r st c).tally = s.tally ∧
    (s.answer r st c).lockLife = s.lockLife ∧ (s.answer r st c).lockService = s.lockService ∧
    (s.answer r st c).shift = s.shift ∧ (s.answer r st c).store = s.store ∧ (s.answer r st c).supply = s.supply ∧
    (s.answer r st c).freeIndex = s.freeIndex := by
  unfold State.answer; dsimp only; split <;> simp

@[simp] theorem State.failRead_kept :
    (s.failRead).pending = s.pending ∧ (s.failRead).phase = s.phase ∧ (s.failRead).cfg = s.cfg ∧
    (s.failRead).ownNumber = s.ownNumber ∧ (s.failRead).console = s.console ∧ (s.failRead).tb = s.tb ∧
    (s.failRead).marks = s.marks ∧ (s.failRead).agr = s.agr ∧ (s.failRead).peers = s.peers ∧
    (s.failRead).inputs = s.inputs ∧ (s.failRead).log = s.log ∧ (s.failRead).notices = s.notices ∧
    (s.failRead).groups = s.groups ∧ (s.failRead).tally = s.tally ∧ (s.failRead).lockLife = s.lockLife ∧
    (s.failRead).lockService = s.lockService ∧ (s.failRead).shift = s.shift ∧ (s.failRead).store = s.store ∧
    (s.failRead).supply = s.supply ∧ (s.failRead).freeIndex = s.freeIndex := by
  unfold State.failRead; split <;> simp

@[simp] theorem State.warnStore_kept :
    (s.warnStore).pending = s.pending ∧ (s.warnStore).phase = s.phase ∧ (s.warnStore).cfg = s.cfg ∧
    (s.warnStore).ownNumber = s.ownNumber ∧ (s.warnStore).console = s.console ∧ (s.warnStore).tb = s.tb ∧
    (s.warnStore).marks = s.marks ∧ (s.warnStore).agr = s.agr ∧ (s.warnStore).peers = s.peers ∧
    (s.warnStore).chA = s.chA ∧ (s.warnStore).chB = s.chB ∧ (s.warnStore).senderSeq = s.senderSeq ∧
    (s.warnStore).inputs = s.inputs ∧ (s.warnStore).log = s.log ∧ (s.warnStore).notices = s.notices ∧
    (s.warnStore).groups = s.groups ∧ (s.warnStore).tally = s.tally ∧ (s.warnStore).lockLife = s.lockLife ∧
    (s.warnStore).lockService = s.lockService ∧ (s.warnStore).shift = s.shift ∧ (s.warnStore).supply = s.supply ∧
    (s.warnStore).req = s.req ∧ (s.warnStore).out = s.out ∧ (s.warnStore).freeIndex = s.freeIndex ∧
    (s.warnStore).store.pages = s.store.pages ∧ (s.warnStore).store.journal = s.store.journal ∧
    (s.warnStore).store.shifts = s.store.shifts ∧ (s.warnStore).store.trips = s.store.trips ∧
    (s.warnStore).store.leftOut = s.store.leftOut ∧ (s.warnStore).store.eraseList = s.store.eraseList ∧
    (s.warnStore).store.programming = s.store.programming := by
  unfold State.warnStore; dsimp only; split <;> simp

@[simp] theorem State.takeWarning_kept :
    (s.takeWarning).pending = s.pending ∧ (s.takeWarning).phase = s.phase ∧ (s.takeWarning).cfg = s.cfg ∧
    (s.takeWarning).ownNumber = s.ownNumber ∧ (s.takeWarning).console = s.console ∧ (s.takeWarning).tb = s.tb ∧
    (s.takeWarning).marks = s.marks ∧ (s.takeWarning).agr = s.agr ∧ (s.takeWarning).peers = s.peers ∧
    (s.takeWarning).inputs = s.inputs ∧ (s.takeWarning).log = s.log ∧ (s.takeWarning).notices = s.notices ∧
    (s.takeWarning).groups = s.groups ∧ (s.takeWarning).tally = s.tally ∧ (s.takeWarning).lockLife = s.lockLife ∧
    (s.takeWarning).lockService = s.lockService ∧ (s.takeWarning).shift = s.shift ∧
    (s.takeWarning).freeIndex = s.freeIndex ∧ (s.takeWarning).store.pages = s.store.pages ∧
    (s.takeWarning).store.journal = s.store.journal ∧ (s.takeWarning).store.shifts = s.store.shifts ∧
    (s.takeWarning).store.trips = s.store.trips ∧ (s.takeWarning).store.leftOut = s.store.leftOut ∧
    (s.takeWarning).store.eraseList = s.store.eraseList ∧
    (s.takeWarning).store.programming = s.store.programming := by
  simp [State.takeWarning]

end Sys2Proof.Machine
end

