-- ==== Sys2Proof/Laws/KeptGroups.lean ====
section
/-! SUPPORT. What the operations of the group table keep: for each, every field
of State (and of the store, where it changes the store) that it never changes. -/

namespace Sys2Proof.Machine

variable (s : State)

@[simp] theorem State.setGroup_kept (g : Nat) (x : Group) :
    (s.setGroup g x).pending = s.pending ∧ (s.setGroup g x).phase = s.phase ∧ (s.setGroup g x).cfg = s.cfg ∧
    (s.setGroup g x).ownNumber = s.ownNumber ∧ (s.setGroup g x).console = s.console ∧
    (s.setGroup g x).flags = s.flags ∧ (s.setGroup g x).tb = s.tb ∧ (s.setGroup g x).marks = s.marks ∧
    (s.setGroup g x).agr = s.agr ∧ (s.setGroup g x).peers = s.peers ∧ (s.setGroup g x).chA = s.chA ∧
    (s.setGroup g x).chB = s.chB ∧ (s.setGroup g x).senderSeq = s.senderSeq ∧ (s.setGroup g x).inputs = s.inputs ∧
    (s.setGroup g x).log = s.log ∧ (s.setGroup g x).notices = s.notices ∧ (s.setGroup g x).tally = s.tally ∧
    (s.setGroup g x).lockLife = s.lockLife ∧ (s.setGroup g x).lockService = s.lockService ∧
    (s.setGroup g x).shift = s.shift ∧ (s.setGroup g x).store = s.store ∧ (s.setGroup g x).supply = s.supply ∧
    (s.setGroup g x).req = s.req ∧ (s.setGroup g x).out = s.out ∧ (s.setGroup g x).freeIndex = s.freeIndex := by
  unfold State.setGroup; split <;> simp

@[simp] theorem State.closeGroup_kept (g : Nat) :
    (s.closeGroup g).pending = s.pending ∧ (s.closeGroup g).phase = s.phase ∧ (s.closeGroup g).cfg = s.cfg ∧
    (s.closeGroup g).ownNumber = s.ownNumber ∧ (s.closeGroup g).console = s.console ∧ (s.closeGroup g).tb = s.tb ∧
    (s.closeGroup g).marks = s.marks ∧ (s.closeGroup g).agr = s.agr ∧ (s.closeGroup g).peers = s.peers ∧
    (s.closeGroup g).chA = s.chA ∧ (s.closeGroup g).chB = s.chB ∧ (s.closeGroup g).senderSeq = s.senderSeq ∧
    (s.closeGroup g).inputs = s.inputs ∧ (s.closeGroup g).notices = s.notices ∧ (s.closeGroup g).tally = s.tally ∧
    (s.closeGroup g).lockLife = s.lockLife ∧ (s.closeGroup g).lockService = s.lockService ∧
    (s.closeGroup g).supply = s.supply ∧ (s.closeGroup g).req = s.req ∧ (s.closeGroup g).out = s.out ∧
    (s.closeGroup g).freeIndex = s.freeIndex ∧ (s.closeGroup g).store.pages = s.store.pages ∧
    (s.closeGroup g).store.journal = s.store.journal ∧ (s.closeGroup g).store.shifts = s.store.shifts ∧
    (s.closeGroup g).store.trips = s.store.trips ∧ (s.closeGroup g).store.leftOut = s.store.leftOut ∧
    (s.closeGroup g).store.image = s.store.image ∧ (s.closeGroup g).store.eraseList = s.store.eraseList ∧
    (s.closeGroup g).store.erase = s.store.erase ∧ (s.closeGroup g).store.abandoned = s.store.abandoned ∧
    (s.closeGroup g).store.programming = s.store.programming ∧ (s.closeGroup g).store.timer = s.store.timer ∧
    (s.closeGroup g).store.dropped = s.store.dropped := by
  unfold State.closeGroup; dsimp only; repeat' split
  all_goals simp

@[simp] theorem State.strayMember_kept (g : Nat) (m : Member) (w : StrayReason) :
    (s.strayMember g m w).pending = s.pending ∧ (s.strayMember g m w).phase = s.phase ∧
    (s.strayMember g m w).cfg = s.cfg ∧ (s.strayMember g m w).ownNumber = s.ownNumber ∧
    (s.strayMember g m w).console = s.console ∧ (s.strayMember g m w).tb = s.tb ∧
    (s.strayMember g m w).marks = s.marks ∧ (s.strayMember g m w).agr = s.agr ∧
    (s.strayMember g m w).peers = s.peers ∧ (s.strayMember g m w).chA = s.chA ∧ (s.strayMember g m w).chB = s.chB ∧
    (s.strayMember g m w).senderSeq = s.senderSeq ∧ (s.strayMember g m w).inputs = s.inputs ∧
    (s.strayMember g m w).notices = s.notices ∧ (s.strayMember g m w).groups = s.groups ∧
    (s.strayMember g m w).tally = s.tally ∧ (s.strayMember g m w).lockLife = s.lockLife ∧
    (s.strayMember g m w).lockService = s.lockService ∧ (s.strayMember g m w).shift = s.shift ∧
    (s.strayMember g m w).supply = s.supply ∧ (s.strayMember g m w).req = s.req ∧ (s.strayMember g m w).out = s.out ∧
    (s.strayMember g m w).freeIndex = s.freeIndex ∧ (s.strayMember g m w).store.pages = s.store.pages ∧
    (s.strayMember g m w).store.journal = s.store.journal ∧ (s.strayMember g m w).store.shifts = s.store.shifts ∧
    (s.strayMember g m w).store.trips = s.store.trips ∧ (s.strayMember g m w).store.leftOut = s.store.leftOut ∧
    (s.strayMember g m w).store.image = s.store.image ∧ (s.strayMember g m w).store.eraseList = s.store.eraseList ∧
    (s.strayMember g m w).store.erase = s.store.erase ∧ (s.strayMember g m w).store.abandoned = s.store.abandoned ∧
    (s.strayMember g m w).store.programming = s.store.programming ∧
    (s.strayMember g m w).store.timer = s.store.timer ∧ (s.strayMember g m w).store.dropped = s.store.dropped := by
  simp [State.strayMember]

@[simp] theorem State.openGroup_kept (g : Nat) (m : Member) :
    (s.openGroup g m).pending = s.pending ∧ (s.openGroup g m).phase = s.phase ∧ (s.openGroup g m).cfg = s.cfg ∧
    (s.openGroup g m).ownNumber = s.ownNumber ∧ (s.openGroup g m).console = s.console ∧ (s.openGroup g m).tb = s.tb ∧
    (s.openGroup g m).marks = s.marks ∧ (s.openGroup g m).agr = s.agr ∧ (s.openGroup g m).peers = s.peers ∧
    (s.openGroup g m).chA = s.chA ∧ (s.openGroup g m).chB = s.chB ∧ (s.openGroup g m).senderSeq = s.senderSeq ∧
    (s.openGroup g m).inputs = s.inputs ∧ (s.openGroup g m).notices = s.notices ∧ (s.openGroup g m).tally = s.tally ∧
    (s.openGroup g m).lockLife = s.lockLife ∧ (s.openGroup g m).lockService = s.lockService ∧
    (s.openGroup g m).supply = s.supply ∧ (s.openGroup g m).req = s.req ∧ (s.openGroup g m).out = s.out ∧
    (s.openGroup g m).freeIndex = s.freeIndex ∧ (s.openGroup g m).store.pages = s.store.pages ∧
    (s.openGroup g m).store.journal = s.store.journal ∧ (s.openGroup g m).store.shifts = s.store.shifts ∧
    (s.openGroup g m).store.trips = s.store.trips ∧ (s.openGroup g m).store.leftOut = s.store.leftOut ∧
    (s.openGroup g m).store.image = s.store.image ∧ (s.openGroup g m).store.eraseList = s.store.eraseList ∧
    (s.openGroup g m).store.erase = s.store.erase ∧ (s.openGroup g m).store.abandoned = s.store.abandoned ∧
    (s.openGroup g m).store.programming = s.store.programming ∧ (s.openGroup g m).store.timer = s.store.timer ∧
    (s.openGroup g m).store.dropped = s.store.dropped := by
  unfold State.openGroup; dsimp only; split <;> simp

@[simp] theorem State.handMember_kept (g : Nat) (m : Member) :
    (s.handMember g m).pending = s.pending ∧ (s.handMember g m).phase = s.phase ∧ (s.handMember g m).cfg = s.cfg ∧
    (s.handMember g m).ownNumber = s.ownNumber ∧ (s.handMember g m).console = s.console ∧
    (s.handMember g m).tb = s.tb ∧ (s.handMember g m).marks = s.marks ∧ (s.handMember g m).agr = s.agr ∧
    (s.handMember g m).peers = s.peers ∧ (s.handMember g m).chA = s.chA ∧ (s.handMember g m).chB = s.chB ∧
    (s.handMember g m).senderSeq = s.senderSeq ∧ (s.handMember g m).inputs = s.inputs ∧
    (s.handMember g m).notices = s.notices ∧ (s.handMember g m).tally = s.tally ∧
    (s.handMember g m).lockLife = s.lockLife ∧ (s.handMember g m).lockService = s.lockService ∧
    (s.handMember g m).supply = s.supply ∧ (s.handMember g m).req = s.req ∧ (s.handMember g m).out = s.out ∧
    (s.handMember g m).freeIndex = s.freeIndex ∧ (s.handMember g m).store.pages = s.store.pages ∧
    (s.handMember g m).store.journal = s.store.journal ∧ (s.handMember g m).store.shifts = s.store.shifts ∧
    (s.handMember g m).store.trips = s.store.trips ∧ (s.handMember g m).store.leftOut = s.store.leftOut ∧
    (s.handMember g m).store.image = s.store.image ∧ (s.handMember g m).store.eraseList = s.store.eraseList ∧
    (s.handMember g m).store.erase = s.store.erase ∧ (s.handMember g m).store.abandoned = s.store.abandoned ∧
    (s.handMember g m).store.programming = s.store.programming ∧ (s.handMember g m).store.timer = s.store.timer ∧
    (s.handMember g m).store.dropped = s.store.dropped := by
  unfold State.handMember; dsimp only; repeat' split
  all_goals simp

@[simp] theorem State.closeIfDue_kept (g : Nat) :
    (s.closeIfDue g).pending = s.pending ∧ (s.closeIfDue g).phase = s.phase ∧ (s.closeIfDue g).cfg = s.cfg ∧
    (s.closeIfDue g).ownNumber = s.ownNumber ∧ (s.closeIfDue g).console = s.console ∧ (s.closeIfDue g).tb = s.tb ∧
    (s.closeIfDue g).marks = s.marks ∧ (s.closeIfDue g).agr = s.agr ∧ (s.closeIfDue g).peers = s.peers ∧
    (s.closeIfDue g).chA = s.chA ∧ (s.closeIfDue g).chB = s.chB ∧ (s.closeIfDue g).senderSeq = s.senderSeq ∧
    (s.closeIfDue g).inputs = s.inputs ∧ (s.closeIfDue g).notices = s.notices ∧ (s.closeIfDue g).tally = s.tally ∧
    (s.closeIfDue g).lockLife = s.lockLife ∧ (s.closeIfDue g).lockService = s.lockService ∧
    (s.closeIfDue g).supply = s.supply ∧ (s.closeIfDue g).req = s.req ∧ (s.closeIfDue g).out = s.out ∧
    (s.closeIfDue g).freeIndex = s.freeIndex ∧ (s.closeIfDue g).store.pages = s.store.pages ∧
    (s.closeIfDue g).store.journal = s.store.journal ∧ (s.closeIfDue g).store.shifts = s.store.shifts ∧
    (s.closeIfDue g).store.trips = s.store.trips ∧ (s.closeIfDue g).store.leftOut = s.store.leftOut ∧
    (s.closeIfDue g).store.image = s.store.image ∧ (s.closeIfDue g).store.eraseList = s.store.eraseList ∧
    (s.closeIfDue g).store.erase = s.store.erase ∧ (s.closeIfDue g).store.abandoned = s.store.abandoned ∧
    (s.closeIfDue g).store.programming = s.store.programming ∧ (s.closeIfDue g).store.timer = s.store.timer ∧
    (s.closeIfDue g).store.dropped = s.store.dropped := by
  unfold State.closeIfDue; split <;> simp

@[simp] theorem State.closeDue_kept (gs : List Nat) :
    (s.closeDue gs).pending = s.pending ∧ (s.closeDue gs).phase = s.phase ∧ (s.closeDue gs).cfg = s.cfg ∧
    (s.closeDue gs).ownNumber = s.ownNumber ∧ (s.closeDue gs).console = s.console ∧ (s.closeDue gs).tb = s.tb ∧
    (s.closeDue gs).marks = s.marks ∧ (s.closeDue gs).agr = s.agr ∧ (s.closeDue gs).peers = s.peers ∧
    (s.closeDue gs).chA = s.chA ∧ (s.closeDue gs).chB = s.chB ∧ (s.closeDue gs).senderSeq = s.senderSeq ∧
    (s.closeDue gs).inputs = s.inputs ∧ (s.closeDue gs).notices = s.notices ∧ (s.closeDue gs).tally = s.tally ∧
    (s.closeDue gs).lockLife = s.lockLife ∧ (s.closeDue gs).lockService = s.lockService ∧
    (s.closeDue gs).supply = s.supply ∧ (s.closeDue gs).req = s.req ∧ (s.closeDue gs).out = s.out ∧
    (s.closeDue gs).freeIndex = s.freeIndex ∧ (s.closeDue gs).store.pages = s.store.pages ∧
    (s.closeDue gs).store.journal = s.store.journal ∧ (s.closeDue gs).store.shifts = s.store.shifts ∧
    (s.closeDue gs).store.trips = s.store.trips ∧ (s.closeDue gs).store.leftOut = s.store.leftOut ∧
    (s.closeDue gs).store.image = s.store.image ∧ (s.closeDue gs).store.eraseList = s.store.eraseList ∧
    (s.closeDue gs).store.erase = s.store.erase ∧ (s.closeDue gs).store.abandoned = s.store.abandoned ∧
    (s.closeDue gs).store.programming = s.store.programming ∧ (s.closeDue gs).store.timer = s.store.timer ∧
    (s.closeDue gs).store.dropped = s.store.dropped := by
  unfold State.closeDue
  induction gs generalizing s with
  | nil => simp
  | cons g gs ih => simp only [List.foldl_cons, ih]; simp

end Sys2Proof.Machine
end

