-- ==== Sys2Proof/Laws/KeptTally.lean ====
section
/-! SUPPORT. What the operations of the tally unit keep: for each, every field
of State (and of the store, where it changes the store) that it never changes. -/

namespace Sys2Proof.Machine

variable (s : State)

@[simp] theorem State.judgeService_kept :
    (s.judgeService).pending = s.pending ∧ (s.judgeService).phase = s.phase ∧ (s.judgeService).cfg = s.cfg ∧
    (s.judgeService).ownNumber = s.ownNumber ∧ (s.judgeService).console = s.console ∧ (s.judgeService).tb = s.tb ∧
    (s.judgeService).marks = s.marks ∧ (s.judgeService).agr = s.agr ∧ (s.judgeService).peers = s.peers ∧
    (s.judgeService).chA = s.chA ∧ (s.judgeService).chB = s.chB ∧ (s.judgeService).senderSeq = s.senderSeq ∧
    (s.judgeService).inputs = s.inputs ∧ (s.judgeService).notices = s.notices ∧ (s.judgeService).groups = s.groups ∧
    (s.judgeService).lockLife = s.lockLife ∧ (s.judgeService).lockService = s.lockService ∧
    (s.judgeService).shift = s.shift ∧ (s.judgeService).supply = s.supply ∧ (s.judgeService).req = s.req ∧
    (s.judgeService).out = s.out ∧ (s.judgeService).freeIndex = s.freeIndex ∧
    (s.judgeService).store.pages = s.store.pages ∧ (s.judgeService).store.journal = s.store.journal ∧
    (s.judgeService).store.shifts = s.store.shifts ∧ (s.judgeService).store.trips = s.store.trips ∧
    (s.judgeService).store.leftOut = s.store.leftOut ∧ (s.judgeService).store.image = s.store.image ∧
    (s.judgeService).store.eraseList = s.store.eraseList ∧ (s.judgeService).store.erase = s.store.erase ∧
    (s.judgeService).store.abandoned = s.store.abandoned ∧ (s.judgeService).store.programming = s.store.programming ∧
    (s.judgeService).store.timer = s.store.timer ∧ (s.judgeService).store.dropped = s.store.dropped := by
  unfold State.judgeService; split <;> simp

@[simp] theorem State.creditTick_kept :
    (s.creditTick).pending = s.pending ∧ (s.creditTick).phase = s.phase ∧ (s.creditTick).cfg = s.cfg ∧
    (s.creditTick).ownNumber = s.ownNumber ∧ (s.creditTick).console = s.console ∧ (s.creditTick).tb = s.tb ∧
    (s.creditTick).marks = s.marks ∧ (s.creditTick).agr = s.agr ∧ (s.creditTick).peers = s.peers ∧
    (s.creditTick).chA = s.chA ∧ (s.creditTick).chB = s.chB ∧ (s.creditTick).senderSeq = s.senderSeq ∧
    (s.creditTick).inputs = s.inputs ∧ (s.creditTick).notices = s.notices ∧ (s.creditTick).groups = s.groups ∧
    (s.creditTick).lockLife = s.lockLife ∧ (s.creditTick).lockService = s.lockService ∧
    (s.creditTick).supply = s.supply ∧ (s.creditTick).req = s.req ∧ (s.creditTick).out = s.out ∧
    (s.creditTick).freeIndex = s.freeIndex ∧ (s.creditTick).store.pages = s.store.pages ∧
    (s.creditTick).store.journal = s.store.journal ∧ (s.creditTick).store.shifts = s.store.shifts ∧
    (s.creditTick).store.trips = s.store.trips ∧ (s.creditTick).store.leftOut = s.store.leftOut ∧
    (s.creditTick).store.image = s.store.image ∧ (s.creditTick).store.eraseList = s.store.eraseList ∧
    (s.creditTick).store.erase = s.store.erase ∧ (s.creditTick).store.abandoned = s.store.abandoned ∧
    (s.creditTick).store.programming = s.store.programming ∧ (s.creditTick).store.timer = s.store.timer ∧
    (s.creditTick).store.dropped = s.store.dropped := by
  unfold State.creditTick; split <;> simp

@[simp] theorem State.accept_kept (c : Candidate) :
    (s.accept c).pending = s.pending ∧ (s.accept c).phase = s.phase ∧ (s.accept c).cfg = s.cfg ∧
    (s.accept c).ownNumber = s.ownNumber ∧ (s.accept c).console = s.console ∧ (s.accept c).tb = s.tb ∧
    (s.accept c).marks = s.marks ∧ (s.accept c).agr = s.agr ∧ (s.accept c).peers = s.peers ∧
    (s.accept c).chA = s.chA ∧ (s.accept c).chB = s.chB ∧ (s.accept c).senderSeq = s.senderSeq ∧
    (s.accept c).inputs = s.inputs ∧ (s.accept c).notices = s.notices ∧ (s.accept c).groups = s.groups ∧
    (s.accept c).lockLife = s.lockLife ∧ (s.accept c).lockService = s.lockService ∧ (s.accept c).supply = s.supply ∧
    (s.accept c).req = s.req ∧ (s.accept c).out = s.out ∧ (s.accept c).freeIndex = s.freeIndex ∧
    (s.accept c).store.pages = s.store.pages ∧ (s.accept c).store.journal = s.store.journal ∧
    (s.accept c).store.shifts = s.store.shifts ∧ (s.accept c).store.trips = s.store.trips ∧
    (s.accept c).store.leftOut = s.store.leftOut ∧ (s.accept c).store.eraseList = s.store.eraseList ∧
    (s.accept c).store.erase = s.store.erase ∧ (s.accept c).store.abandoned = s.store.abandoned ∧
    (s.accept c).store.programming = s.store.programming := by
  simp [State.accept]

@[simp] theorem State.formCandidate_kept (m : Mode) (t : StatusTest) :
    (s.formCandidate m t).pending = s.pending ∧ (s.formCandidate m t).phase = s.phase ∧
    (s.formCandidate m t).cfg = s.cfg ∧ (s.formCandidate m t).ownNumber = s.ownNumber ∧
    (s.formCandidate m t).console = s.console ∧ (s.formCandidate m t).tb = s.tb ∧
    (s.formCandidate m t).marks = s.marks ∧ (s.formCandidate m t).agr = s.agr ∧
    (s.formCandidate m t).peers = s.peers ∧ (s.formCandidate m t).chA = s.chA ∧ (s.formCandidate m t).chB = s.chB ∧
    (s.formCandidate m t).senderSeq = s.senderSeq ∧ (s.formCandidate m t).inputs = s.inputs ∧
    (s.formCandidate m t).notices = s.notices ∧ (s.formCandidate m t).groups = s.groups ∧
    (s.formCandidate m t).lockLife = s.lockLife ∧ (s.formCandidate m t).lockService = s.lockService ∧
    (s.formCandidate m t).supply = s.supply ∧ (s.formCandidate m t).req = s.req ∧ (s.formCandidate m t).out = s.out ∧
    (s.formCandidate m t).freeIndex = s.freeIndex ∧ (s.formCandidate m t).store.pages = s.store.pages ∧
    (s.formCandidate m t).store.journal = s.store.journal ∧ (s.formCandidate m t).store.shifts = s.store.shifts ∧
    (s.formCandidate m t).store.trips = s.store.trips ∧ (s.formCandidate m t).store.leftOut = s.store.leftOut ∧
    (s.formCandidate m t).store.eraseList = s.store.eraseList ∧ (s.formCandidate m t).store.erase = s.store.erase ∧
    (s.formCandidate m t).store.abandoned = s.store.abandoned ∧
    (s.formCandidate m t).store.programming = s.store.programming := by
  unfold State.formCandidate; split <;> simp

@[simp] theorem State.qualifyCombination_kept (t : StatusTest) :
    (s.qualifyCombination t).pending = s.pending ∧ (s.qualifyCombination t).phase = s.phase ∧
    (s.qualifyCombination t).cfg = s.cfg ∧ (s.qualifyCombination t).ownNumber = s.ownNumber ∧
    (s.qualifyCombination t).console = s.console ∧ (s.qualifyCombination t).tb = s.tb ∧
    (s.qualifyCombination t).marks = s.marks ∧ (s.qualifyCombination t).agr = s.agr ∧
    (s.qualifyCombination t).peers = s.peers ∧ (s.qualifyCombination t).chA = s.chA ∧
    (s.qualifyCombination t).chB = s.chB ∧ (s.qualifyCombination t).senderSeq = s.senderSeq ∧
    (s.qualifyCombination t).inputs = s.inputs ∧ (s.qualifyCombination t).notices = s.notices ∧
    (s.qualifyCombination t).groups = s.groups ∧ (s.qualifyCombination t).lockLife = s.lockLife ∧
    (s.qualifyCombination t).lockService = s.lockService ∧ (s.qualifyCombination t).supply = s.supply ∧
    (s.qualifyCombination t).req = s.req ∧ (s.qualifyCombination t).out = s.out ∧
    (s.qualifyCombination t).freeIndex = s.freeIndex ∧ (s.qualifyCombination t).store.pages = s.store.pages ∧
    (s.qualifyCombination t).store.journal = s.store.journal ∧
    (s.qualifyCombination t).store.shifts = s.store.shifts ∧ (s.qualifyCombination t).store.trips = s.store.trips ∧
    (s.qualifyCombination t).store.leftOut = s.store.leftOut ∧
    (s.qualifyCombination t).store.eraseList = s.store.eraseList ∧
    (s.qualifyCombination t).store.erase = s.store.erase ∧
    (s.qualifyCombination t).store.abandoned = s.store.abandoned ∧
    (s.qualifyCombination t).store.programming = s.store.programming := by
  unfold State.qualifyCombination; repeat' split
  all_goals simp

@[simp] theorem State.beginStatusTest_kept (n : Nat) :
    (s.beginStatusTest n).pending = s.pending ∧ (s.beginStatusTest n).phase = s.phase ∧
    (s.beginStatusTest n).cfg = s.cfg ∧ (s.beginStatusTest n).ownNumber = s.ownNumber ∧
    (s.beginStatusTest n).console = s.console ∧ (s.beginStatusTest n).tb = s.tb ∧
    (s.beginStatusTest n).marks = s.marks ∧ (s.beginStatusTest n).agr = s.agr ∧
    (s.beginStatusTest n).peers = s.peers ∧ (s.beginStatusTest n).chA = s.chA ∧ (s.beginStatusTest n).chB = s.chB ∧
    (s.beginStatusTest n).senderSeq = s.senderSeq ∧ (s.beginStatusTest n).inputs = s.inputs ∧
    (s.beginStatusTest n).notices = s.notices ∧ (s.beginStatusTest n).groups = s.groups ∧
    (s.beginStatusTest n).lockLife = s.lockLife ∧ (s.beginStatusTest n).lockService = s.lockService ∧
    (s.beginStatusTest n).supply = s.supply ∧ (s.beginStatusTest n).req = s.req ∧ (s.beginStatusTest n).out = s.out ∧
    (s.beginStatusTest n).freeIndex = s.freeIndex ∧ (s.beginStatusTest n).store.pages = s.store.pages ∧
    (s.beginStatusTest n).store.journal = s.store.journal ∧ (s.beginStatusTest n).store.shifts = s.store.shifts ∧
    (s.beginStatusTest n).store.trips = s.store.trips ∧ (s.beginStatusTest n).store.leftOut = s.store.leftOut ∧
    (s.beginStatusTest n).store.eraseList = s.store.eraseList ∧ (s.beginStatusTest n).store.erase = s.store.erase ∧
    (s.beginStatusTest n).store.abandoned = s.store.abandoned ∧
    (s.beginStatusTest n).store.programming = s.store.programming := by
  unfold State.beginStatusTest; split <;> simp

@[simp] theorem State.sampleStatus_kept (n : Nat) :
    (s.sampleStatus n).pending = s.pending ∧ (s.sampleStatus n).phase = s.phase ∧ (s.sampleStatus n).cfg = s.cfg ∧
    (s.sampleStatus n).ownNumber = s.ownNumber ∧ (s.sampleStatus n).console = s.console ∧
    (s.sampleStatus n).tb = s.tb ∧ (s.sampleStatus n).marks = s.marks ∧ (s.sampleStatus n).agr = s.agr ∧
    (s.sampleStatus n).peers = s.peers ∧ (s.sampleStatus n).chA = s.chA ∧ (s.sampleStatus n).chB = s.chB ∧
    (s.sampleStatus n).senderSeq = s.senderSeq ∧ (s.sampleStatus n).inputs = s.inputs ∧
    (s.sampleStatus n).notices = s.notices ∧ (s.sampleStatus n).groups = s.groups ∧
    (s.sampleStatus n).lockLife = s.lockLife ∧ (s.sampleStatus n).lockService = s.lockService ∧
    (s.sampleStatus n).supply = s.supply ∧ (s.sampleStatus n).req = s.req ∧ (s.sampleStatus n).out = s.out ∧
    (s.sampleStatus n).freeIndex = s.freeIndex ∧ (s.sampleStatus n).store.pages = s.store.pages ∧
    (s.sampleStatus n).store.journal = s.store.journal ∧ (s.sampleStatus n).store.shifts = s.store.shifts ∧
    (s.sampleStatus n).store.trips = s.store.trips ∧ (s.sampleStatus n).store.leftOut = s.store.leftOut ∧
    (s.sampleStatus n).store.eraseList = s.store.eraseList ∧ (s.sampleStatus n).store.erase = s.store.erase ∧
    (s.sampleStatus n).store.abandoned = s.store.abandoned ∧
    (s.sampleStatus n).store.programming = s.store.programming := by
  unfold State.sampleStatus; repeat' split
  all_goals simp

end Sys2Proof.Machine
end

