-- ==== Sys2Proof/Laws/KeptShift.lean ====
section
/-! SUPPORT. What the operations of the shift unit keep: for each, every field
of State (and of the store, where it changes the store) that it never changes. -/

namespace Sys2Proof.Machine

variable (s : State)

@[simp] theorem State.zeroDs_kept :
    (s.zeroDs).pending = s.pending ∧ (s.zeroDs).phase = s.phase ∧ (s.zeroDs).cfg = s.cfg ∧
    (s.zeroDs).ownNumber = s.ownNumber ∧ (s.zeroDs).console = s.console ∧ (s.zeroDs).flags = s.flags ∧
    (s.zeroDs).tb = s.tb ∧ (s.zeroDs).marks = s.marks ∧ (s.zeroDs).agr = s.agr ∧ (s.zeroDs).peers = s.peers ∧
    (s.zeroDs).chA = s.chA ∧ (s.zeroDs).chB = s.chB ∧ (s.zeroDs).senderSeq = s.senderSeq ∧
    (s.zeroDs).inputs = s.inputs ∧ (s.zeroDs).log = s.log ∧ (s.zeroDs).notices = s.notices ∧
    (s.zeroDs).groups = s.groups ∧ (s.zeroDs).lockLife = s.lockLife ∧ (s.zeroDs).lockService = s.lockService ∧
    (s.zeroDs).shift = s.shift ∧ (s.zeroDs).store = s.store ∧ (s.zeroDs).supply = s.supply ∧ (s.zeroDs).req = s.req ∧
    (s.zeroDs).out = s.out ∧ (s.zeroDs).freeIndex = s.freeIndex := by
  simp [State.zeroDs]

@[simp] theorem State.closeShift_kept (r : ShiftRecord) (t : StationTime) (c : CloseCause) (n : ShiftRecord) :
    (s.closeShift r t c n).pending = s.pending ∧ (s.closeShift r t c n).phase = s.phase ∧
    (s.closeShift r t c n).cfg = s.cfg ∧ (s.closeShift r t c n).ownNumber = s.ownNumber ∧
    (s.closeShift r t c n).console = s.console ∧ (s.closeShift r t c n).tb = s.tb ∧
    (s.closeShift r t c n).marks = s.marks ∧ (s.closeShift r t c n).agr = s.agr ∧
    (s.closeShift r t c n).peers = s.peers ∧ (s.closeShift r t c n).chA = s.chA ∧
    (s.closeShift r t c n).chB = s.chB ∧ (s.closeShift r t c n).senderSeq = s.senderSeq ∧
    (s.closeShift r t c n).inputs = s.inputs ∧ (s.closeShift r t c n).notices = s.notices ∧
    (s.closeShift r t c n).groups = s.groups ∧ (s.closeShift r t c n).lockLife = s.lockLife ∧
    (s.closeShift r t c n).lockService = s.lockService ∧ (s.closeShift r t c n).supply = s.supply ∧
    (s.closeShift r t c n).req = s.req ∧ (s.closeShift r t c n).out = s.out ∧
    (s.closeShift r t c n).freeIndex = s.freeIndex ∧ (s.closeShift r t c n).store.pages = s.store.pages ∧
    (s.closeShift r t c n).store.journal = s.store.journal ∧ (s.closeShift r t c n).store.shifts = s.store.shifts ∧
    (s.closeShift r t c n).store.trips = s.store.trips ∧ (s.closeShift r t c n).store.leftOut = s.store.leftOut ∧
    (s.closeShift r t c n).store.eraseList = s.store.eraseList ∧ (s.closeShift r t c n).store.erase = s.store.erase ∧
    (s.closeShift r t c n).store.abandoned = s.store.abandoned ∧
    (s.closeShift r t c n).store.programming = s.store.programming := by
  simp [State.closeShift]

@[simp] theorem State.forcedClose_kept (n : Nat) :
    (s.forcedClose n).pending = s.pending ∧ (s.forcedClose n).phase = s.phase ∧ (s.forcedClose n).cfg = s.cfg ∧
    (s.forcedClose n).ownNumber = s.ownNumber ∧ (s.forcedClose n).console = s.console ∧ (s.forcedClose n).tb = s.tb ∧
    (s.forcedClose n).marks = s.marks ∧ (s.forcedClose n).agr = s.agr ∧ (s.forcedClose n).peers = s.peers ∧
    (s.forcedClose n).chA = s.chA ∧ (s.forcedClose n).chB = s.chB ∧ (s.forcedClose n).senderSeq = s.senderSeq ∧
    (s.forcedClose n).inputs = s.inputs ∧ (s.forcedClose n).notices = s.notices ∧
    (s.forcedClose n).groups = s.groups ∧ (s.forcedClose n).lockLife = s.lockLife ∧
    (s.forcedClose n).lockService = s.lockService ∧ (s.forcedClose n).supply = s.supply ∧
    (s.forcedClose n).req = s.req ∧ (s.forcedClose n).out = s.out ∧ (s.forcedClose n).freeIndex = s.freeIndex ∧
    (s.forcedClose n).store.pages = s.store.pages ∧ (s.forcedClose n).store.journal = s.store.journal ∧
    (s.forcedClose n).store.shifts = s.store.shifts ∧ (s.forcedClose n).store.trips = s.store.trips ∧
    (s.forcedClose n).store.leftOut = s.store.leftOut ∧ (s.forcedClose n).store.eraseList = s.store.eraseList ∧
    (s.forcedClose n).store.erase = s.store.erase ∧ (s.forcedClose n).store.abandoned = s.store.abandoned ∧
    (s.forcedClose n).store.programming = s.store.programming := by
  simp [State.forcedClose]

@[simp] theorem State.evaluateDepth_kept (k : Nat) :
    (State.evaluateDepth k s).pending = s.pending ∧ (State.evaluateDepth k s).phase = s.phase ∧
    (State.evaluateDepth k s).cfg = s.cfg ∧ (State.evaluateDepth k s).ownNumber = s.ownNumber ∧
    (State.evaluateDepth k s).console = s.console ∧ (State.evaluateDepth k s).tb = s.tb ∧
    (State.evaluateDepth k s).marks = s.marks ∧ (State.evaluateDepth k s).agr = s.agr ∧
    (State.evaluateDepth k s).peers = s.peers ∧ (State.evaluateDepth k s).chA = s.chA ∧
    (State.evaluateDepth k s).chB = s.chB ∧ (State.evaluateDepth k s).senderSeq = s.senderSeq ∧
    (State.evaluateDepth k s).inputs = s.inputs ∧ (State.evaluateDepth k s).notices = s.notices ∧
    (State.evaluateDepth k s).groups = s.groups ∧ (State.evaluateDepth k s).lockLife = s.lockLife ∧
    (State.evaluateDepth k s).lockService = s.lockService ∧ (State.evaluateDepth k s).supply = s.supply ∧
    (State.evaluateDepth k s).req = s.req ∧ (State.evaluateDepth k s).out = s.out ∧
    (State.evaluateDepth k s).freeIndex = s.freeIndex ∧ (State.evaluateDepth k s).store.pages = s.store.pages ∧
    (State.evaluateDepth k s).store.journal = s.store.journal ∧
    (State.evaluateDepth k s).store.shifts = s.store.shifts ∧ (State.evaluateDepth k s).store.trips = s.store.trips ∧
    (State.evaluateDepth k s).store.leftOut = s.store.leftOut ∧
    (State.evaluateDepth k s).store.eraseList = s.store.eraseList ∧
    (State.evaluateDepth k s).store.erase = s.store.erase ∧
    (State.evaluateDepth k s).store.abandoned = s.store.abandoned ∧
    (State.evaluateDepth k s).store.programming = s.store.programming := by
  induction k generalizing s with
  | zero => simp [State.evaluateDepth]
  | succ k ih => unfold State.evaluateDepth; repeat' split
                 all_goals simp [ih]

@[simp] theorem State.evaluate_kept :
    (s.evaluate).pending = s.pending ∧ (s.evaluate).phase = s.phase ∧ (s.evaluate).cfg = s.cfg ∧
    (s.evaluate).ownNumber = s.ownNumber ∧ (s.evaluate).console = s.console ∧ (s.evaluate).tb = s.tb ∧
    (s.evaluate).marks = s.marks ∧ (s.evaluate).agr = s.agr ∧ (s.evaluate).peers = s.peers ∧
    (s.evaluate).chA = s.chA ∧ (s.evaluate).chB = s.chB ∧ (s.evaluate).senderSeq = s.senderSeq ∧
    (s.evaluate).inputs = s.inputs ∧ (s.evaluate).notices = s.notices ∧ (s.evaluate).groups = s.groups ∧
    (s.evaluate).lockLife = s.lockLife ∧ (s.evaluate).lockService = s.lockService ∧ (s.evaluate).supply = s.supply ∧
    (s.evaluate).req = s.req ∧ (s.evaluate).out = s.out ∧ (s.evaluate).freeIndex = s.freeIndex ∧
    (s.evaluate).store.pages = s.store.pages ∧ (s.evaluate).store.journal = s.store.journal ∧
    (s.evaluate).store.shifts = s.store.shifts ∧ (s.evaluate).store.trips = s.store.trips ∧
    (s.evaluate).store.leftOut = s.store.leftOut ∧ (s.evaluate).store.eraseList = s.store.eraseList ∧
    (s.evaluate).store.erase = s.store.erase ∧ (s.evaluate).store.abandoned = s.store.abandoned ∧
    (s.evaluate).store.programming = s.store.programming := by
  simp [State.evaluate]

@[simp] theorem State.firstEvaluation_kept :
    (s.firstEvaluation).pending = s.pending ∧ (s.firstEvaluation).phase = s.phase ∧ (s.firstEvaluation).cfg = s.cfg ∧
    (s.firstEvaluation).ownNumber = s.ownNumber ∧ (s.firstEvaluation).console = s.console ∧
    (s.firstEvaluation).tb = s.tb ∧ (s.firstEvaluation).marks = s.marks ∧ (s.firstEvaluation).agr = s.agr ∧
    (s.firstEvaluation).peers = s.peers ∧ (s.firstEvaluation).chA = s.chA ∧ (s.firstEvaluation).chB = s.chB ∧
    (s.firstEvaluation).senderSeq = s.senderSeq ∧ (s.firstEvaluation).inputs = s.inputs ∧
    (s.firstEvaluation).notices = s.notices ∧ (s.firstEvaluation).groups = s.groups ∧
    (s.firstEvaluation).lockLife = s.lockLife ∧ (s.firstEvaluation).lockService = s.lockService ∧
    (s.firstEvaluation).supply = s.supply ∧ (s.firstEvaluation).req = s.req ∧ (s.firstEvaluation).out = s.out ∧
    (s.firstEvaluation).freeIndex = s.freeIndex ∧ (s.firstEvaluation).store.pages = s.store.pages ∧
    (s.firstEvaluation).store.journal = s.store.journal ∧ (s.firstEvaluation).store.shifts = s.store.shifts ∧
    (s.firstEvaluation).store.trips = s.store.trips ∧ (s.firstEvaluation).store.leftOut = s.store.leftOut ∧
    (s.firstEvaluation).store.eraseList = s.store.eraseList ∧ (s.firstEvaluation).store.erase = s.store.erase ∧
    (s.firstEvaluation).store.abandoned = s.store.abandoned ∧
    (s.firstEvaluation).store.programming = s.store.programming := by
  unfold State.firstEvaluation; dsimp only; repeat' split
  all_goals simp

@[simp] theorem State.takeQuality_kept :
    (s.takeQuality).pending = s.pending ∧ (s.takeQuality).phase = s.phase ∧ (s.takeQuality).cfg = s.cfg ∧
    (s.takeQuality).ownNumber = s.ownNumber ∧ (s.takeQuality).console = s.console ∧ (s.takeQuality).flags = s.flags ∧
    (s.takeQuality).tb = s.tb ∧ (s.takeQuality).marks = s.marks ∧ (s.takeQuality).agr = s.agr ∧
    (s.takeQuality).peers = s.peers ∧ (s.takeQuality).chA = s.chA ∧ (s.takeQuality).chB = s.chB ∧
    (s.takeQuality).senderSeq = s.senderSeq ∧ (s.takeQuality).inputs = s.inputs ∧ (s.takeQuality).log = s.log ∧
    (s.takeQuality).notices = s.notices ∧ (s.takeQuality).groups = s.groups ∧ (s.takeQuality).tally = s.tally ∧
    (s.takeQuality).lockLife = s.lockLife ∧ (s.takeQuality).lockService = s.lockService ∧
    (s.takeQuality).store = s.store ∧ (s.takeQuality).supply = s.supply ∧ (s.takeQuality).req = s.req ∧
    (s.takeQuality).out = s.out ∧ (s.takeQuality).freeIndex = s.freeIndex := by
  simp [State.takeQuality]

@[simp] theorem State.countStep_kept (a : Int) :
    (s.countStep a).pending = s.pending ∧ (s.countStep a).phase = s.phase ∧ (s.countStep a).cfg = s.cfg ∧
    (s.countStep a).ownNumber = s.ownNumber ∧ (s.countStep a).console = s.console ∧ (s.countStep a).flags = s.flags ∧
    (s.countStep a).tb = s.tb ∧ (s.countStep a).marks = s.marks ∧ (s.countStep a).agr = s.agr ∧
    (s.countStep a).peers = s.peers ∧ (s.countStep a).chA = s.chA ∧ (s.countStep a).chB = s.chB ∧
    (s.countStep a).senderSeq = s.senderSeq ∧ (s.countStep a).inputs = s.inputs ∧ (s.countStep a).log = s.log ∧
    (s.countStep a).notices = s.notices ∧ (s.countStep a).groups = s.groups ∧ (s.countStep a).tally = s.tally ∧
    (s.countStep a).lockLife = s.lockLife ∧ (s.countStep a).lockService = s.lockService ∧
    (s.countStep a).store = s.store ∧ (s.countStep a).supply = s.supply ∧ (s.countStep a).req = s.req ∧
    (s.countStep a).out = s.out ∧ (s.countStep a).freeIndex = s.freeIndex := by
  simp [State.countStep]

@[simp] theorem State.strayNotice_kept :
    (s.strayNotice).pending = s.pending ∧ (s.strayNotice).phase = s.phase ∧ (s.strayNotice).cfg = s.cfg ∧
    (s.strayNotice).ownNumber = s.ownNumber ∧ (s.strayNotice).console = s.console ∧ (s.strayNotice).flags = s.flags ∧
    (s.strayNotice).tb = s.tb ∧ (s.strayNotice).marks = s.marks ∧ (s.strayNotice).agr = s.agr ∧
    (s.strayNotice).peers = s.peers ∧ (s.strayNotice).chA = s.chA ∧ (s.strayNotice).chB = s.chB ∧
    (s.strayNotice).senderSeq = s.senderSeq ∧ (s.strayNotice).inputs = s.inputs ∧ (s.strayNotice).log = s.log ∧
    (s.strayNotice).notices = s.notices ∧ (s.strayNotice).groups = s.groups ∧ (s.strayNotice).tally = s.tally ∧
    (s.strayNotice).lockLife = s.lockLife ∧ (s.strayNotice).lockService = s.lockService ∧
    (s.strayNotice).store = s.store ∧ (s.strayNotice).supply = s.supply ∧ (s.strayNotice).req = s.req ∧
    (s.strayNotice).out = s.out ∧ (s.strayNotice).freeIndex = s.freeIndex := by
  simp [State.strayNotice]

@[simp] theorem State.takeSignOff_kept (n : HandoverNotice) :
    (s.takeSignOff n).pending = s.pending ∧ (s.takeSignOff n).phase = s.phase ∧ (s.takeSignOff n).cfg = s.cfg ∧
    (s.takeSignOff n).ownNumber = s.ownNumber ∧ (s.takeSignOff n).console = s.console ∧
    (s.takeSignOff n).flags = s.flags ∧ (s.takeSignOff n).tb = s.tb ∧ (s.takeSignOff n).marks = s.marks ∧
    (s.takeSignOff n).agr = s.agr ∧ (s.takeSignOff n).peers = s.peers ∧ (s.takeSignOff n).chA = s.chA ∧
    (s.takeSignOff n).chB = s.chB ∧ (s.takeSignOff n).senderSeq = s.senderSeq ∧ (s.takeSignOff n).inputs = s.inputs ∧
    (s.takeSignOff n).log = s.log ∧ (s.takeSignOff n).notices = s.notices ∧ (s.takeSignOff n).groups = s.groups ∧
    (s.takeSignOff n).tally = s.tally ∧ (s.takeSignOff n).lockLife = s.lockLife ∧
    (s.takeSignOff n).lockService = s.lockService ∧ (s.takeSignOff n).store = s.store ∧
    (s.takeSignOff n).supply = s.supply ∧ (s.takeSignOff n).req = s.req ∧ (s.takeSignOff n).out = s.out ∧
    (s.takeSignOff n).freeIndex = s.freeIndex := by
  unfold State.takeSignOff; repeat' split
  all_goals simp

@[simp] theorem State.takeTakeOver_kept (n : HandoverNotice) :
    (s.takeTakeOver n).pending = s.pending ∧ (s.takeTakeOver n).phase = s.phase ∧ (s.takeTakeOver n).cfg = s.cfg ∧
    (s.takeTakeOver n).ownNumber = s.ownNumber ∧ (s.takeTakeOver n).console = s.console ∧
    (s.takeTakeOver n).tb = s.tb ∧ (s.takeTakeOver n).marks = s.marks ∧ (s.takeTakeOver n).agr = s.agr ∧
    (s.takeTakeOver n).peers = s.peers ∧ (s.takeTakeOver n).chA = s.chA ∧ (s.takeTakeOver n).chB = s.chB ∧
    (s.takeTakeOver n).senderSeq = s.senderSeq ∧ (s.takeTakeOver n).inputs = s.inputs ∧
    (s.takeTakeOver n).notices = s.notices ∧ (s.takeTakeOver n).groups = s.groups ∧
    (s.takeTakeOver n).lockLife = s.lockLife ∧ (s.takeTakeOver n).lockService = s.lockService ∧
    (s.takeTakeOver n).supply = s.supply ∧ (s.takeTakeOver n).req = s.req ∧ (s.takeTakeOver n).out = s.out ∧
    (s.takeTakeOver n).freeIndex = s.freeIndex ∧ (s.takeTakeOver n).store.pages = s.store.pages ∧
    (s.takeTakeOver n).store.journal = s.store.journal ∧ (s.takeTakeOver n).store.shifts = s.store.shifts ∧
    (s.takeTakeOver n).store.trips = s.store.trips ∧ (s.takeTakeOver n).store.leftOut = s.store.leftOut ∧
    (s.takeTakeOver n).store.eraseList = s.store.eraseList ∧ (s.takeTakeOver n).store.erase = s.store.erase ∧
    (s.takeTakeOver n).store.abandoned = s.store.abandoned ∧
    (s.takeTakeOver n).store.programming = s.store.programming := by
  unfold State.takeTakeOver; dsimp only; repeat' split
  all_goals simp

@[simp] theorem State.takeHandover_kept (n : HandoverNotice) :
    (s.takeHandover n).pending = s.pending ∧ (s.takeHandover n).phase = s.phase ∧ (s.takeHandover n).cfg = s.cfg ∧
    (s.takeHandover n).ownNumber = s.ownNumber ∧ (s.takeHandover n).console = s.console ∧
    (s.takeHandover n).tb = s.tb ∧ (s.takeHandover n).marks = s.marks ∧ (s.takeHandover n).agr = s.agr ∧
    (s.takeHandover n).peers = s.peers ∧ (s.takeHandover n).chA = s.chA ∧ (s.takeHandover n).chB = s.chB ∧
    (s.takeHandover n).senderSeq = s.senderSeq ∧ (s.takeHandover n).inputs = s.inputs ∧
    (s.takeHandover n).notices = s.notices ∧ (s.takeHandover n).groups = s.groups ∧
    (s.takeHandover n).lockLife = s.lockLife ∧ (s.takeHandover n).lockService = s.lockService ∧
    (s.takeHandover n).supply = s.supply ∧ (s.takeHandover n).req = s.req ∧ (s.takeHandover n).out = s.out ∧
    (s.takeHandover n).freeIndex = s.freeIndex ∧ (s.takeHandover n).store.pages = s.store.pages ∧
    (s.takeHandover n).store.journal = s.store.journal ∧ (s.takeHandover n).store.shifts = s.store.shifts ∧
    (s.takeHandover n).store.trips = s.store.trips ∧ (s.takeHandover n).store.leftOut = s.store.leftOut ∧
    (s.takeHandover n).store.eraseList = s.store.eraseList ∧ (s.takeHandover n).store.erase = s.store.erase ∧
    (s.takeHandover n).store.abandoned = s.store.abandoned ∧
    (s.takeHandover n).store.programming = s.store.programming := by
  unfold State.takeHandover; repeat' split
  all_goals simp

end Sys2Proof.Machine
end

