-- ==== Sys2Proof/Laws/KeptBus.lean ====
section
/-! SUPPORT. What the operations of the bus keep: for each, every field
of State (and of the store, where it changes the store) that it never changes. -/

namespace Sys2Proof.Machine

variable (s : State)

@[simp] theorem State.setLine_kept (ch : Channel) (lc : LineController) :
    (s.setLine ch lc).pending = s.pending ∧ (s.setLine ch lc).phase = s.phase ∧ (s.setLine ch lc).cfg = s.cfg ∧
    (s.setLine ch lc).ownNumber = s.ownNumber ∧ (s.setLine ch lc).console = s.console ∧
    (s.setLine ch lc).flags = s.flags ∧ (s.setLine ch lc).tb = s.tb ∧ (s.setLine ch lc).marks = s.marks ∧
    (s.setLine ch lc).agr = s.agr ∧ (s.setLine ch lc).peers = s.peers ∧ (s.setLine ch lc).senderSeq = s.senderSeq ∧
    (s.setLine ch lc).inputs = s.inputs ∧ (s.setLine ch lc).log = s.log ∧ (s.setLine ch lc).notices = s.notices ∧
    (s.setLine ch lc).groups = s.groups ∧ (s.setLine ch lc).tally = s.tally ∧
    (s.setLine ch lc).lockLife = s.lockLife ∧ (s.setLine ch lc).lockService = s.lockService ∧
    (s.setLine ch lc).shift = s.shift ∧ (s.setLine ch lc).store = s.store ∧ (s.setLine ch lc).supply = s.supply ∧
    (s.setLine ch lc).req = s.req ∧ (s.setLine ch lc).out = s.out ∧ (s.setLine ch lc).freeIndex = s.freeIndex := by
  cases ch <;> simp

@[simp] theorem State.loseCopy_kept (ch : Channel) (c : Copy) :
    (s.loseCopy ch c).pending = s.pending ∧ (s.loseCopy ch c).phase = s.phase ∧ (s.loseCopy ch c).cfg = s.cfg ∧
    (s.loseCopy ch c).ownNumber = s.ownNumber ∧ (s.loseCopy ch c).console = s.console ∧ (s.loseCopy ch c).tb = s.tb ∧
    (s.loseCopy ch c).marks = s.marks ∧ (s.loseCopy ch c).agr = s.agr ∧ (s.loseCopy ch c).peers = s.peers ∧
    (s.loseCopy ch c).senderSeq = s.senderSeq ∧ (s.loseCopy ch c).inputs = s.inputs ∧ (s.loseCopy ch c).log = s.log ∧
    (s.loseCopy ch c).notices = s.notices ∧ (s.loseCopy ch c).groups = s.groups ∧ (s.loseCopy ch c).tally = s.tally ∧
    (s.loseCopy ch c).lockLife = s.lockLife ∧ (s.loseCopy ch c).lockService = s.lockService ∧
    (s.loseCopy ch c).shift = s.shift ∧ (s.loseCopy ch c).store = s.store ∧ (s.loseCopy ch c).supply = s.supply ∧
    (s.loseCopy ch c).out = s.out ∧ (s.loseCopy ch c).freeIndex = s.freeIndex := by
  unfold State.loseCopy; dsimp only; repeat' split
  all_goals simp

@[simp] theorem State.takeBeacon_kept (ch : Channel) (r : Received) (p : Stamp) :
    (s.takeBeacon ch r p).pending = s.pending ∧ (s.takeBeacon ch r p).phase = s.phase ∧
    (s.takeBeacon ch r p).cfg = s.cfg ∧ (s.takeBeacon ch r p).ownNumber = s.ownNumber ∧
    (s.takeBeacon ch r p).console = s.console ∧ (s.takeBeacon ch r p).flags = s.flags ∧
    (s.takeBeacon ch r p).tb = s.tb ∧ (s.takeBeacon ch r p).marks = s.marks ∧ (s.takeBeacon ch r p).agr = s.agr ∧
    (s.takeBeacon ch r p).chA = s.chA ∧ (s.takeBeacon ch r p).chB = s.chB ∧
    (s.takeBeacon ch r p).senderSeq = s.senderSeq ∧ (s.takeBeacon ch r p).inputs = s.inputs ∧
    (s.takeBeacon ch r p).log = s.log ∧ (s.takeBeacon ch r p).notices = s.notices ∧
    (s.takeBeacon ch r p).groups = s.groups ∧ (s.takeBeacon ch r p).tally = s.tally ∧
    (s.takeBeacon ch r p).lockLife = s.lockLife ∧ (s.takeBeacon ch r p).lockService = s.lockService ∧
    (s.takeBeacon ch r p).shift = s.shift ∧ (s.takeBeacon ch r p).store = s.store ∧
    (s.takeBeacon ch r p).supply = s.supply ∧ (s.takeBeacon ch r p).req = s.req ∧
    (s.takeBeacon ch r p).freeIndex = s.freeIndex := by
  unfold State.takeBeacon; dsimp only; split <;> simp

@[simp] theorem State.enterNotice_kept (n : Notice) :
    (s.enterNotice n).pending = s.pending ∧ (s.enterNotice n).phase = s.phase ∧ (s.enterNotice n).cfg = s.cfg ∧
    (s.enterNotice n).ownNumber = s.ownNumber ∧ (s.enterNotice n).console = s.console ∧ (s.enterNotice n).tb = s.tb ∧
    (s.enterNotice n).marks = s.marks ∧ (s.enterNotice n).agr = s.agr ∧ (s.enterNotice n).peers = s.peers ∧
    (s.enterNotice n).chA = s.chA ∧ (s.enterNotice n).chB = s.chB ∧ (s.enterNotice n).senderSeq = s.senderSeq ∧
    (s.enterNotice n).inputs = s.inputs ∧ (s.enterNotice n).log = s.log ∧ (s.enterNotice n).groups = s.groups ∧
    (s.enterNotice n).tally = s.tally ∧ (s.enterNotice n).lockLife = s.lockLife ∧
    (s.enterNotice n).lockService = s.lockService ∧ (s.enterNotice n).shift = s.shift ∧
    (s.enterNotice n).store = s.store ∧ (s.enterNotice n).supply = s.supply ∧ (s.enterNotice n).req = s.req ∧
    (s.enterNotice n).out = s.out ∧ (s.enterNotice n).freeIndex = s.freeIndex := by
  unfold State.enterNotice; split <;> simp

@[simp] theorem State.offerNotice_kept (r : Received) :
    (s.offerNotice r).pending = s.pending ∧ (s.offerNotice r).phase = s.phase ∧ (s.offerNotice r).cfg = s.cfg ∧
    (s.offerNotice r).ownNumber = s.ownNumber ∧ (s.offerNotice r).console = s.console ∧ (s.offerNotice r).tb = s.tb ∧
    (s.offerNotice r).marks = s.marks ∧ (s.offerNotice r).agr = s.agr ∧ (s.offerNotice r).peers = s.peers ∧
    (s.offerNotice r).chA = s.chA ∧ (s.offerNotice r).chB = s.chB ∧ (s.offerNotice r).senderSeq = s.senderSeq ∧
    (s.offerNotice r).inputs = s.inputs ∧ (s.offerNotice r).log = s.log ∧ (s.offerNotice r).groups = s.groups ∧
    (s.offerNotice r).tally = s.tally ∧ (s.offerNotice r).lockLife = s.lockLife ∧
    (s.offerNotice r).lockService = s.lockService ∧ (s.offerNotice r).shift = s.shift ∧
    (s.offerNotice r).store = s.store ∧ (s.offerNotice r).supply = s.supply ∧ (s.offerNotice r).req = s.req ∧
    (s.offerNotice r).out = s.out ∧ (s.offerNotice r).freeIndex = s.freeIndex := by
  unfold State.offerNotice; dsimp only; split <;> simp

@[simp] theorem State.offerMember_kept (r : Received) :
    (s.offerMember r).pending = s.pending ∧ (s.offerMember r).phase = s.phase ∧ (s.offerMember r).cfg = s.cfg ∧
    (s.offerMember r).ownNumber = s.ownNumber ∧ (s.offerMember r).console = s.console ∧ (s.offerMember r).tb = s.tb ∧
    (s.offerMember r).marks = s.marks ∧ (s.offerMember r).agr = s.agr ∧ (s.offerMember r).peers = s.peers ∧
    (s.offerMember r).chA = s.chA ∧ (s.offerMember r).chB = s.chB ∧ (s.offerMember r).senderSeq = s.senderSeq ∧
    (s.offerMember r).inputs = s.inputs ∧ (s.offerMember r).notices = s.notices ∧ (s.offerMember r).tally = s.tally ∧
    (s.offerMember r).lockLife = s.lockLife ∧ (s.offerMember r).lockService = s.lockService ∧
    (s.offerMember r).supply = s.supply ∧ (s.offerMember r).req = s.req ∧ (s.offerMember r).out = s.out ∧
    (s.offerMember r).freeIndex = s.freeIndex ∧ (s.offerMember r).store.pages = s.store.pages ∧
    (s.offerMember r).store.journal = s.store.journal ∧ (s.offerMember r).store.shifts = s.store.shifts ∧
    (s.offerMember r).store.trips = s.store.trips ∧ (s.offerMember r).store.leftOut = s.store.leftOut ∧
    (s.offerMember r).store.image = s.store.image ∧ (s.offerMember r).store.eraseList = s.store.eraseList ∧
    (s.offerMember r).store.erase = s.store.erase ∧ (s.offerMember r).store.abandoned = s.store.abandoned ∧
    (s.offerMember r).store.programming = s.store.programming ∧ (s.offerMember r).store.timer = s.store.timer ∧
    (s.offerMember r).store.dropped = s.store.dropped := by
  unfold State.offerMember; dsimp only; split <;> simp

@[simp] theorem State.enterRequest_kept (r : Request) :
    (s.enterRequest r).pending = s.pending ∧ (s.enterRequest r).phase = s.phase ∧ (s.enterRequest r).cfg = s.cfg ∧
    (s.enterRequest r).ownNumber = s.ownNumber ∧ (s.enterRequest r).console = s.console ∧
    (s.enterRequest r).flags = s.flags ∧ (s.enterRequest r).tb = s.tb ∧ (s.enterRequest r).marks = s.marks ∧
    (s.enterRequest r).agr = s.agr ∧ (s.enterRequest r).peers = s.peers ∧ (s.enterRequest r).chA = s.chA ∧
    (s.enterRequest r).chB = s.chB ∧ (s.enterRequest r).senderSeq = s.senderSeq ∧
    (s.enterRequest r).inputs = s.inputs ∧ (s.enterRequest r).log = s.log ∧ (s.enterRequest r).notices = s.notices ∧
    (s.enterRequest r).groups = s.groups ∧ (s.enterRequest r).tally = s.tally ∧
    (s.enterRequest r).lockLife = s.lockLife ∧ (s.enterRequest r).lockService = s.lockService ∧
    (s.enterRequest r).shift = s.shift ∧ (s.enterRequest r).store = s.store ∧ (s.enterRequest r).supply = s.supply ∧
    (s.enterRequest r).out = s.out ∧ (s.enterRequest r).freeIndex = s.freeIndex := by
  unfold State.enterRequest; split <;> simp

@[simp] theorem State.route_kept (ch : Channel) (r : Received) (p : Stamp) :
    (s.route ch r p).pending = s.pending ∧ (s.route ch r p).phase = s.phase ∧ (s.route ch r p).cfg = s.cfg ∧
    (s.route ch r p).ownNumber = s.ownNumber ∧ (s.route ch r p).console = s.console ∧ (s.route ch r p).tb = s.tb ∧
    (s.route ch r p).marks = s.marks ∧ (s.route ch r p).agr = s.agr ∧ (s.route ch r p).chA = s.chA ∧
    (s.route ch r p).chB = s.chB ∧ (s.route ch r p).senderSeq = s.senderSeq ∧ (s.route ch r p).inputs = s.inputs ∧
    (s.route ch r p).lockLife = s.lockLife ∧ (s.route ch r p).lockService = s.lockService ∧
    (s.route ch r p).supply = s.supply ∧ (s.route ch r p).freeIndex = s.freeIndex ∧
    (s.route ch r p).store.pages = s.store.pages ∧ (s.route ch r p).store.journal = s.store.journal ∧
    (s.route ch r p).store.shifts = s.store.shifts ∧ (s.route ch r p).store.trips = s.store.trips ∧
    (s.route ch r p).store.leftOut = s.store.leftOut ∧ (s.route ch r p).store.eraseList = s.store.eraseList ∧
    (s.route ch r p).store.erase = s.store.erase ∧ (s.route ch r p).store.abandoned = s.store.abandoned ∧
    (s.route ch r p).store.programming = s.store.programming := by
  unfold State.route; repeat' split
  all_goals simp

@[simp] theorem State.receive_kept (ch : Channel) (r : Received) (p : Stamp) :
    (s.receive ch r p).pending = s.pending ∧ (s.receive ch r p).phase = s.phase ∧ (s.receive ch r p).cfg = s.cfg ∧
    (s.receive ch r p).ownNumber = s.ownNumber ∧ (s.receive ch r p).console = s.console ∧
    (s.receive ch r p).tb = s.tb ∧ (s.receive ch r p).marks = s.marks ∧ (s.receive ch r p).agr = s.agr ∧
    (s.receive ch r p).chA = s.chA ∧ (s.receive ch r p).chB = s.chB ∧ (s.receive ch r p).senderSeq = s.senderSeq ∧
    (s.receive ch r p).inputs = s.inputs ∧ (s.receive ch r p).lockLife = s.lockLife ∧
    (s.receive ch r p).lockService = s.lockService ∧ (s.receive ch r p).supply = s.supply ∧
    (s.receive ch r p).freeIndex = s.freeIndex ∧ (s.receive ch r p).store.pages = s.store.pages ∧
    (s.receive ch r p).store.journal = s.store.journal ∧ (s.receive ch r p).store.shifts = s.store.shifts ∧
    (s.receive ch r p).store.trips = s.store.trips ∧ (s.receive ch r p).store.leftOut = s.store.leftOut ∧
    (s.receive ch r p).store.eraseList = s.store.eraseList ∧ (s.receive ch r p).store.erase = s.store.erase ∧
    (s.receive ch r p).store.abandoned = s.store.abandoned ∧
    (s.receive ch r p).store.programming = s.store.programming := by
  unfold State.receive; dsimp only; repeat' split
  all_goals simp

end Sys2Proof.Machine
end

