-- ==== Sys2Proof/Laws/KeptInputs.lean ====
section
/-! SUPPORT. What the operations of the input unit keep: for each, every field
of State (and of the store, where it changes the store) that it never changes. -/

namespace Sys2Proof.Machine

variable (s : State)

@[simp] theorem State.reportInput_kept (k : InputKind) (i : Nat) (l : Bool) (d : Dating) (x : Bool) :
    (s.reportInput k i l d x).pending = s.pending ∧ (s.reportInput k i l d x).phase = s.phase ∧
    (s.reportInput k i l d x).cfg = s.cfg ∧ (s.reportInput k i l d x).ownNumber = s.ownNumber ∧
    (s.reportInput k i l d x).console = s.console ∧ (s.reportInput k i l d x).tb = s.tb ∧
    (s.reportInput k i l d x).marks = s.marks ∧ (s.reportInput k i l d x).agr = s.agr ∧
    (s.reportInput k i l d x).peers = s.peers ∧ (s.reportInput k i l d x).inputs = s.inputs ∧
    (s.reportInput k i l d x).notices = s.notices ∧ (s.reportInput k i l d x).groups = s.groups ∧
    (s.reportInput k i l d x).tally = s.tally ∧ (s.reportInput k i l d x).lockLife = s.lockLife ∧
    (s.reportInput k i l d x).lockService = s.lockService ∧ (s.reportInput k i l d x).shift = s.shift ∧
    (s.reportInput k i l d x).supply = s.supply ∧ (s.reportInput k i l d x).out = s.out ∧
    (s.reportInput k i l d x).freeIndex = s.freeIndex ∧ (s.reportInput k i l d x).store.pages = s.store.pages ∧
    (s.reportInput k i l d x).store.journal = s.store.journal ∧
    (s.reportInput k i l d x).store.shifts = s.store.shifts ∧ (s.reportInput k i l d x).store.trips = s.store.trips ∧
    (s.reportInput k i l d x).store.leftOut = s.store.leftOut ∧
    (s.reportInput k i l d x).store.image = s.store.image ∧
    (s.reportInput k i l d x).store.eraseList = s.store.eraseList ∧
    (s.reportInput k i l d x).store.erase = s.store.erase ∧
    (s.reportInput k i l d x).store.abandoned = s.store.abandoned ∧
    (s.reportInput k i l d x).store.programming = s.store.programming ∧
    (s.reportInput k i l d x).store.timer = s.store.timer ∧
    (s.reportInput k i l d x).store.dropped = s.store.dropped := by
  unfold State.reportInput; dsimp only; split <;> simp

@[simp] theorem State.takeTrip_kept (i n : Nat) (d : Dating) :
    (s.takeTrip i n d).pending = s.pending ∧ (s.takeTrip i n d).phase = s.phase ∧ (s.takeTrip i n d).cfg = s.cfg ∧
    (s.takeTrip i n d).ownNumber = s.ownNumber ∧ (s.takeTrip i n d).console = s.console ∧
    (s.takeTrip i n d).tb = s.tb ∧ (s.takeTrip i n d).marks = s.marks ∧ (s.takeTrip i n d).agr = s.agr ∧
    (s.takeTrip i n d).peers = s.peers ∧ (s.takeTrip i n d).chA = s.chA ∧ (s.takeTrip i n d).chB = s.chB ∧
    (s.takeTrip i n d).senderSeq = s.senderSeq ∧ (s.takeTrip i n d).inputs = s.inputs ∧
    (s.takeTrip i n d).notices = s.notices ∧ (s.takeTrip i n d).tally = s.tally ∧
    (s.takeTrip i n d).lockLife = s.lockLife ∧ (s.takeTrip i n d).lockService = s.lockService ∧
    (s.takeTrip i n d).supply = s.supply ∧ (s.takeTrip i n d).req = s.req ∧ (s.takeTrip i n d).out = s.out ∧
    (s.takeTrip i n d).freeIndex = s.freeIndex ∧ (s.takeTrip i n d).store.pages = s.store.pages ∧
    (s.takeTrip i n d).store.journal = s.store.journal ∧ (s.takeTrip i n d).store.shifts = s.store.shifts ∧
    (s.takeTrip i n d).store.trips = s.store.trips ∧ (s.takeTrip i n d).store.leftOut = s.store.leftOut ∧
    (s.takeTrip i n d).store.image = s.store.image ∧ (s.takeTrip i n d).store.eraseList = s.store.eraseList ∧
    (s.takeTrip i n d).store.erase = s.store.erase ∧ (s.takeTrip i n d).store.abandoned = s.store.abandoned ∧
    (s.takeTrip i n d).store.programming = s.store.programming ∧ (s.takeTrip i n d).store.timer = s.store.timer ∧
    (s.takeTrip i n d).store.dropped = s.store.dropped := by
  unfold State.takeTrip; dsimp only; split <;> simp

@[simp] theorem State.inputChange_kept (i : Nat) (t : InputTest) (x : Bool) :
    (s.inputChange i t x).pending = s.pending ∧ (s.inputChange i t x).phase = s.phase ∧
    (s.inputChange i t x).cfg = s.cfg ∧ (s.inputChange i t x).ownNumber = s.ownNumber ∧
    (s.inputChange i t x).console = s.console ∧ (s.inputChange i t x).tb = s.tb ∧
    (s.inputChange i t x).marks = s.marks ∧ (s.inputChange i t x).agr = s.agr ∧
    (s.inputChange i t x).peers = s.peers ∧ (s.inputChange i t x).inputs = s.inputs ∧
    (s.inputChange i t x).notices = s.notices ∧ (s.inputChange i t x).tally = s.tally ∧
    (s.inputChange i t x).lockLife = s.lockLife ∧ (s.inputChange i t x).lockService = s.lockService ∧
    (s.inputChange i t x).supply = s.supply ∧ (s.inputChange i t x).out = s.out ∧
    (s.inputChange i t x).freeIndex = s.freeIndex ∧ (s.inputChange i t x).store.pages = s.store.pages ∧
    (s.inputChange i t x).store.journal = s.store.journal ∧ (s.inputChange i t x).store.shifts = s.store.shifts ∧
    (s.inputChange i t x).store.trips = s.store.trips ∧ (s.inputChange i t x).store.leftOut = s.store.leftOut ∧
    (s.inputChange i t x).store.image = s.store.image ∧ (s.inputChange i t x).store.eraseList = s.store.eraseList ∧
    (s.inputChange i t x).store.erase = s.store.erase ∧ (s.inputChange i t x).store.abandoned = s.store.abandoned ∧
    (s.inputChange i t x).store.programming = s.store.programming ∧
    (s.inputChange i t x).store.timer = s.store.timer ∧ (s.inputChange i t x).store.dropped = s.store.dropped := by
  unfold State.inputChange; dsimp only; split <;> simp

@[simp] theorem State.associate_kept (i : Nat) (t : InputTest) :
    (s.associate i t).pending = s.pending ∧ (s.associate i t).phase = s.phase ∧ (s.associate i t).cfg = s.cfg ∧
    (s.associate i t).ownNumber = s.ownNumber ∧ (s.associate i t).console = s.console ∧
    (s.associate i t).flags = s.flags ∧ (s.associate i t).tb = s.tb ∧ (s.associate i t).marks = s.marks ∧
    (s.associate i t).agr = s.agr ∧ (s.associate i t).peers = s.peers ∧ (s.associate i t).chA = s.chA ∧
    (s.associate i t).chB = s.chB ∧ (s.associate i t).senderSeq = s.senderSeq ∧ (s.associate i t).inputs = s.inputs ∧
    (s.associate i t).log = s.log ∧ (s.associate i t).notices = s.notices ∧ (s.associate i t).groups = s.groups ∧
    (s.associate i t).lockLife = s.lockLife ∧ (s.associate i t).lockService = s.lockService ∧
    (s.associate i t).shift = s.shift ∧ (s.associate i t).store = s.store ∧ (s.associate i t).supply = s.supply ∧
    (s.associate i t).req = s.req ∧ (s.associate i t).out = s.out ∧ (s.associate i t).freeIndex = s.freeIndex := by
  unfold State.associate; split <;> simp

@[simp] theorem State.inputEvent_kept (i : Nat) (c : InputChannel) (t : InputTest) :
    (s.inputEvent i c t).pending = s.pending ∧ (s.inputEvent i c t).phase = s.phase ∧
    (s.inputEvent i c t).cfg = s.cfg ∧ (s.inputEvent i c t).ownNumber = s.ownNumber ∧
    (s.inputEvent i c t).console = s.console ∧ (s.inputEvent i c t).tb = s.tb ∧
    (s.inputEvent i c t).marks = s.marks ∧ (s.inputEvent i c t).agr = s.agr ∧ (s.inputEvent i c t).peers = s.peers ∧
    (s.inputEvent i c t).notices = s.notices ∧ (s.inputEvent i c t).lockLife = s.lockLife ∧
    (s.inputEvent i c t).lockService = s.lockService ∧ (s.inputEvent i c t).supply = s.supply ∧
    (s.inputEvent i c t).out = s.out ∧ (s.inputEvent i c t).freeIndex = s.freeIndex ∧
    (s.inputEvent i c t).store.pages = s.store.pages ∧ (s.inputEvent i c t).store.journal = s.store.journal ∧
    (s.inputEvent i c t).store.shifts = s.store.shifts ∧ (s.inputEvent i c t).store.trips = s.store.trips ∧
    (s.inputEvent i c t).store.leftOut = s.store.leftOut ∧ (s.inputEvent i c t).store.image = s.store.image ∧
    (s.inputEvent i c t).store.eraseList = s.store.eraseList ∧ (s.inputEvent i c t).store.erase = s.store.erase ∧
    (s.inputEvent i c t).store.abandoned = s.store.abandoned ∧
    (s.inputEvent i c t).store.programming = s.store.programming ∧ (s.inputEvent i c t).store.timer = s.store.timer ∧
    (s.inputEvent i c t).store.dropped = s.store.dropped := by
  unfold State.inputEvent; dsimp only; repeat' split
  all_goals simp

@[simp] theorem State.inputQualifies_kept (i : Nat) (c : InputChannel) (t : InputTest) :
    (s.inputQualifies i c t).pending = s.pending ∧ (s.inputQualifies i c t).phase = s.phase ∧
    (s.inputQualifies i c t).cfg = s.cfg ∧ (s.inputQualifies i c t).ownNumber = s.ownNumber ∧
    (s.inputQualifies i c t).console = s.console ∧ (s.inputQualifies i c t).tb = s.tb ∧
    (s.inputQualifies i c t).marks = s.marks ∧ (s.inputQualifies i c t).agr = s.agr ∧
    (s.inputQualifies i c t).peers = s.peers ∧ (s.inputQualifies i c t).notices = s.notices ∧
    (s.inputQualifies i c t).lockLife = s.lockLife ∧ (s.inputQualifies i c t).lockService = s.lockService ∧
    (s.inputQualifies i c t).supply = s.supply ∧ (s.inputQualifies i c t).out = s.out ∧
    (s.inputQualifies i c t).freeIndex = s.freeIndex ∧ (s.inputQualifies i c t).store.pages = s.store.pages ∧
    (s.inputQualifies i c t).store.journal = s.store.journal ∧
    (s.inputQualifies i c t).store.shifts = s.store.shifts ∧ (s.inputQualifies i c t).store.trips = s.store.trips ∧
    (s.inputQualifies i c t).store.leftOut = s.store.leftOut ∧ (s.inputQualifies i c t).store.image = s.store.image ∧
    (s.inputQualifies i c t).store.eraseList = s.store.eraseList ∧
    (s.inputQualifies i c t).store.erase = s.store.erase ∧
    (s.inputQualifies i c t).store.abandoned = s.store.abandoned ∧
    (s.inputQualifies i c t).store.programming = s.store.programming ∧
    (s.inputQualifies i c t).store.timer = s.store.timer ∧
    (s.inputQualifies i c t).store.dropped = s.store.dropped := by
  unfold State.inputQualifies; split <;> simp

@[simp] theorem State.sampleInput_kept (l : BitVec 16) (i : Nat) :
    (s.sampleInput l i).pending = s.pending ∧ (s.sampleInput l i).phase = s.phase ∧ (s.sampleInput l i).cfg = s.cfg ∧
    (s.sampleInput l i).ownNumber = s.ownNumber ∧ (s.sampleInput l i).console = s.console ∧
    (s.sampleInput l i).tb = s.tb ∧ (s.sampleInput l i).marks = s.marks ∧ (s.sampleInput l i).agr = s.agr ∧
    (s.sampleInput l i).peers = s.peers ∧ (s.sampleInput l i).notices = s.notices ∧
    (s.sampleInput l i).lockLife = s.lockLife ∧ (s.sampleInput l i).lockService = s.lockService ∧
    (s.sampleInput l i).supply = s.supply ∧ (s.sampleInput l i).out = s.out ∧
    (s.sampleInput l i).freeIndex = s.freeIndex ∧ (s.sampleInput l i).store.pages = s.store.pages ∧
    (s.sampleInput l i).store.journal = s.store.journal ∧ (s.sampleInput l i).store.shifts = s.store.shifts ∧
    (s.sampleInput l i).store.trips = s.store.trips ∧ (s.sampleInput l i).store.leftOut = s.store.leftOut ∧
    (s.sampleInput l i).store.image = s.store.image ∧ (s.sampleInput l i).store.eraseList = s.store.eraseList ∧
    (s.sampleInput l i).store.erase = s.store.erase ∧ (s.sampleInput l i).store.abandoned = s.store.abandoned ∧
    (s.sampleInput l i).store.programming = s.store.programming ∧ (s.sampleInput l i).store.timer = s.store.timer ∧
    (s.sampleInput l i).store.dropped = s.store.dropped := by
  unfold State.sampleInput; dsimp only; repeat' split
  all_goals simp

@[simp] theorem State.sampleInputs_kept (l : BitVec 16) (is : List Nat) :
    (is.foldl (fun t i => t.sampleInput l i) s).pending = s.pending ∧
    (is.foldl (fun t i => t.sampleInput l i) s).phase = s.phase ∧
    (is.foldl (fun t i => t.sampleInput l i) s).cfg = s.cfg ∧
    (is.foldl (fun t i => t.sampleInput l i) s).ownNumber = s.ownNumber ∧
    (is.foldl (fun t i => t.sampleInput l i) s).console = s.console ∧
    (is.foldl (fun t i => t.sampleInput l i) s).tb = s.tb ∧
    (is.foldl (fun t i => t.sampleInput l i) s).marks = s.marks ∧
    (is.foldl (fun t i => t.sampleInput l i) s).agr = s.agr ∧
    (is.foldl (fun t i => t.sampleInput l i) s).peers = s.peers ∧
    (is.foldl (fun t i => t.sampleInput l i) s).notices = s.notices ∧
    (is.foldl (fun t i => t.sampleInput l i) s).lockLife = s.lockLife ∧
    (is.foldl (fun t i => t.sampleInput l i) s).lockService = s.lockService ∧
    (is.foldl (fun t i => t.sampleInput l i) s).supply = s.supply ∧
    (is.foldl (fun t i => t.sampleInput l i) s).out = s.out ∧
    (is.foldl (fun t i => t.sampleInput l i) s).freeIndex = s.freeIndex ∧
    (is.foldl (fun t i => t.sampleInput l i) s).store.pages = s.store.pages ∧
    (is.foldl (fun t i => t.sampleInput l i) s).store.journal = s.store.journal ∧
    (is.foldl (fun t i => t.sampleInput l i) s).store.shifts = s.store.shifts ∧
    (is.foldl (fun t i => t.sampleInput l i) s).store.trips = s.store.trips ∧
    (is.foldl (fun t i => t.sampleInput l i) s).store.leftOut = s.store.leftOut ∧
    (is.foldl (fun t i => t.sampleInput l i) s).store.image = s.store.image ∧
    (is.foldl (fun t i => t.sampleInput l i) s).store.eraseList = s.store.eraseList ∧
    (is.foldl (fun t i => t.sampleInput l i) s).store.erase = s.store.erase ∧
    (is.foldl (fun t i => t.sampleInput l i) s).store.abandoned = s.store.abandoned ∧
    (is.foldl (fun t i => t.sampleInput l i) s).store.programming = s.store.programming ∧
    (is.foldl (fun t i => t.sampleInput l i) s).store.timer = s.store.timer ∧
    (is.foldl (fun t i => t.sampleInput l i) s).store.dropped = s.store.dropped := by
  induction is generalizing s with
  | nil => simp
  | cons i is ih => simp [ih]

end Sys2Proof.Machine
end

