-- ==== Sys2Proof/Laws/KeptRequests.lean ====
section
/-! SUPPORT. What the operations of the request handler keep: for each, every field
of State (and of the store, where it changes the store) that it never changes. -/

namespace Sys2Proof.Machine

variable (s : State)

@[simp] theorem State.beginRead_kept (r : Request) :
    (s.beginRead r).pending = s.pending ∧ (s.beginRead r).phase = s.phase ∧ (s.beginRead r).cfg = s.cfg ∧
    (s.beginRead r).ownNumber = s.ownNumber ∧ (s.beginRead r).console = s.console ∧ (s.beginRead r).tb = s.tb ∧
    (s.beginRead r).marks = s.marks ∧ (s.beginRead r).agr = s.agr ∧ (s.beginRead r).peers = s.peers ∧
    (s.beginRead r).inputs = s.inputs ∧ (s.beginRead r).log = s.log ∧ (s.beginRead r).notices = s.notices ∧
    (s.beginRead r).groups = s.groups ∧ (s.beginRead r).tally = s.tally ∧ (s.beginRead r).lockLife = s.lockLife ∧
    (s.beginRead r).lockService = s.lockService ∧ (s.beginRead r).shift = s.shift ∧ (s.beginRead r).store = s.store ∧
    (s.beginRead r).supply = s.supply ∧ (s.beginRead r).freeIndex = s.freeIndex := by
  unfold State.beginRead; split <;> simp

@[simp] theorem State.lock_kept (t : TallySet) :
    (s.lock t).pending = s.pending ∧ (s.lock t).phase = s.phase ∧ (s.lock t).cfg = s.cfg ∧
    (s.lock t).ownNumber = s.ownNumber ∧ (s.lock t).console = s.console ∧ (s.lock t).flags = s.flags ∧
    (s.lock t).tb = s.tb ∧ (s.lock t).marks = s.marks ∧ (s.lock t).agr = s.agr ∧ (s.lock t).peers = s.peers ∧
    (s.lock t).chA = s.chA ∧ (s.lock t).chB = s.chB ∧ (s.lock t).senderSeq = s.senderSeq ∧
    (s.lock t).inputs = s.inputs ∧ (s.lock t).log = s.log ∧ (s.lock t).notices = s.notices ∧
    (s.lock t).groups = s.groups ∧ (s.lock t).tally = s.tally ∧ (s.lock t).shift = s.shift ∧
    (s.lock t).store = s.store ∧ (s.lock t).supply = s.supply ∧ (s.lock t).req = s.req ∧ (s.lock t).out = s.out ∧
    (s.lock t).freeIndex = s.freeIndex := by
  cases t <;> simp [State.lock]

@[simp] theorem State.clearFlags_kept (r : Request) :
    (s.clearFlags r).pending = s.pending ∧ (s.clearFlags r).phase = s.phase ∧ (s.clearFlags r).cfg = s.cfg ∧
    (s.clearFlags r).ownNumber = s.ownNumber ∧ (s.clearFlags r).console = s.console ∧ (s.clearFlags r).tb = s.tb ∧
    (s.clearFlags r).marks = s.marks ∧ (s.clearFlags r).agr = s.agr ∧ (s.clearFlags r).peers = s.peers ∧
    (s.clearFlags r).chA = s.chA ∧ (s.clearFlags r).chB = s.chB ∧ (s.clearFlags r).senderSeq = s.senderSeq ∧
    (s.clearFlags r).inputs = s.inputs ∧ (s.clearFlags r).log = s.log ∧ (s.clearFlags r).notices = s.notices ∧
    (s.clearFlags r).groups = s.groups ∧ (s.clearFlags r).tally = s.tally ∧ (s.clearFlags r).lockLife = s.lockLife ∧
    (s.clearFlags r).lockService = s.lockService ∧ (s.clearFlags r).shift = s.shift ∧
    (s.clearFlags r).supply = s.supply ∧ (s.clearFlags r).req = s.req ∧ (s.clearFlags r).out = s.out ∧
    (s.clearFlags r).freeIndex = s.freeIndex ∧ (s.clearFlags r).store.pages = s.store.pages ∧
    (s.clearFlags r).store.leftOut = s.store.leftOut ∧ (s.clearFlags r).store.queue = s.store.queue ∧
    (s.clearFlags r).store.image = s.store.image ∧ (s.clearFlags r).store.eraseList = s.store.eraseList ∧
    (s.clearFlags r).store.erase = s.store.erase ∧ (s.clearFlags r).store.abandoned = s.store.abandoned ∧
    (s.clearFlags r).store.programming = s.store.programming ∧ (s.clearFlags r).store.timer = s.store.timer ∧
    (s.clearFlags r).store.dropped = s.store.dropped := by
  unfold State.clearFlags; dsimp only; split <;> simp [Store.clearStopped]

@[simp] theorem State.serveClearFlags_kept (r : Request) :
    (s.serveClearFlags r).pending = s.pending ∧ (s.serveClearFlags r).phase = s.phase ∧
    (s.serveClearFlags r).cfg = s.cfg ∧ (s.serveClearFlags r).ownNumber = s.ownNumber ∧
    (s.serveClearFlags r).console = s.console ∧ (s.serveClearFlags r).tb = s.tb ∧
    (s.serveClearFlags r).marks = s.marks ∧ (s.serveClearFlags r).agr = s.agr ∧
    (s.serveClearFlags r).peers = s.peers ∧ (s.serveClearFlags r).chA = s.chA ∧ (s.serveClearFlags r).chB = s.chB ∧
    (s.serveClearFlags r).senderSeq = s.senderSeq ∧ (s.serveClearFlags r).inputs = s.inputs ∧
    (s.serveClearFlags r).log = s.log ∧ (s.serveClearFlags r).notices = s.notices ∧
    (s.serveClearFlags r).groups = s.groups ∧ (s.serveClearFlags r).tally = s.tally ∧
    (s.serveClearFlags r).lockLife = s.lockLife ∧ (s.serveClearFlags r).lockService = s.lockService ∧
    (s.serveClearFlags r).shift = s.shift ∧ (s.serveClearFlags r).supply = s.supply ∧
    (s.serveClearFlags r).out = s.out ∧ (s.serveClearFlags r).freeIndex = s.freeIndex ∧
    (s.serveClearFlags r).store.pages = s.store.pages ∧ (s.serveClearFlags r).store.leftOut = s.store.leftOut ∧
    (s.serveClearFlags r).store.queue = s.store.queue ∧ (s.serveClearFlags r).store.image = s.store.image ∧
    (s.serveClearFlags r).store.eraseList = s.store.eraseList ∧ (s.serveClearFlags r).store.erase = s.store.erase ∧
    (s.serveClearFlags r).store.abandoned = s.store.abandoned ∧
    (s.serveClearFlags r).store.programming = s.store.programming ∧
    (s.serveClearFlags r).store.timer = s.store.timer ∧ (s.serveClearFlags r).store.dropped = s.store.dropped := by
  simp [State.serveClearFlags]

@[simp] theorem State.judgePreset_kept :
    (s.judgePreset).pending = s.pending ∧ (s.judgePreset).phase = s.phase ∧ (s.judgePreset).cfg = s.cfg ∧
    (s.judgePreset).ownNumber = s.ownNumber ∧ (s.judgePreset).console = s.console ∧ (s.judgePreset).tb = s.tb ∧
    (s.judgePreset).marks = s.marks ∧ (s.judgePreset).agr = s.agr ∧ (s.judgePreset).peers = s.peers ∧
    (s.judgePreset).chA = s.chA ∧ (s.judgePreset).chB = s.chB ∧ (s.judgePreset).senderSeq = s.senderSeq ∧
    (s.judgePreset).inputs = s.inputs ∧ (s.judgePreset).notices = s.notices ∧ (s.judgePreset).groups = s.groups ∧
    (s.judgePreset).lockLife = s.lockLife ∧ (s.judgePreset).lockService = s.lockService ∧
    (s.judgePreset).shift = s.shift ∧ (s.judgePreset).supply = s.supply ∧ (s.judgePreset).req = s.req ∧
    (s.judgePreset).out = s.out ∧ (s.judgePreset).freeIndex = s.freeIndex ∧
    (s.judgePreset).store.pages = s.store.pages ∧ (s.judgePreset).store.journal = s.store.journal ∧
    (s.judgePreset).store.shifts = s.store.shifts ∧ (s.judgePreset).store.trips = s.store.trips ∧
    (s.judgePreset).store.leftOut = s.store.leftOut ∧ (s.judgePreset).store.image = s.store.image ∧
    (s.judgePreset).store.eraseList = s.store.eraseList ∧ (s.judgePreset).store.erase = s.store.erase ∧
    (s.judgePreset).store.abandoned = s.store.abandoned ∧ (s.judgePreset).store.programming = s.store.programming ∧
    (s.judgePreset).store.timer = s.store.timer ∧ (s.judgePreset).store.dropped = s.store.dropped := by
  unfold State.judgePreset; split <;> simp

@[simp] theorem State.preset_kept (t : TallyTarget) (v : Nat) :
    (s.preset t v).pending = s.pending ∧ (s.preset t v).phase = s.phase ∧ (s.preset t v).cfg = s.cfg ∧
    (s.preset t v).ownNumber = s.ownNumber ∧ (s.preset t v).console = s.console ∧ (s.preset t v).tb = s.tb ∧
    (s.preset t v).marks = s.marks ∧ (s.preset t v).agr = s.agr ∧ (s.preset t v).peers = s.peers ∧
    (s.preset t v).chA = s.chA ∧ (s.preset t v).chB = s.chB ∧ (s.preset t v).senderSeq = s.senderSeq ∧
    (s.preset t v).inputs = s.inputs ∧ (s.preset t v).notices = s.notices ∧ (s.preset t v).groups = s.groups ∧
    (s.preset t v).lockLife = s.lockLife ∧ (s.preset t v).lockService = s.lockService ∧
    (s.preset t v).shift = s.shift ∧ (s.preset t v).supply = s.supply ∧ (s.preset t v).req = s.req ∧
    (s.preset t v).out = s.out ∧ (s.preset t v).freeIndex = s.freeIndex ∧
    (s.preset t v).store.pages = s.store.pages ∧ (s.preset t v).store.journal = s.store.journal ∧
    (s.preset t v).store.shifts = s.store.shifts ∧ (s.preset t v).store.trips = s.store.trips ∧
    (s.preset t v).store.leftOut = s.store.leftOut ∧ (s.preset t v).store.eraseList = s.store.eraseList ∧
    (s.preset t v).store.erase = s.store.erase ∧ (s.preset t v).store.abandoned = s.store.abandoned ∧
    (s.preset t v).store.programming = s.store.programming := by
  unfold State.preset; dsimp only; split <;> simp

@[simp] theorem State.protect_kept (t : TallySet) (b : Bool) (a : ProtectAction) :
    (s.protect t b a).pending = s.pending ∧ (s.protect t b a).phase = s.phase ∧ (s.protect t b a).cfg = s.cfg ∧
    (s.protect t b a).ownNumber = s.ownNumber ∧ (s.protect t b a).console = s.console ∧ (s.protect t b a).tb = s.tb ∧
    (s.protect t b a).marks = s.marks ∧ (s.protect t b a).agr = s.agr ∧ (s.protect t b a).peers = s.peers ∧
    (s.protect t b a).chA = s.chA ∧ (s.protect t b a).chB = s.chB ∧ (s.protect t b a).senderSeq = s.senderSeq ∧
    (s.protect t b a).inputs = s.inputs ∧ (s.protect t b a).notices = s.notices ∧
    (s.protect t b a).groups = s.groups ∧ (s.protect t b a).lockLife = s.lockLife ∧
    (s.protect t b a).lockService = s.lockService ∧ (s.protect t b a).shift = s.shift ∧
    (s.protect t b a).supply = s.supply ∧ (s.protect t b a).req = s.req ∧ (s.protect t b a).out = s.out ∧
    (s.protect t b a).freeIndex = s.freeIndex ∧ (s.protect t b a).store.pages = s.store.pages ∧
    (s.protect t b a).store.journal = s.store.journal ∧ (s.protect t b a).store.shifts = s.store.shifts ∧
    (s.protect t b a).store.trips = s.store.trips ∧ (s.protect t b a).store.leftOut = s.store.leftOut ∧
    (s.protect t b a).store.eraseList = s.store.eraseList ∧ (s.protect t b a).store.erase = s.store.erase ∧
    (s.protect t b a).store.abandoned = s.store.abandoned ∧
    (s.protect t b a).store.programming = s.store.programming := by
  simp [State.protect]

end Sys2Proof.Machine
end

