-- ==== Sys2Proof/Laws/KeptStore.lean ====
section
/-! SUPPORT. What the operations of the store's controller keep: for each, every field
of State (and of the store, where it changes the store) that it never changes. -/

namespace Sys2Proof.Machine

variable (s : State)

@[simp] theorem State.endImageWrite_kept :
    (s.endImageWrite).pending = s.pending ∧ (s.endImageWrite).phase = s.phase ∧ (s.endImageWrite).cfg = s.cfg ∧
    (s.endImageWrite).ownNumber = s.ownNumber ∧ (s.endImageWrite).console = s.console ∧ (s.endImageWrite).tb = s.tb ∧
    (s.endImageWrite).marks = s.marks ∧ (s.endImageWrite).agr = s.agr ∧ (s.endImageWrite).peers = s.peers ∧
    (s.endImageWrite).chA = s.chA ∧ (s.endImageWrite).chB = s.chB ∧ (s.endImageWrite).senderSeq = s.senderSeq ∧
    (s.endImageWrite).inputs = s.inputs ∧ (s.endImageWrite).log = s.log ∧ (s.endImageWrite).notices = s.notices ∧
    (s.endImageWrite).groups = s.groups ∧ (s.endImageWrite).tally = s.tally ∧
    (s.endImageWrite).lockLife = s.lockLife ∧ (s.endImageWrite).lockService = s.lockService ∧
    (s.endImageWrite).shift = s.shift ∧ (s.endImageWrite).supply = s.supply ∧ (s.endImageWrite).req = s.req ∧
    (s.endImageWrite).out = s.out ∧ (s.endImageWrite).freeIndex = s.freeIndex ∧
    (s.endImageWrite).store.pages = s.store.pages ∧ (s.endImageWrite).store.journal = s.store.journal ∧
    (s.endImageWrite).store.shifts = s.store.shifts ∧ (s.endImageWrite).store.trips = s.store.trips ∧
    (s.endImageWrite).store.leftOut = s.store.leftOut ∧ (s.endImageWrite).store.eraseList = s.store.eraseList ∧
    (s.endImageWrite).store.erase = s.store.erase ∧ (s.endImageWrite).store.abandoned = s.store.abandoned ∧
    (s.endImageWrite).store.programming = s.store.programming := by
  unfold State.endImageWrite; dsimp only; split <;> simp

@[simp] theorem State.setStoreFlag_kept (f : StoreFault) :
    (s.setStoreFlag f).pending = s.pending ∧ (s.setStoreFlag f).phase = s.phase ∧ (s.setStoreFlag f).cfg = s.cfg ∧
    (s.setStoreFlag f).ownNumber = s.ownNumber ∧ (s.setStoreFlag f).console = s.console ∧
    (s.setStoreFlag f).tb = s.tb ∧ (s.setStoreFlag f).marks = s.marks ∧ (s.setStoreFlag f).agr = s.agr ∧
    (s.setStoreFlag f).peers = s.peers ∧ (s.setStoreFlag f).chA = s.chA ∧ (s.setStoreFlag f).chB = s.chB ∧
    (s.setStoreFlag f).senderSeq = s.senderSeq ∧ (s.setStoreFlag f).inputs = s.inputs ∧
    (s.setStoreFlag f).log = s.log ∧ (s.setStoreFlag f).notices = s.notices ∧ (s.setStoreFlag f).groups = s.groups ∧
    (s.setStoreFlag f).tally = s.tally ∧ (s.setStoreFlag f).lockLife = s.lockLife ∧
    (s.setStoreFlag f).lockService = s.lockService ∧ (s.setStoreFlag f).shift = s.shift ∧
    (s.setStoreFlag f).store = s.store ∧ (s.setStoreFlag f).supply = s.supply ∧ (s.setStoreFlag f).req = s.req ∧
    (s.setStoreFlag f).out = s.out ∧ (s.setStoreFlag f).freeIndex = s.freeIndex := by
  cases f <;> simp [State.setStoreFlag]

@[simp] theorem State.recordWritten_kept (p : Programming) (i : Nat) (e : Entry) :
    (s.recordWritten p i e).pending = s.pending ∧ (s.recordWritten p i e).phase = s.phase ∧
    (s.recordWritten p i e).cfg = s.cfg ∧ (s.recordWritten p i e).ownNumber = s.ownNumber ∧
    (s.recordWritten p i e).console = s.console ∧ (s.recordWritten p i e).tb = s.tb ∧
    (s.recordWritten p i e).marks = s.marks ∧ (s.recordWritten p i e).agr = s.agr ∧
    (s.recordWritten p i e).peers = s.peers ∧ (s.recordWritten p i e).chA = s.chA ∧
    (s.recordWritten p i e).chB = s.chB ∧ (s.recordWritten p i e).senderSeq = s.senderSeq ∧
    (s.recordWritten p i e).inputs = s.inputs ∧ (s.recordWritten p i e).log = s.log ∧
    (s.recordWritten p i e).notices = s.notices ∧ (s.recordWritten p i e).groups = s.groups ∧
    (s.recordWritten p i e).tally = s.tally ∧ (s.recordWritten p i e).lockLife = s.lockLife ∧
    (s.recordWritten p i e).lockService = s.lockService ∧ (s.recordWritten p i e).shift = s.shift ∧
    (s.recordWritten p i e).supply = s.supply ∧ (s.recordWritten p i e).req = s.req ∧
    (s.recordWritten p i e).out = s.out ∧ (s.recordWritten p i e).freeIndex = s.freeIndex := by
  unfold State.recordWritten; dsimp only; split <;> simp

@[simp] theorem State.recordFailed_kept (p : Programming) (i : Nat) (e : Entry) :
    (s.recordFailed p i e).pending = s.pending ∧ (s.recordFailed p i e).phase = s.phase ∧
    (s.recordFailed p i e).cfg = s.cfg ∧ (s.recordFailed p i e).ownNumber = s.ownNumber ∧
    (s.recordFailed p i e).console = s.console ∧ (s.recordFailed p i e).tb = s.tb ∧
    (s.recordFailed p i e).marks = s.marks ∧ (s.recordFailed p i e).agr = s.agr ∧
    (s.recordFailed p i e).peers = s.peers ∧ (s.recordFailed p i e).chA = s.chA ∧
    (s.recordFailed p i e).chB = s.chB ∧ (s.recordFailed p i e).senderSeq = s.senderSeq ∧
    (s.recordFailed p i e).inputs = s.inputs ∧ (s.recordFailed p i e).notices = s.notices ∧
    (s.recordFailed p i e).groups = s.groups ∧ (s.recordFailed p i e).tally = s.tally ∧
    (s.recordFailed p i e).lockLife = s.lockLife ∧ (s.recordFailed p i e).lockService = s.lockService ∧
    (s.recordFailed p i e).shift = s.shift ∧ (s.recordFailed p i e).supply = s.supply ∧
    (s.recordFailed p i e).req = s.req ∧ (s.recordFailed p i e).out = s.out ∧
    (s.recordFailed p i e).freeIndex = s.freeIndex := by
  unfold State.recordFailed; dsimp only; split <;> simp

@[simp] theorem State.failErase_kept (p : Nat) :
    (s.failErase p).pending = s.pending ∧ (s.failErase p).phase = s.phase ∧ (s.failErase p).cfg = s.cfg ∧
    (s.failErase p).ownNumber = s.ownNumber ∧ (s.failErase p).console = s.console ∧ (s.failErase p).tb = s.tb ∧
    (s.failErase p).marks = s.marks ∧ (s.failErase p).agr = s.agr ∧ (s.failErase p).peers = s.peers ∧
    (s.failErase p).chA = s.chA ∧ (s.failErase p).chB = s.chB ∧ (s.failErase p).senderSeq = s.senderSeq ∧
    (s.failErase p).inputs = s.inputs ∧ (s.failErase p).notices = s.notices ∧ (s.failErase p).groups = s.groups ∧
    (s.failErase p).tally = s.tally ∧ (s.failErase p).lockLife = s.lockLife ∧
    (s.failErase p).lockService = s.lockService ∧ (s.failErase p).shift = s.shift ∧
    (s.failErase p).supply = s.supply ∧ (s.failErase p).req = s.req ∧ (s.failErase p).out = s.out ∧
    (s.failErase p).freeIndex = s.freeIndex := by
  unfold State.failErase; dsimp only; repeat' split
  all_goals simp

end Sys2Proof.Machine
end

