-- ==== Sys2Proof/Laws/KeptTime.lean ====
section
/-! SUPPORT. What the operations of the timebase and the agreement unit keep: for each, every field
of State (and of the store, where it changes the store) that it never changes. -/

namespace Sys2Proof.Machine

variable (s : State)

@[simp] theorem State.tellLeftFree_kept (o : AgreementState) :
    (s.tellLeftFree o).pending = s.pending ∧ (s.tellLeftFree o).phase = s.phase ∧ (s.tellLeftFree o).cfg = s.cfg ∧
    (s.tellLeftFree o).ownNumber = s.ownNumber ∧ (s.tellLeftFree o).console = s.console ∧
    (s.tellLeftFree o).tb = s.tb ∧ (s.tellLeftFree o).marks = s.marks ∧ (s.tellLeftFree o).agr = s.agr ∧
    (s.tellLeftFree o).peers = s.peers ∧ (s.tellLeftFree o).chA = s.chA ∧ (s.tellLeftFree o).chB = s.chB ∧
    (s.tellLeftFree o).senderSeq = s.senderSeq ∧ (s.tellLeftFree o).inputs = s.inputs ∧
    (s.tellLeftFree o).notices = s.notices ∧ (s.tellLeftFree o).groups = s.groups ∧
    (s.tellLeftFree o).lockLife = s.lockLife ∧ (s.tellLeftFree o).lockService = s.lockService ∧
    (s.tellLeftFree o).supply = s.supply ∧ (s.tellLeftFree o).req = s.req ∧ (s.tellLeftFree o).out = s.out ∧
    (s.tellLeftFree o).freeIndex = s.freeIndex ∧ (s.tellLeftFree o).store.pages = s.store.pages ∧
    (s.tellLeftFree o).store.journal = s.store.journal ∧ (s.tellLeftFree o).store.shifts = s.store.shifts ∧
    (s.tellLeftFree o).store.trips = s.store.trips ∧ (s.tellLeftFree o).store.leftOut = s.store.leftOut ∧
    (s.tellLeftFree o).store.eraseList = s.store.eraseList ∧ (s.tellLeftFree o).store.erase = s.store.erase ∧
    (s.tellLeftFree o).store.abandoned = s.store.abandoned ∧
    (s.tellLeftFree o).store.programming = s.store.programming := by
  unfold State.tellLeftFree; split <;> simp

@[simp] theorem State.tellQuality_kept (o : AgreementState) :
    (s.tellQuality o).pending = s.pending ∧ (s.tellQuality o).phase = s.phase ∧ (s.tellQuality o).cfg = s.cfg ∧
    (s.tellQuality o).ownNumber = s.ownNumber ∧ (s.tellQuality o).console = s.console ∧
    (s.tellQuality o).flags = s.flags ∧ (s.tellQuality o).tb = s.tb ∧ (s.tellQuality o).marks = s.marks ∧
    (s.tellQuality o).agr = s.agr ∧ (s.tellQuality o).peers = s.peers ∧ (s.tellQuality o).chA = s.chA ∧
    (s.tellQuality o).chB = s.chB ∧ (s.tellQuality o).senderSeq = s.senderSeq ∧ (s.tellQuality o).inputs = s.inputs ∧
    (s.tellQuality o).log = s.log ∧ (s.tellQuality o).notices = s.notices ∧ (s.tellQuality o).groups = s.groups ∧
    (s.tellQuality o).tally = s.tally ∧ (s.tellQuality o).lockLife = s.lockLife ∧
    (s.tellQuality o).lockService = s.lockService ∧ (s.tellQuality o).store = s.store ∧
    (s.tellQuality o).supply = s.supply ∧ (s.tellQuality o).req = s.req ∧ (s.tellQuality o).out = s.out ∧
    (s.tellQuality o).freeIndex = s.freeIndex := by
  unfold State.tellQuality; split <;> simp

@[simp] theorem State.startPulse_kept :
    (s.startPulse).pending = s.pending ∧ (s.startPulse).phase = s.phase ∧ (s.startPulse).cfg = s.cfg ∧
    (s.startPulse).ownNumber = s.ownNumber ∧ (s.startPulse).console = s.console ∧ (s.startPulse).flags = s.flags ∧
    (s.startPulse).marks = s.marks ∧ (s.startPulse).agr = s.agr ∧ (s.startPulse).peers = s.peers ∧
    (s.startPulse).chA = s.chA ∧ (s.startPulse).chB = s.chB ∧ (s.startPulse).senderSeq = s.senderSeq ∧
    (s.startPulse).inputs = s.inputs ∧ (s.startPulse).log = s.log ∧ (s.startPulse).notices = s.notices ∧
    (s.startPulse).groups = s.groups ∧ (s.startPulse).tally = s.tally ∧ (s.startPulse).lockLife = s.lockLife ∧
    (s.startPulse).lockService = s.lockService ∧ (s.startPulse).shift = s.shift ∧ (s.startPulse).store = s.store ∧
    (s.startPulse).supply = s.supply ∧ (s.startPulse).req = s.req ∧ (s.startPulse).out = s.out ∧
    (s.startPulse).freeIndex = s.freeIndex := by
  unfold State.startPulse; split <;> simp

@[simp] theorem State.queueBeacon_kept :
    (s.queueBeacon).pending = s.pending ∧ (s.queueBeacon).phase = s.phase ∧ (s.queueBeacon).cfg = s.cfg ∧
    (s.queueBeacon).ownNumber = s.ownNumber ∧ (s.queueBeacon).console = s.console ∧ (s.queueBeacon).tb = s.tb ∧
    (s.queueBeacon).marks = s.marks ∧ (s.queueBeacon).agr = s.agr ∧ (s.queueBeacon).peers = s.peers ∧
    (s.queueBeacon).inputs = s.inputs ∧ (s.queueBeacon).log = s.log ∧ (s.queueBeacon).notices = s.notices ∧
    (s.queueBeacon).groups = s.groups ∧ (s.queueBeacon).tally = s.tally ∧ (s.queueBeacon).lockLife = s.lockLife ∧
    (s.queueBeacon).lockService = s.lockService ∧ (s.queueBeacon).shift = s.shift ∧ (s.queueBeacon).store = s.store ∧
    (s.queueBeacon).supply = s.supply ∧ (s.queueBeacon).out = s.out ∧ (s.queueBeacon).freeIndex = s.freeIndex := by
  simp [State.queueBeacon]

@[simp] theorem State.stepSecond_kept :
    (s.stepSecond).pending = s.pending ∧ (s.stepSecond).phase = s.phase ∧ (s.stepSecond).cfg = s.cfg ∧
    (s.stepSecond).ownNumber = s.ownNumber ∧ (s.stepSecond).console = s.console ∧ (s.stepSecond).marks = s.marks ∧
    (s.stepSecond).agr = s.agr ∧ (s.stepSecond).peers = s.peers ∧ (s.stepSecond).inputs = s.inputs ∧
    (s.stepSecond).notices = s.notices ∧ (s.stepSecond).groups = s.groups ∧ (s.stepSecond).lockLife = s.lockLife ∧
    (s.stepSecond).lockService = s.lockService ∧ (s.stepSecond).supply = s.supply ∧ (s.stepSecond).out = s.out ∧
    (s.stepSecond).freeIndex = s.freeIndex ∧ (s.stepSecond).store.pages = s.store.pages ∧
    (s.stepSecond).store.journal = s.store.journal ∧ (s.stepSecond).store.shifts = s.store.shifts ∧
    (s.stepSecond).store.trips = s.store.trips ∧ (s.stepSecond).store.leftOut = s.store.leftOut ∧
    (s.stepSecond).store.eraseList = s.store.eraseList ∧ (s.stepSecond).store.erase = s.store.erase ∧
    (s.stepSecond).store.abandoned = s.store.abandoned ∧ (s.stepSecond).store.programming = s.store.programming := by
  simp [State.stepSecond]

@[simp] theorem State.enterState_kept (a : AgreementState) :
    (s.enterState a).pending = s.pending ∧ (s.enterState a).phase = s.phase ∧ (s.enterState a).cfg = s.cfg ∧
    (s.enterState a).ownNumber = s.ownNumber ∧ (s.enterState a).console = s.console ∧ (s.enterState a).tb = s.tb ∧
    (s.enterState a).marks = s.marks ∧ (s.enterState a).peers = s.peers ∧ (s.enterState a).chA = s.chA ∧
    (s.enterState a).chB = s.chB ∧ (s.enterState a).senderSeq = s.senderSeq ∧ (s.enterState a).inputs = s.inputs ∧
    (s.enterState a).notices = s.notices ∧ (s.enterState a).groups = s.groups ∧
    (s.enterState a).lockLife = s.lockLife ∧ (s.enterState a).lockService = s.lockService ∧
    (s.enterState a).supply = s.supply ∧ (s.enterState a).req = s.req ∧ (s.enterState a).out = s.out ∧
    (s.enterState a).freeIndex = s.freeIndex ∧ (s.enterState a).store.pages = s.store.pages ∧
    (s.enterState a).store.journal = s.store.journal ∧ (s.enterState a).store.shifts = s.store.shifts ∧
    (s.enterState a).store.trips = s.store.trips ∧ (s.enterState a).store.leftOut = s.store.leftOut ∧
    (s.enterState a).store.eraseList = s.store.eraseList ∧ (s.enterState a).store.erase = s.store.erase ∧
    (s.enterState a).store.abandoned = s.store.abandoned ∧
    (s.enterState a).store.programming = s.store.programming := by
  simp [State.enterState]

@[simp] theorem State.step_kept (c : Int) (w : StepCause) (n : AgreementState) (gs : List Nat) :
    (State.step s c w n gs).pending = s.pending ∧ (State.step s c w n gs).phase = s.phase ∧
    (State.step s c w n gs).cfg = s.cfg ∧ (State.step s c w n gs).ownNumber = s.ownNumber ∧
    (State.step s c w n gs).console = s.console ∧ (State.step s c w n gs).inputs = s.inputs ∧
    (State.step s c w n gs).notices = s.notices ∧ (State.step s c w n gs).lockLife = s.lockLife ∧
    (State.step s c w n gs).lockService = s.lockService ∧ (State.step s c w n gs).supply = s.supply ∧
    (State.step s c w n gs).out = s.out ∧ (State.step s c w n gs).freeIndex = s.freeIndex ∧
    (State.step s c w n gs).store.pages = s.store.pages ∧ (State.step s c w n gs).store.journal = s.store.journal ∧
    (State.step s c w n gs).store.shifts = s.store.shifts ∧ (State.step s c w n gs).store.trips = s.store.trips ∧
    (State.step s c w n gs).store.leftOut = s.store.leftOut ∧
    (State.step s c w n gs).store.eraseList = s.store.eraseList ∧
    (State.step s c w n gs).store.erase = s.store.erase ∧
    (State.step s c w n gs).store.abandoned = s.store.abandoned ∧
    (State.step s c w n gs).store.programming = s.store.programming := by
  unfold State.step; dsimp only; split <;> simp

@[simp] theorem State.slew_kept (c : Int) :
    (s.slew c).pending = s.pending ∧ (s.slew c).phase = s.phase ∧ (s.slew c).cfg = s.cfg ∧
    (s.slew c).ownNumber = s.ownNumber ∧ (s.slew c).console = s.console ∧ (s.slew c).flags = s.flags ∧
    (s.slew c).marks = s.marks ∧ (s.slew c).peers = s.peers ∧ (s.slew c).chA = s.chA ∧ (s.slew c).chB = s.chB ∧
    (s.slew c).senderSeq = s.senderSeq ∧ (s.slew c).inputs = s.inputs ∧ (s.slew c).log = s.log ∧
    (s.slew c).notices = s.notices ∧ (s.slew c).groups = s.groups ∧ (s.slew c).tally = s.tally ∧
    (s.slew c).lockLife = s.lockLife ∧ (s.slew c).lockService = s.lockService ∧ (s.slew c).shift = s.shift ∧
    (s.slew c).store = s.store ∧ (s.slew c).supply = s.supply ∧ (s.slew c).req = s.req ∧ (s.slew c).out = s.out ∧
    (s.slew c).freeIndex = s.freeIndex := by
  simp [State.slew]

@[simp] theorem State.limitedSlew_kept (c : Int) :
    (s.limitedSlew c).pending = s.pending ∧ (s.limitedSlew c).phase = s.phase ∧ (s.limitedSlew c).cfg = s.cfg ∧
    (s.limitedSlew c).ownNumber = s.ownNumber ∧ (s.limitedSlew c).console = s.console ∧
    (s.limitedSlew c).flags = s.flags ∧ (s.limitedSlew c).marks = s.marks ∧ (s.limitedSlew c).agr = s.agr ∧
    (s.limitedSlew c).peers = s.peers ∧ (s.limitedSlew c).chA = s.chA ∧ (s.limitedSlew c).chB = s.chB ∧
    (s.limitedSlew c).senderSeq = s.senderSeq ∧ (s.limitedSlew c).inputs = s.inputs ∧ (s.limitedSlew c).log = s.log ∧
    (s.limitedSlew c).notices = s.notices ∧ (s.limitedSlew c).groups = s.groups ∧ (s.limitedSlew c).tally = s.tally ∧
    (s.limitedSlew c).lockLife = s.lockLife ∧ (s.limitedSlew c).lockService = s.lockService ∧
    (s.limitedSlew c).shift = s.shift ∧ (s.limitedSlew c).store = s.store ∧ (s.limitedSlew c).supply = s.supply ∧
    (s.limitedSlew c).req = s.req ∧ (s.limitedSlew c).out = s.out ∧ (s.limitedSlew c).freeIndex = s.freeIndex := by
  simp [State.limitedSlew]

@[simp] theorem State.applyDecision_kept (d : Decision) (gs : List Nat) :
    (s.applyDecision d gs).pending = s.pending ∧ (s.applyDecision d gs).phase = s.phase ∧
    (s.applyDecision d gs).cfg = s.cfg ∧ (s.applyDecision d gs).ownNumber = s.ownNumber ∧
    (s.applyDecision d gs).console = s.console ∧ (s.applyDecision d gs).inputs = s.inputs ∧
    (s.applyDecision d gs).notices = s.notices ∧ (s.applyDecision d gs).lockLife = s.lockLife ∧
    (s.applyDecision d gs).lockService = s.lockService ∧ (s.applyDecision d gs).supply = s.supply ∧
    (s.applyDecision d gs).out = s.out ∧ (s.applyDecision d gs).freeIndex = s.freeIndex ∧
    (s.applyDecision d gs).store.pages = s.store.pages ∧ (s.applyDecision d gs).store.journal = s.store.journal ∧
    (s.applyDecision d gs).store.shifts = s.store.shifts ∧ (s.applyDecision d gs).store.trips = s.store.trips ∧
    (s.applyDecision d gs).store.leftOut = s.store.leftOut ∧
    (s.applyDecision d gs).store.eraseList = s.store.eraseList ∧ (s.applyDecision d gs).store.erase = s.store.erase ∧
    (s.applyDecision d gs).store.abandoned = s.store.abandoned ∧
    (s.applyDecision d gs).store.programming = s.store.programming := by
  unfold State.applyDecision; dsimp only; split <;> simp

@[simp] theorem State.agreementRound_kept (gs : List Nat) :
    (s.agreementRound gs).pending = s.pending ∧ (s.agreementRound gs).phase = s.phase ∧
    (s.agreementRound gs).cfg = s.cfg ∧ (s.agreementRound gs).ownNumber = s.ownNumber ∧
    (s.agreementRound gs).console = s.console ∧ (s.agreementRound gs).inputs = s.inputs ∧
    (s.agreementRound gs).notices = s.notices ∧ (s.agreementRound gs).lockLife = s.lockLife ∧
    (s.agreementRound gs).lockService = s.lockService ∧ (s.agreementRound gs).supply = s.supply ∧
    (s.agreementRound gs).out = s.out ∧ (s.agreementRound gs).freeIndex = s.freeIndex ∧
    (s.agreementRound gs).store.pages = s.store.pages ∧ (s.agreementRound gs).store.journal = s.store.journal ∧
    (s.agreementRound gs).store.shifts = s.store.shifts ∧ (s.agreementRound gs).store.trips = s.store.trips ∧
    (s.agreementRound gs).store.leftOut = s.store.leftOut ∧
    (s.agreementRound gs).store.eraseList = s.store.eraseList ∧ (s.agreementRound gs).store.erase = s.store.erase ∧
    (s.agreementRound gs).store.abandoned = s.store.abandoned ∧
    (s.agreementRound gs).store.programming = s.store.programming := by
  simp [State.agreementRound]

@[simp] theorem State.roundBoundary_kept (gs : List Nat) :
    (s.roundBoundary gs).pending = s.pending ∧ (s.roundBoundary gs).phase = s.phase ∧
    (s.roundBoundary gs).cfg = s.cfg ∧ (s.roundBoundary gs).ownNumber = s.ownNumber ∧
    (s.roundBoundary gs).console = s.console ∧ (s.roundBoundary gs).inputs = s.inputs ∧
    (s.roundBoundary gs).notices = s.notices ∧ (s.roundBoundary gs).lockLife = s.lockLife ∧
    (s.roundBoundary gs).lockService = s.lockService ∧ (s.roundBoundary gs).supply = s.supply ∧
    (s.roundBoundary gs).out = s.out ∧ (s.roundBoundary gs).freeIndex = s.freeIndex ∧
    (s.roundBoundary gs).store.pages = s.store.pages ∧ (s.roundBoundary gs).store.journal = s.store.journal ∧
    (s.roundBoundary gs).store.shifts = s.store.shifts ∧ (s.roundBoundary gs).store.trips = s.store.trips ∧
    (s.roundBoundary gs).store.leftOut = s.store.leftOut ∧ (s.roundBoundary gs).store.eraseList = s.store.eraseList ∧
    (s.roundBoundary gs).store.erase = s.store.erase ∧ (s.roundBoundary gs).store.abandoned = s.store.abandoned ∧
    (s.roundBoundary gs).store.programming = s.store.programming := by
  simp [State.roundBoundary]

@[simp] theorem State.roundIfBoundary_kept (d : SecondDue) (gs : List Nat) :
    (s.roundIfBoundary d gs).pending = s.pending ∧ (s.roundIfBoundary d gs).phase = s.phase ∧
    (s.roundIfBoundary d gs).cfg = s.cfg ∧ (s.roundIfBoundary d gs).ownNumber = s.ownNumber ∧
    (s.roundIfBoundary d gs).console = s.console ∧ (s.roundIfBoundary d gs).inputs = s.inputs ∧
    (s.roundIfBoundary d gs).notices = s.notices ∧ (s.roundIfBoundary d gs).lockLife = s.lockLife ∧
    (s.roundIfBoundary d gs).lockService = s.lockService ∧ (s.roundIfBoundary d gs).supply = s.supply ∧
    (s.roundIfBoundary d gs).out = s.out ∧ (s.roundIfBoundary d gs).freeIndex = s.freeIndex ∧
    (s.roundIfBoundary d gs).store.pages = s.store.pages ∧ (s.roundIfBoundary d gs).store.journal = s.store.journal ∧
    (s.roundIfBoundary d gs).store.shifts = s.store.shifts ∧ (s.roundIfBoundary d gs).store.trips = s.store.trips ∧
    (s.roundIfBoundary d gs).store.leftOut = s.store.leftOut ∧
    (s.roundIfBoundary d gs).store.eraseList = s.store.eraseList ∧
    (s.roundIfBoundary d gs).store.erase = s.store.erase ∧
    (s.roundIfBoundary d gs).store.abandoned = s.store.abandoned ∧
    (s.roundIfBoundary d gs).store.programming = s.store.programming := by
  unfold State.roundIfBoundary; split <;> simp

@[simp] theorem State.deliverSecond_kept (o : SecondOrder) :
    (s.deliverSecond o).pending = s.pending ∧ (s.deliverSecond o).phase = s.phase ∧ (s.deliverSecond o).cfg = s.cfg ∧
    (s.deliverSecond o).ownNumber = s.ownNumber ∧ (s.deliverSecond o).console = s.console ∧
    (s.deliverSecond o).inputs = s.inputs ∧ (s.deliverSecond o).notices = s.notices ∧
    (s.deliverSecond o).lockLife = s.lockLife ∧ (s.deliverSecond o).lockService = s.lockService ∧
    (s.deliverSecond o).supply = s.supply ∧ (s.deliverSecond o).out = s.out ∧
    (s.deliverSecond o).freeIndex = s.freeIndex ∧ (s.deliverSecond o).store.pages = s.store.pages ∧
    (s.deliverSecond o).store.journal = s.store.journal ∧ (s.deliverSecond o).store.shifts = s.store.shifts ∧
    (s.deliverSecond o).store.trips = s.store.trips ∧ (s.deliverSecond o).store.leftOut = s.store.leftOut ∧
    (s.deliverSecond o).store.eraseList = s.store.eraseList ∧ (s.deliverSecond o).store.erase = s.store.erase ∧
    (s.deliverSecond o).store.abandoned = s.store.abandoned ∧
    (s.deliverSecond o).store.programming = s.store.programming := by
  unfold State.deliverSecond; dsimp only; repeat' split
  all_goals simp

@[simp] theorem State.endClearFlags_kept :
    (s.endClearFlags).pending = s.pending ∧ (s.endClearFlags).phase = s.phase ∧ (s.endClearFlags).cfg = s.cfg ∧
    (s.endClearFlags).ownNumber = s.ownNumber ∧ (s.endClearFlags).console = s.console ∧ (s.endClearFlags).tb = s.tb ∧
    (s.endClearFlags).marks = s.marks ∧ (s.endClearFlags).agr = s.agr ∧ (s.endClearFlags).peers = s.peers ∧
    (s.endClearFlags).inputs = s.inputs ∧ (s.endClearFlags).log = s.log ∧ (s.endClearFlags).notices = s.notices ∧
    (s.endClearFlags).groups = s.groups ∧ (s.endClearFlags).tally = s.tally ∧
    (s.endClearFlags).lockLife = s.lockLife ∧ (s.endClearFlags).lockService = s.lockService ∧
    (s.endClearFlags).shift = s.shift ∧ (s.endClearFlags).store = s.store ∧ (s.endClearFlags).supply = s.supply ∧
    (s.endClearFlags).freeIndex = s.freeIndex := by
  unfold State.endClearFlags; split <;> simp

@[simp] theorem State.endMicrosecond_kept (o : SecondOrder) :
    (s.endMicrosecond o).pending = s.pending ∧ (s.endMicrosecond o).phase = s.phase ∧
    (s.endMicrosecond o).cfg = s.cfg ∧ (s.endMicrosecond o).ownNumber = s.ownNumber ∧
    (s.endMicrosecond o).console = s.console ∧ (s.endMicrosecond o).inputs = s.inputs ∧
    (s.endMicrosecond o).notices = s.notices ∧ (s.endMicrosecond o).lockLife = s.lockLife ∧
    (s.endMicrosecond o).lockService = s.lockService ∧ (s.endMicrosecond o).supply = s.supply ∧
    (s.endMicrosecond o).freeIndex = s.freeIndex ∧ (s.endMicrosecond o).store.pages = s.store.pages ∧
    (s.endMicrosecond o).store.journal = s.store.journal ∧ (s.endMicrosecond o).store.shifts = s.store.shifts ∧
    (s.endMicrosecond o).store.trips = s.store.trips ∧ (s.endMicrosecond o).store.leftOut = s.store.leftOut ∧
    (s.endMicrosecond o).store.eraseList = s.store.eraseList ∧ (s.endMicrosecond o).store.erase = s.store.erase ∧
    (s.endMicrosecond o).store.abandoned = s.store.abandoned ∧
    (s.endMicrosecond o).store.programming = s.store.programming := by
  simp [State.endMicrosecond]

@[simp] theorem State.microsecond_kept (p : MicroPart) (o : SecondOrder) :
    (s.microsecond p o).pending = s.pending ∧ (s.microsecond p o).phase = s.phase ∧ (s.microsecond p o).cfg = s.cfg ∧
    (s.microsecond p o).ownNumber = s.ownNumber ∧ (s.microsecond p o).console = s.console ∧
    (s.microsecond p o).inputs = s.inputs ∧ (s.microsecond p o).notices = s.notices ∧
    (s.microsecond p o).lockLife = s.lockLife ∧ (s.microsecond p o).lockService = s.lockService ∧
    (s.microsecond p o).supply = s.supply ∧ (s.microsecond p o).freeIndex = s.freeIndex ∧
    (s.microsecond p o).store.pages = s.store.pages ∧ (s.microsecond p o).store.journal = s.store.journal ∧
    (s.microsecond p o).store.shifts = s.store.shifts ∧ (s.microsecond p o).store.trips = s.store.trips ∧
    (s.microsecond p o).store.leftOut = s.store.leftOut ∧ (s.microsecond p o).store.eraseList = s.store.eraseList ∧
    (s.microsecond p o).store.erase = s.store.erase ∧ (s.microsecond p o).store.abandoned = s.store.abandoned ∧
    (s.microsecond p o).store.programming = s.store.programming := by
  cases p <;> simp [State.microsecond]

@[simp] theorem State.setTime_kept (t : StationTime) (gs : List Nat) :
    (s.setTime t gs).pending = s.pending ∧ (s.setTime t gs).phase = s.phase ∧ (s.setTime t gs).cfg = s.cfg ∧
    (s.setTime t gs).ownNumber = s.ownNumber ∧ (s.setTime t gs).console = s.console ∧
    (s.setTime t gs).inputs = s.inputs ∧ (s.setTime t gs).notices = s.notices ∧
    (s.setTime t gs).lockLife = s.lockLife ∧ (s.setTime t gs).lockService = s.lockService ∧
    (s.setTime t gs).supply = s.supply ∧ (s.setTime t gs).out = s.out ∧ (s.setTime t gs).freeIndex = s.freeIndex ∧
    (s.setTime t gs).store.pages = s.store.pages ∧ (s.setTime t gs).store.journal = s.store.journal ∧
    (s.setTime t gs).store.shifts = s.store.shifts ∧ (s.setTime t gs).store.trips = s.store.trips ∧
    (s.setTime t gs).store.leftOut = s.store.leftOut ∧ (s.setTime t gs).store.eraseList = s.store.eraseList ∧
    (s.setTime t gs).store.erase = s.store.erase ∧ (s.setTime t gs).store.abandoned = s.store.abandoned ∧
    (s.setTime t gs).store.programming = s.store.programming := by
  simp [State.setTime]

end Sys2Proof.Machine
end

