-- ==== Sys2Proof/Laws/Log.lean ====
section
/-! SUPPORT. Appending a record and the write queue: what `append` does to the log, the flags and the queue (R79, R80, R83,
R161, R168), and that no operation lets the queue pass its 16 places (R160). -/

namespace Sys2Proof.Machine

variable (s : State)

/-- A record pushed leaves at most 256, and the next log sequence one higher. -/
theorem TripLog.push_length (l : TripLog) (r : Record) (h : l.records.length ≤ 256) :
    (l.push r).records.length ≤ 256 ∧ (l.push r).next = (l.next + 1) % 65536 := by
  unfold TripLog.push
  split
  · simp only [List.length_append, List.length_singleton, and_true]
    omega
  · simp only [List.length_append, List.length_tail, List.length_singleton, and_true]
    omega

/-- Appending writes the log's next record. -/
@[simp] theorem State.append_log (d : Dating) (b : RecordBody) :
    (s.append d b).log = s.log.push { seq := s.log.next, dating := d, body := b } := by
  simp only [State.append, State.queueArchive]
  cases s.store.regionStopped .trips || s.store.queueFull <;> rfl

/-- Appending changes two flags at most, and clears none. -/
theorem State.append_flags (d : Dating) (b : RecordBody) :
    (s.append d b).flags =
      { s.flags with
        logOverrun := s.flags.logOverrun || decide (256 ≤ s.log.records.length)
        archiveLoss := s.flags.archiveLoss || (s.store.regionStopped .trips || s.store.queueFull) } := by
  simp only [State.append, State.queueArchive]
  cases s.store.regionStopped .trips || s.store.queueFull <;> simp [State.loseArchive, State.enqueue]

/-- Appending leaves the store as it was, but for one entry more where the trip archive takes it. -/
theorem State.append_store (d : Dating) (b : RecordBody) :
    (s.append d b).store =
      if (s.store.regionStopped .trips || s.store.queueFull) = true then s.store
      else { s.store with queue := s.store.queue ++
              [Entry.fresh (.archive { seq := s.log.next, dating := d, body := b })] } := by
  simp only [State.append, State.queueArchive]
  cases s.store.regionStopped .trips || s.store.queueFull <;> rfl

/-- What dropping entries of the shift record store or the trip archive does (R168): ARCHIVE_LOSS, where there is one. -/
theorem State.dropEntries_records (l : List Entry) (h : ∀ e ∈ l, e.kind.isImage = false) (s : State) :
    l.foldl (fun u e => u.dropEntry e.kind) s =
      { s with flags := { s.flags with archiveLoss := s.flags.archiveLoss || decide (0 < l.length) } } := by
  induction l generalizing s with
  | nil => simp
  | cons e l ih =>
    rw [List.foldl_cons, State.dropEntry, if_neg (by simp [h e (by simp)]), ih fun x hx => h x (by simp [hx])]
    simp [State.loseArchive]

/-- What dropping entries of the journal does (R168): each counts a dropped checkpoint, and the image is EMPTY after it. -/
theorem State.dropEntries_checkpoints (l : List Entry) (h : ∀ e ∈ l, e.kind.isImage = true) (s : State) :
    l.foldl (fun u e => u.dropEntry e.kind) s = { s with store := { s.store with
      image := if l.length = 0 then s.store.image else Image.empty
      dropped := if l.length = 0 then s.store.dropped else min 65535 (s.store.dropped + l.length) } } := by
  induction l generalizing s with
  | nil => simp
  | cons e l ih =>
    rw [List.foldl_cons, State.dropEntry, if_pos (h e (by simp)), ih fun x hx => h x (by simp [hx])]
    rcases l with _ | ⟨x, l⟩
    · simp [State.dropCheckpoint, satInc, Nat.min_comm]
    · simp [State.dropCheckpoint, satInc]
      omega

/-- A waiting image is placed only where a place is free (R161). -/
theorem State.placeImage_queue (h : s.store.queue.length ≤ 16) : s.placeImage.store.queue.length ≤ 16 := by
  unfold State.placeImage
  split
  · rename_i k
    have : ¬16 ≤ s.store.queue.length := by
      have := (Bool.and_eq_true_iff.1 k).2
      simpa [Store.queueFull] using this
    simp only [State.enqueue, List.length_append, List.length_singleton]
    omega
  · exact h

end Sys2Proof.Machine
end

