-- ==== Sys2Proof/Laws/Microsecond.lean ====
section
/-! SUPPORT. What an elapsed microsecond leaves due: no station second once it is delivered (R11), and no answer of a CLEAR
FLAGS once it is queued (R184, log entry 42). -/

namespace Sys2Proof.Machine

variable (s : State)

/-- With no station second due there is none to deliver. -/
theorem State.deliverSecond_of_none (o : SecondOrder) (h : s.tb.secondDue = none) : s.deliverSecond o = s := by
  simp [State.deliverSecond, h]

/-- A step makes no station second due. -/
theorem State.step_secondDue (c : Int) (w : StepCause) (n : AgreementState) (gs : List Nat) (h : s.tb.secondDue = none) :
    (State.step s c w n gs).tb.secondDue = none := by
  unfold State.step
  dsimp only
  split
  · simp only [State.stepSecond, State.startPulse]
    split <;> simp [State.jump, Timebase.stepTo, h]
  · simp [State.jump, Timebase.stepTo, h]

/-- Nor does an agreement round. -/
theorem State.agreementRound_secondDue (gs : List Nat) (h : s.tb.secondDue = none) :
    (s.agreementRound gs).tb.secondDue = none := by
  have applied : ∀ (t : State) (d : Decision), t.tb.secondDue = none → (t.applyDecision d gs).tb.secondDue = none := by
    intro t d k
    unfold State.applyDecision
    dsimp only
    split <;> simp [State.step_secondDue, k, State.slew, State.limitedSlew, State.writeA]
  simp only [State.agreementRound]
  simpa using applied _ _ (by simpa using h)

/-- A station second delivered is no longer due. -/
theorem State.deliverSecond_secondDue (o : SecondOrder) : (s.deliverSecond o).tb.secondDue = none := by
  unfold State.deliverSecond
  split
  · assumption
  · dsimp only
    have round : ∀ (t : State) (d : SecondDue) (gs : List Nat), t.tb.secondDue = none →
        (t.roundIfBoundary d gs).tb.secondDue = none := by
      intro t d gs k
      unfold State.roundIfBoundary
      split
      · simp only [State.roundBoundary]
        exact State.agreementRound_secondDue _ _ (by simp [k, State.endHold])
      · exact k
    have queued : s.takeSecond.startPulse.queueBeacon.tb.secondDue = none := by
      unfold State.startPulse
      split <;> simp [State.takeSecond]
    split
    · exact round _ _ _ (by simpa using queued)
    · simpa using round _ _ _ queued

/-- The answer of a CLEAR FLAGS that is due shows the flags as they stand, and ends its service. -/
theorem State.endClearFlags_of (r : Request) (h : s.req.service = some (.clearFlags r)) :
    s.endClearFlags =
      State.answer { s with req := { s.req with service := none } } r .ok (beBytes 2 (bitsNat s.flags.list)) := by
  simp [State.endClearFlags, h]

/-- With none due nothing happens. -/
theorem State.endClearFlags_of_none (h : ∀ r, s.req.service ≠ some (.clearFlags r)) : s.endClearFlags = s := by
  unfold State.endClearFlags
  split
  · rename_i r k
    exact absurd k (h r)
  · rfl

end Sys2Proof.Machine
end

