-- ==== Sys2Proof/Laws/Requests.lean ====
section
/-! SUPPORT. Queuing a telegram (R21, R25), serving a request (R176, R178) and answering it (R177): what each does, said
once. -/

namespace Sys2Proof.Machine

variable (s : State)

/-- The copy that `send` offers to both lists (R21, R25). -/
def State.sendCopy (kind : TelegramKind) (target : Nat) (payload : List Byte) : Copy :=
  ⟨kind, target, s.senderSeq, payload, false, false,
    (!s.chA.takes kind || !s.chB.takes kind) && decide (kind = .answer)⟩

/-- Queuing a telegram raises the sender sequence and offers one copy to each list. -/
theorem State.send_lines (kind : TelegramKind) (target : Nat) (payload : List Byte) :
    (s.send kind target payload).senderSeq = (s.senderSeq + 1) % 65536
      ∧ (s.send kind target payload).chA = s.chA.offer s.tb.elapsed (s.sendCopy kind target payload)
      ∧ (s.send kind target payload).chB = s.chB.offer s.tb.elapsed (s.sendCopy kind target payload) :=
  ⟨rfl, rfl, rfl⟩

/-- Offering a copy never lets a list pass its eight places (R24). -/
theorem LineController.offer_length (lc : LineController) (now : Nat) (c : Copy) (h : lc.list.length ≤ 8) :
    (lc.offer now c).list.length ≤ 8 := by
  unfold LineController.offer
  split
  · rename_i k
    simp only [LineController.enter, List.length_append, List.length_singleton]
    simp only [LineController.takes, Bool.or_eq_true, Bool.and_eq_true, decide_eq_true_eq] at k
    have le : (lc.list.filter fun x => !x.pendingBeacon).length ≤ lc.list.length := List.length_filter_le _ _
    split
    · rcases k with ⟨-, hb⟩ | hl
      · have : (lc.list.filter fun x => !x.pendingBeacon).length < lc.list.length := by
          obtain ⟨x, hx, hp⟩ := List.any_eq_true.1 hb
          exact List.length_filter_lt_length_iff_exists.2 ⟨x, hx, by simp [hp]⟩
        omega
      · omega
    · rename_i hk
      rcases k with ⟨hb, -⟩ | hl
      · exact absurd hb hk
      · omega
  · exact h

/-- The request served next is the oldest of the queue. -/
theorem State.oldestRequest_of (r : Request) (h : s.servesNext r) : s.oldestRequest = some r := by
  obtain ⟨hp, hs, hq⟩ := h
  simp [State.oldestRequest, hp, hs, hq]

/-- A request of the code asked for is handed to its owner when it passes the checks of R178. -/
theorem State.serve_acceptable (r : Request) (owner : State → Request → State) (h : s.servesNext r)
    (ok : r.acceptable = true) : s.serve r.code owner = owner s.popRequest r := by
  simp [State.serve, s.oldestRequest_of r h, ok]

/-- A request that fails them is answered BAD_ARGUMENT. -/
theorem State.serve_refused (r : Request) (owner : State → Request → State) (h : s.servesNext r)
    (bad : r.acceptable = false) : s.serve r.code owner = s.popRequest.answer r .badArgument [] := by
  simp [State.serve, s.oldestRequest_of r h, bad]

/-- A request of another code stays where it is (log entry 1). -/
theorem State.serve_other (r : Request) (code : Nat) (owner : State → Request → State) (h : s.servesNext r)
    (other : r.code ≠ code) : s.serve code owner = s := by
  simp [State.serve, s.oldestRequest_of r h, other]

/-- With no request to serve nothing happens (log entry 1). -/
theorem State.serve_none (code : Nat) (owner : State → Request → State) (h : s.oldestRequest = none) :
    s.serve code owner = s := by
  simp [State.serve, h]

end Sys2Proof.Machine
end

