-- ==== Sys2Proof/Laws/Rounds.lean ====
section
/-! SUPPORT. Sorting the offsets of a round (R47, R48): a sorted list is the same offsets in ascending order, and its `k`-th
value is the one of rank `k`, which is what the median and the midpoint take. -/

namespace Sys2Proof.Machine

/-- A value put in its place keeps every value. -/
theorem insertSorted_perm (x : Int) (l : List Int) : (insertSorted x l).Perm (x :: l) := by
  induction l with
  | nil => exact .refl _
  | cons y ys ih =>
    simp only [insertSorted]
    split
    · exact .refl _
    · exact (ih.cons y).trans (.swap x y ys)

/-- A value put in its place among ascending values leaves them ascending. -/
theorem insertSorted_ascending (x : Int) (l : List Int) (h : l.Pairwise (· ≤ ·)) :
    (insertSorted x l).Pairwise (· ≤ ·) := by
  induction l with
  | nil => exact List.pairwise_singleton _ _
  | cons y ys ih =>
    have hy := List.pairwise_cons.mp h
    simp only [insertSorted]
    split
    case isTrue hx =>
      refine List.pairwise_cons.mpr ⟨fun z hz => ?_, h⟩
      rcases List.mem_cons.mp hz with rfl | hz
      · exact hx
      · exact le_trans hx (hy.1 z hz)
    case isFalse hx =>
      refine List.pairwise_cons.mpr ⟨fun z hz => ?_, ih hy.2⟩
      rcases List.mem_cons.mp ((insertSorted_perm x ys).mem_iff.mp hz) with rfl | hz
      · omega
      · exact hy.1 z hz

/-- Sorting keeps every value. -/
theorem sortAscending_perm (l : List Int) : (sortAscending l).Perm l := by
  induction l with
  | nil => exact .refl _
  | cons x xs ih => exact (insertSorted_perm x _).trans (ih.cons x)

/-- Sorting leaves the values ascending. -/
theorem sortAscending_ascending (l : List Int) : (sortAscending l).Pairwise (· ≤ ·) := by
  induction l with
  | nil => exact .nil
  | cons x xs ih => exact insertSorted_ascending x _ ih

/-- The value of rank `k`: it is one of them, at most `k` are below it, and more than `k` are not above it. -/
theorem sortAscending_rank (l : List Int) (k : Nat) (hk : k < l.length) :
    (sortAscending l).getD k 0 ∈ l
      ∧ (l.filter fun x => decide (x < (sortAscending l).getD k 0)).length ≤ k
      ∧ k < (l.filter fun x => decide (x ≤ (sortAscending l).getD k 0)).length := by
  have hp := sortAscending_perm l
  have hl : k < (sortAscending l).length := by rw [hp.length_eq]; exact hk
  have hs := List.pairwise_iff_getElem.mp (sortAscending_ascending l)
  have cut (n : Nat) (p : Int → Bool) : (l.filter p).length
      = (((sortAscending l).take n).filter p).length + (((sortAscending l).drop n).filter p).length := by
    rw [← List.length_append, ← List.filter_append, List.take_append_drop, (hp.filter p).length_eq]
  rw [List.getD_eq_getElem _ _ hl]
  refine ⟨hp.mem_iff.mp (List.getElem_mem hl), ?_, ?_⟩
  · have h : ((sortAscending l).drop k).filter (fun x => decide (x < (sortAscending l)[k])) = [] := by
      refine List.filter_eq_nil_iff.mpr fun x hx => ?_
      obtain ⟨j, hj, rfl⟩ := List.mem_iff_getElem.mp hx
      rw [List.getElem_drop]
      rcases Nat.eq_zero_or_pos j with rfl | hpos
      · simp
      · have := hs k (k + j) hl (by simp at hj; omega) (by omega)
        simpa using this
    rw [cut k, h]
    exact (Nat.add_le_add_right (List.length_filter_le _ _) _).trans (by simp)
  · have h : ((sortAscending l).take (k + 1)).filter (fun x => decide (x ≤ (sortAscending l)[k]))
        = (sortAscending l).take (k + 1) := by
      refine List.filter_eq_self.mpr fun x hx => ?_
      obtain ⟨j, hj, rfl⟩ := List.mem_iff_getElem.mp hx
      rw [List.getElem_take]
      simp only [List.length_take] at hj
      rcases Nat.lt_or_eq_of_le (show j ≤ k by omega) with hlt | rfl
      · simpa using hs j k (by omega) hl hlt
      · simp
    rw [cut (k + 1), h, List.length_take]
    omega

end Sys2Proof.Machine
end

