-- ==== Sys2Proof/Laws/Shift.lean ====
section
/-! SUPPORT. The shift unit: what a close leaves open (R136, R140), and that an evaluation of depth 2 is a whole one, since
the schedule never forces two closes on one another (R138, R139). -/

namespace Sys2Proof.Machine

/-- A close leaves the next shift open, in RUNNING, and the deferral as it was. -/
theorem State.closeShift_shift (s : State) (r : ShiftRecord) (t : StationTime) (c : CloseCause) (n : ShiftRecord) :
    (s.closeShift r t c n).shift = { s.shift with current := n, state := .running } := by
  simp [State.closeShift, State.zeroDs, State.openShift]

/-- The force close of the shift that a station time lies in is still ahead (R134). -/
theorem Configuration.before_forceClose (c : Configuration) (t : StationTime) (hl : 0 < c.shiftLength)
    (hu : t.u < 1000000) : t.instant < c.forceClose (c.shiftNumber t.s) * 1000000 := by
  have key : t.s < c.firstBoundary + c.shiftNumber t.s * c.shiftLength := by
    unfold Configuration.shiftNumber
    split
    · omega
    · have := Nat.lt_div_mul_add (a := t.s - c.firstBoundary) hl
      rw [Nat.add_mul, Nat.one_mul]
      omega
  simp only [StationTime.instant, Configuration.forceClose]
  omega

/-- After a forced close the shift that is open has its force close ahead (R139). -/
theorem State.forcedClose_ahead (s : State) (n : Nat) (hl : 0 < s.cfg.shiftLength) (hu : s.tb.time.u < 1000000) :
    ∃ m, (s.forcedClose n).shift.current.number = some m ∧ s.instant < s.cfg.forceClose m * 1000000 := by
  simp only [State.forcedClose, State.closeShift_shift, ShiftRecord.opening]
  split
  · exact ⟨_, rfl, ‹_›⟩
  · exact ⟨_, rfl, s.cfg.before_forceClose s.tb.time hl hu⟩

/-- An evaluation of any depth above 2 is the one of depth 2 (R138). -/
theorem State.evaluateDepth_two (s : State) (k : Nat) (hl : 0 < s.cfg.shiftLength) (hu : s.tb.time.u < 1000000) :
    s.evaluateDepth (k + 2) = s.evaluateDepth 2 := by
  rw [State.evaluateDepth, State.evaluateDepth]
  split
  · rename_i n hd hn
    split
    · obtain ⟨m, hm, hlt⟩ := s.forcedClose_ahead n hl hu
      have hi : (s.forcedClose n).instant = s.instant := by simp [State.instant]
      have hc : (s.forcedClose n).cfg = s.cfg := by simp
      have hnot : ¬(s.forcedClose n).cfg.forceClose m * 1000000 ≤ (s.forcedClose n).instant := by
        rw [hi, hc]; omega
      rw [State.evaluateDepth, State.evaluateDepth]
      split <;> rename_i heq
      · rw [hm] at heq
        obtain rfl : _ = _ := Option.some.inj heq
        simp only [if_neg hnot]
      · rfl
    · rfl
  · rfl

end Sys2Proof.Machine
end

