-- ==== Sys2Proof/Laws/Start.lean ====
section
/-! SUPPORT. Station time running on during START (R18, R188): the whole of it in closed form, over any count. -/

namespace Sys2Proof.Machine

/-- What one accumulation leaves below the carry, and what station time advances by, are one sum (R3). -/
theorem accumulate_sum (acc a : Int) :
    (accumulate acc a).1 + carry * (accumulate acc a).2 = acc + a + carry := by
  unfold accumulate
  split
  · simp only [carry] at *; omega
  · split <;> simp only [carry] at * <;> omega

/-- The rate accumulator keeps the sign of its addend and stays below the carry. -/
theorem accumulate_range (acc a : Int) (ha : a.natAbs ≤ 2516)
    (h : (0 ≤ a → 0 ≤ acc ∧ acc < carry) ∧ (a < 0 → acc ≤ 0 ∧ -carry < acc)) :
    (0 ≤ a → 0 ≤ (accumulate acc a).1 ∧ (accumulate acc a).1 < carry)
      ∧ (a < 0 → (accumulate acc a).1 ≤ 0 ∧ -carry < (accumulate acc a).1) := by
  unfold accumulate
  split
  · simp only [carry] at *; omega
  · split <;> simp only [carry] at * <;> omega

theorem StationTime.instant_ofInstant (n : Nat) : (StationTime.ofInstant n).instant = n := by
  rw [StationTime.ofInstant, StationTime.instant, Nat.div_add_mod']

theorem Timebase.with_time_a (tb : Timebase) (acc : Int) (t : StationTime) :
    ({ tb with acc := acc, time := t } : Timebase).a = tb.a := rfl

@[simp] theorem Timebase.advance_a (tb : Timebase) : tb.advance.a = tb.a := Timebase.with_time_a tb _ _

@[simp] theorem Timebase.advanceBy_a (tb : Timebase) (n : Nat) : (tb.advanceBy n).a = tb.a := by
  induction n with
  | zero => rfl
  | succ n ih => rw [Timebase.advanceBy, Timebase.advance_a, ih]

/-- Two runs on end are one. -/
theorem Timebase.advanceBy_add (tb : Timebase) (m n : Nat) : tb.advanceBy (m + n) = (tb.advanceBy m).advanceBy n := by
  induction n with
  | zero => rfl
  | succ n ih => rw [← Nat.add_assoc, Timebase.advanceBy, ih, ← Timebase.advanceBy]

/-- Station time from an instant and an Acc of 0, `n` microseconds on at the rate `A`: Acc holds what A has added, less
whole carries toward zero, and each carry has moved station time one microsecond, no further than its top. -/
theorem Timebase.advanceBy_closed (tb : Timebase) (n : Nat) (ha : tb.a.natAbs ≤ 2516) (h0 : tb.acc = 0)
    (top : tb.time.instant ≤ topInstant) :
    (tb.advanceBy n).acc = (tb.a * n).tmod carry
      ∧ ((tb.advanceBy n).time.instant : Int) = min (topInstant : Int) (tb.time.instant + n + (tb.a * n).tdiv carry) := by
  have key : ∀ n : Nat, ∃ k : Int, -(n : Int) ≤ k ∧ (tb.advanceBy n).acc + carry * k = tb.a * n
      ∧ ((tb.advanceBy n).time.instant : Int) = min (topInstant : Int) (tb.time.instant + n + k)
      ∧ (0 ≤ tb.a → 0 ≤ (tb.advanceBy n).acc ∧ (tb.advanceBy n).acc < carry)
      ∧ (tb.a < 0 → (tb.advanceBy n).acc ≤ 0 ∧ -carry < (tb.advanceBy n).acc) := by
    intro n
    induction n with
    | zero => exact ⟨0, by simp, by simp [Timebase.advanceBy, h0], by simp [Timebase.advanceBy]; omega,
        by simp [Timebase.advanceBy, h0, carry], by simp [Timebase.advanceBy, h0, carry]⟩
    | succ n ih =>
      obtain ⟨k, kn, sum, time, up, down⟩ := ih
      have one := accumulate_sum (tb.advanceBy n).acc tb.a
      have range := accumulate_range (tb.advanceBy n).acc tb.a ha ⟨up, down⟩
      refine ⟨k + ((accumulate (tb.advanceBy n).acc tb.a).2 - 1), by omega, ?_, ?_, ?_⟩
      · simp only [Timebase.advanceBy, Timebase.advance, Timebase.advanceBy_a]
        rw [Int.mul_add, Int.mul_sub]
        push_cast
        rw [Int.mul_add]
        omega
      · simp only [Timebase.advanceBy, Timebase.advance, Timebase.advanceBy_a, StationTime.instant_ofInstant]
        generalize (accumulate (tb.advanceBy n).acc tb.a).2 = b
        generalize (tb.advanceBy n).time.instant = t at time ⊢
        generalize tb.time.instant = t0 at time top ⊢
        generalize topInstant = hi at time top ⊢
        omega
      · simpa only [Timebase.advanceBy, Timebase.advance, Timebase.advanceBy_a] using range
  obtain ⟨k, -, sum, time, up, down⟩ := key n
  have sign : (0 ≤ tb.a → 0 ≤ tb.a * n) ∧ (tb.a < 0 → tb.a * n ≤ 0) :=
    ⟨fun h => Int.mul_nonneg h (by omega), fun h => Int.mul_nonpos_of_nonpos_of_nonneg (by omega) (by omega)⟩
  have quotient : (tb.a * n).tdiv carry = k ∧ (tb.a * n).tmod carry = (tb.advanceBy n).acc := by
    have e := Int.mul_tdiv_add_tmod (tb.a * n) carry
    have lt := Int.tmod_lt_of_pos (tb.a * n) (b := carry) (by decide)
    have gt := Int.lt_tmod_of_pos (tb.a * n) (b := carry) (by decide)
    have nonneg := fun h => Int.tmod_nonneg carry (a := tb.a * n) h
    have nonpos : tb.a * n ≤ 0 → (tb.a * n).tmod carry ≤ 0 := fun h => by
      have := Int.tmod_nonneg carry (a := -(tb.a * n)) (by omega)
      rw [Int.neg_tmod] at this
      omega
    simp only [carry] at *
    by_cases h : 0 ≤ tb.a
    · have := sign.1 h; have := up h; have := nonneg (sign.1 h); omega
    · have h : tb.a < 0 := by omega
      have := sign.2 h; have := down h; have := nonpos (sign.2 h); omega
  rw [quotient.1, quotient.2]
  exact ⟨rfl, time⟩

end Sys2Proof.Machine
end

