-- ==== Sys2Proof/Laws/Store.lean ====
section
/-! SUPPORT. The record store's array and regions: reading back what was set, and leaving every other page, slot and region
alone (R155, R158). -/

namespace Sys2Proof.Machine

variable (st : Store)

/-- A list changed at one place reads as before at every other, and changed there. -/
theorem getElem?_modifyAt {α : Type} (f : α → α) (l : List α) (i j : Nat) :
    (modifyAt f l i)[j]? = if j = i then l[j]?.map f else l[j]? := by
  induction l generalizing i j with
  | nil => simp [modifyAt]
  | cons x xs ih =>
    cases i with
    | zero => cases j <;> simp [modifyAt]
    | succ i =>
      cases j with
      | zero => simp [modifyAt]
      | succ j => simp [modifyAt, ih]

/-- A change at one place keeps the length. -/
@[simp] theorem modifyAt_length {α : Type} (f : α → α) (l : List α) (i : Nat) : (modifyAt f l i).length = l.length := by
  induction l generalizing i with
  | nil => rfl
  | cons x xs ih => cases i <;> simp [modifyAt, ih]

/-- The region set is the one read, and every other is as it was. -/
theorem Store.region_setRegion (r q : Region) (v : RegionState) :
    (st.setRegion r v).region q = if q = r then v else st.region q := by
  cases r <;> cases q <;> rfl

/-- Setting a slot leaves every other page as it was. -/
theorem Store.page_setSlot_other (p q i : Nat) (x : Slot) (h : q ≠ p) : (st.setSlot p i x).page q = st.page q := by
  simp [Store.page, Store.setSlot, List.getD_eq_getElem?_getD, getElem?_modifyAt, h]

/-- The slot set is the one read; the page's other slots are as they were. -/
theorem Store.page_setSlot_same (p i : Nat) (x : Slot) (h : p < st.pages.length) :
    ((st.setSlot p i x).page p).slots = (st.page p).slots.set i x := by
  simp only [Store.page, Store.setSlot, List.getD_eq_getElem?_getD, getElem?_modifyAt, if_true]
  simp [h]

/-- An append point lies in the active page, at a slot of it. -/
theorem Store.appendPoint_spec (r : Region) (p i : Nat) (h : st.appendPoint r = some (p, i)) :
    (st.region r).active = some p ∧ (st.region r).slot = i ∧ i < r.slots := by
  unfold Store.appendPoint at h
  split at h
  · split at h
    · cases h
      exact ⟨‹_›, rfl, ‹_›⟩
    · cases h
  · cases h

/-! ## Counting records down (R174) -/

/-- A record put in its place keeps every record. -/
theorem insertDescending_perm (x : Nat × StoredRecord) (l : List (Nat × StoredRecord)) :
    (insertDescending x l).Perm (x :: l) := by
  induction l with
  | nil => exact .refl _
  | cons y ys ih =>
    simp only [insertDescending]
    split
    · exact .refl _
    · exact (ih.cons y).trans (.swap x y ys)

/-- A record put in its place among records of descending store sequence leaves them descending. -/
theorem insertDescending_descending (x : Nat × StoredRecord) (l : List (Nat × StoredRecord))
    (h : l.Pairwise fun a b => b.1 ≤ a.1) : (insertDescending x l).Pairwise fun a b => b.1 ≤ a.1 := by
  induction l with
  | nil => exact List.pairwise_singleton _ _
  | cons y ys ih =>
    have hy := List.pairwise_cons.mp h
    simp only [insertDescending]
    split
    case isTrue hx =>
      refine List.pairwise_cons.mpr ⟨fun z hz => ?_, h⟩
      rcases List.mem_cons.mp hz with rfl | hz
      · exact hx
      · exact (hy.1 z hz).trans hx
    case isFalse hx =>
      refine List.pairwise_cons.mpr ⟨fun z hz => ?_, ih hy.2⟩
      rcases List.mem_cons.mp ((insertDescending_perm x ys).mem_iff.mp hz) with rfl | hz
      · omega
      · exact hy.1 z hz

/-- Sorting keeps every record. -/
theorem sortDescending_perm (l : List (Nat × StoredRecord)) : (sortDescending l).Perm l := by
  induction l with
  | nil => exact .refl _
  | cons x xs ih => exact (insertDescending_perm x _).trans (ih.cons x)

/-- Sorting leaves the store sequences descending. -/
theorem sortDescending_descending (l : List (Nat × StoredRecord)) :
    (sortDescending l).Pairwise fun a b => b.1 ≤ a.1 := by
  induction l with
  | nil => exact .nil
  | cons x xs ih => exact insertDescending_descending x _ ih

end Sys2Proof.Machine
end

