-- ==== Sys2Proof/WellFormed.lean ====
section
/-! DEFINITION. Which commands are well formed: those whose operands lie in the ranges the spec gives what they stand for
(inputs 0 to 15 and groups 1 to 7, R59, R95; a bus target 0 to 31, R19; a request payload of 2 to 48 bytes and a handover
payload of 15 or 23, R36; the instants of START in their order, R187). The machine answers every command, well formed or
not (log entries 1, 21 and 35). -/

namespace Sys2Proof

/-- A list of numbers below a bound with no repeats, as the operands that give an order are. -/
def orderBelow (n : Nat) (l : List Nat) : Bool := l.all (· < n) && decide l.Nodup

/-- A list of groups, 1 to 7, with no repeats. -/
def groupOrder (l : List Nat) : Bool := orderBelow 8 l && !l.contains 0

/-- The operands of START: instants in order, and a memory of 256 bytes when it answers (R190). -/
def StartInputs.wellFormed (i : StartInputs) : Bool :=
  decide (i.initAt ≤ i.recordAt ∧ i.recordAt ≤ i.endAt)
    && (match i.memory with
        | some m => m.length == 256
        | none   => true)

/-- A command's operands lie in their ranges. -/
def Instr.wellFormed : Instr → Bool
  | .elapsedMicrosecond _ order => groupOrder order.closeFirst
  | .secondMarkPulseEnd => true
  | .mark => true
  | .markTimeout => true
  | .channelQuiet _ => true
  | .channelActivity _ => true
  | .deferralEnd _ => true
  | .beaconStamp _ => true
  | .collision _ => true
  | .sendingComplete _ => true
  | .timingMark _ => true
  | .reception _ _ oddBits => decide (oddBits < 8)
  | .consoleRequest target payload => decide (target ≤ 31) && decide (2 ≤ payload.length ∧ payload.length ≤ 48)
  | .consoleHandoverNotice payload => decide (payload.length = 15 ∨ payload.length = 23)
  | .inputSample _ order => orderBelow 16 order
  | .chatterWindowEnd input => decide (input < 16)
  | .chatterEnd input => decide (input < 16)
  | .groupClose group => decide (1 ≤ group ∧ group ≤ 7)
  | .groupHoldEnd group => decide (1 ≤ group ∧ group ≤ 7)
  | .statusSample _ => true
  | .dwellEnd => true
  | .elapsedMillisecondTick => true
  | .checkpointIntervalExpiry => true
  | .storeWriteBegin => true
  | .storeWriteEnd _ => true
  | .eraseBegin => true
  | .eraseSuspend => true
  | .eraseResume => true
  | .eraseComplete => true
  | .eraseFail => true
  | .storeRead => true
  | .supplyWarning _ => true
  | .supplyRise _ => true
  | .supplyHoldFall _ => true
  | .powerDip => true
  | .status => true
  | .readTime => true
  | .readPeers => true
  | .fetchLog => true
  | .readArchive => true
  | .fetchNotices => true
  | .readGroup => true
  | .ackGroup => true
  | .readTallies => true
  | .readShift => true
  | .presetTally => true
  | .protectTally => true
  | .lockDownTally => true
  | .setTime closeFirst => groupOrder closeFirst
  | .clearFlags => true
  | .restart => true
  | .restartReset => true
  | .powerOn => true
  | .supplyReset supply => decide (supply < 3900)
  | .resetLine => true
  | .start inputs => inputs.wellFormed
  | .unknownRequest => true

end Sys2Proof
end

