-- ==== Sys2Proof/Tests/Slice0.lean ====
section
/-! SUPPORT. The model's own tests: an ill-formed command for each check of WellFormed, a witness for every statement of
Certificates/Slice0/Obligations.lean that has hypotheses (each clause at a state that meets it, with what the spec says of
that state), and worked examples and boundary values of the spec. Expected results come from the rules named. -/

namespace Sys2Proof.Tests

open Sys2Proof.Machine

/-! ## WellFormed refuses -/

theorem test_wf_refuses_group_out_of_range :
    (Instr.elapsedMicrosecond .whole ⟨false, [8]⟩).wellFormed = false ∧ (Instr.groupClose 0).wellFormed = false
      ∧ (Instr.groupHoldEnd 8).wellFormed = false ∧ (Instr.setTime [0]).wellFormed = false
      ∧ (Instr.setTime [2, 2]).wellFormed = false := by decide

theorem test_wf_refuses_input_out_of_range :
    (Instr.inputSample 0 [16]).wellFormed = false ∧ (Instr.inputSample 0 [3, 3]).wellFormed = false
      ∧ (Instr.chatterWindowEnd 16).wellFormed = false ∧ (Instr.chatterEnd 16).wellFormed = false := by decide

theorem test_wf_refuses_bad_telegrams :
    (Instr.reception .a [] 8).wellFormed = false ∧ (Instr.consoleRequest 32 [1, 0]).wellFormed = false
      ∧ (Instr.consoleRequest 5 [1]).wellFormed = false
      ∧ (Instr.consoleHandoverNotice (List.replicate 16 0)).wellFormed = false := by decide

theorem test_wf_refuses_bad_supply_and_start :
    (Instr.supplyReset 3900).wellFormed = false
      ∧ (Instr.start ⟨none, 5, false, 5000, 2, 1, 3, 5000, true⟩).wellFormed = false
      ∧ (Instr.start ⟨none, 5, false, 5000, 1, 4, 3, 5000, true⟩).wellFormed = false
      ∧ (Instr.start ⟨some [0], 5, false, 5000, 1, 2, 3, 5000, true⟩).wellFormed = false := by decide

theorem test_wf_accepts_boundaries :
    (Instr.elapsedMicrosecond .whole ⟨true, [7, 1]⟩).wellFormed = true ∧ (Instr.chatterEnd 15).wellFormed = true
      ∧ (Instr.supplyReset 3899).wellFormed = true ∧ (Instr.consoleRequest 31 [1, 0]).wellFormed = true := by decide

/-! ## The states the tests start from -/

/-- The next state a command answers. -/
def after (c : Instr) (s : State) : State :=
  match exec c s with
  | .next t => t
  | _ => s

/-- A configuration with input 3 a PROTECTION input of group 2 that qualifies after 4 ms (the example of chapter 4). -/
def testConfig : Configuration :=
  { Configuration.defaults .good with
    inputs := (List.replicate 16 InputConfig.disabled).set 3 ⟨true, false, .protection, 2, 8⟩
    modeTable := (List.replicate 64 (some Mode.standstill)).set 1 (some .generating) |>.set 2 none |>.set 3 (some .spin)
    markEnable := true }

/-- The store with every page blank and each region at its first page. -/
def testStore : Store :=
  { Store.cleared blankArray with
    journal := ⟨some 0, 0, some 1, 0, false⟩
    shifts := ⟨some 4, 0, some 5, 0, false⟩
    trips := ⟨some 8, 0, some 9, 0, false⟩ }

/-- A running part, AGREED, station 5, two seconds after its START. -/
def base : State :=
  { State.reset with
    phase := .running
    cfg := testConfig
    ownNumber := 5
    tb := { Timebase.cleared with elapsed := 2000000, time := ⟨100, 250⟩, g := 41 }
    agr := { Agreement.free 7 with state := .agreed }
    shift := { ShiftUnit.cleared with
      current := { ShiftRecord.opening (some 0) ⟨⟨10, 0⟩, 0, 3⟩ .powerUp none with
        powered := 900, durations := [400, 0, 500, 0, 0, 0, 0] }
      deferred := false }
    store := testStore }

/-- The running part with one request waiting from station 2. -/
def asking (code : Nat) (params : List Byte) : State :=
  { base with req := { base.req with queue := [⟨2, [BitVec.ofNat 8 code, 77] ++ params⟩] } }

/-- That request. -/
def asked (code : Nat) (params : List Byte) : Request := ⟨2, [BitVec.ofNat 8 code, 77] ++ params⟩

/-- A state in which the request is served next, which passes the checks of R178. -/
def Serves (s : State) (r : Request) (code : Nat) : Prop := s.servesNext r ∧ r.code = code ∧ r.acceptable = true

theorem serves_asked (code : Nat) (params : List Byte) :
    (asking code params).servesNext (asked code params) := ⟨rfl, rfl, rfl⟩

/-- The ANSWER payload that the latest copy of channel A's transmit list holds. -/
def answerOf (s : State) : List Byte := (s.chA.list.getLast?.map (·.payload)).getD []

/-! ## The block as a whole -/

theorem witness_step_runs_the_front :
    (base.withPending [.powerDip, .mark]).pending = .powerDip :: [.mark]
      ∧ (base.withPending []).pending = [] ∧ base.withPending [] = base := by decide +kernel

theorem witness_in_reset :
    State.reset.phase = .inReset .powerOn ∧ after (.timingMark .a) State.reset = State.reset
      ∧ after .elapsedMillisecondTick State.reset = State.reset := by decide +kernel

/-! ## Station time and the timebase -/

/-- `base` with Acc and A. -/
def drifting (acc a : Int) : State := { base with tb := { base.tb with acc := acc, a := a } }

theorem witness_elapsed_microsecond :
    (drifting 16777215 1).tb.secondDue = none
      ∧ (after (.elapsedMicrosecond .advance ⟨false, []⟩) (drifting 16777215 1)).tb.time = ⟨100, 252⟩
      ∧ (after (.elapsedMicrosecond .advance ⟨false, []⟩) (drifting 16777214 1)).tb.time = ⟨100, 251⟩
      ∧ (after (.elapsedMicrosecond .advance ⟨false, []⟩) (drifting (-16777215) (-1))).tb.time = ⟨100, 250⟩
      ∧ (after (.elapsedMicrosecond .advance ⟨false, []⟩) (drifting (-16777214) (-1))).tb.acc = -16777215 := by
  decide +kernel

/-- An advance of 2 µs from U = 999,999 reaches U = 1 of the new second (R9), which is then due. -/
def atSecondsEnd : State := { base with tb := { base.tb with time := ⟨103, 999999⟩, acc := 16777215, a := 1 } }

theorem test_second_is_due_after_carry :
    (after (.elapsedMicrosecond .advance ⟨false, []⟩) atSecondsEnd).tb.time = ⟨104, 1⟩
      ∧ (after (.elapsedMicrosecond .advance ⟨false, []⟩) atSecondsEnd).tb.secondDue = some ⟨104, false⟩ := by
  decide +kernel

/-- A station second due, 104 being a multiple of L = 4. -/
def secondDueAt (sec : Nat) (hold : Option Nat) (noRound : Bool) : State :=
  { base with tb := { base.tb with time := ⟨sec, 1⟩, hold := hold, secondDue := some ⟨sec, noRound⟩ } }

theorem witness_station_second_at_a_round_boundary :
    (secondDueAt 104 (some 104) false).tb.secondDue = some ⟨104, false⟩ ∧ base.cfg.roundLength ∣ 104
      ∧ (after (.elapsedMicrosecond .signal ⟨false, []⟩) (secondDueAt 104 (some 104) false)).agr.state = .holdover
      ∧ (after (.elapsedMicrosecond .signal ⟨true, []⟩) (secondDueAt 104 (some 104) false)).tb.hold = none
      ∧ (after (.elapsedMicrosecond .signal ⟨false, []⟩) (secondDueAt 104 (some 104) false)).chB.list.length = 1
      ∧ (after (.elapsedMicrosecond .signal ⟨false, []⟩) (secondDueAt 104 (some 104) false)).tb.pulseEnd
          = some 2010000 := by decide +kernel

theorem witness_station_second_between_boundaries :
    ¬(base.cfg.roundLength ∣ 103)
      ∧ (after (.elapsedMicrosecond .signal ⟨false, []⟩) (secondDueAt 103 none false)).agr.state = .agreed
      ∧ (after (.elapsedMicrosecond .signal ⟨false, []⟩) (secondDueAt 104 (some 108) false)).agr.state = .agreed
      ∧ (after (.elapsedMicrosecond .signal ⟨false, []⟩) (secondDueAt 104 none true)).agr.state = .agreed := by
  decide +kernel

/-- What is still due of a microsecond as the next begins: the station second, and then the answer of a CLEAR FLAGS. -/
theorem witness_what_is_due_is_taken_first :
    (let s := { secondDueAt 103 none false with req := { base.req with service := some (.clearFlags (asked 15 [0, 0])) } }
     let u := after (.elapsedMicrosecond .signal ⟨false, []⟩) s
     let t := after (.elapsedMicrosecond .advance ⟨false, []⟩) s
     u.req.service = some (.clearFlags (asked 15 [0, 0])) ∧ u.chA.list.map (·.kind) = [.beacon] ∧ t.req.service = none
       ∧ t.chA.list.map (·.kind) = [.beacon, .answer] ∧ t.tb.elapsed = 2000001) := by decide +kernel

/-- A round boundary after a round of 9 and of 8 discarded receptions (R35). -/
theorem witness_round_boundary_judges_channels :
    (let s := { base with chA := { base.chA with roundErrors := 9 }, chB := { base.chB with roundErrors := 8, degraded := true } }
     (s.roundBoundary []).chA.degraded = true ∧ (s.roundBoundary []).chB.degraded = false
       ∧ (s.roundBoundary []).chA.roundErrors = 0) := by decide +kernel

/-- `base` with a second-mark pulse ending at an elapsed count. -/
def pulsing (e : Nat) : State := { base with tb := { base.tb with pulseEnd := some e } }

theorem witness_second_mark_pulse_end :
    (pulsing 2000000).tb.pulseEnd = some 2000000 ∧ (after .secondMarkPulseEnd (pulsing 2000000)).smo = false
      ∧ (after .secondMarkPulseEnd (pulsing 2000001)).smo = true := by decide +kernel

/-- `base` with a previous mark. -/
def marked (prev : Option Nat) (run : Nat) : State :=
  { base with marks := ⟨prev, run, decide (run = 3), none⟩ }

theorem witness_mark :
    (after .mark (marked none 0)).marks = ⟨some 2000000, 0, false, some (-250)⟩
      ∧ (after .mark (marked (some 999000) 2)).marks.valid = true
      ∧ (after .mark (marked (some 1001000) 1)).marks.run = 2
      ∧ (after .mark (marked (some 998999) 3)).marks = ⟨some 2000000, 0, false, some (-250)⟩
      ∧ (after .mark (marked (some 1001001) 3)).marks.valid = false
      ∧ after .mark { base with cfg := { base.cfg with markEnable := false } }
          = { base with cfg := { base.cfg with markEnable := false } } := by decide +kernel

theorem test_phase_error_rounds_half_up :
    (phaseError 499999 = -499999) ∧ phaseError 500000 = 500000 ∧ phaseError 999999 = 1 := by decide

theorem witness_mark_timeout :
    (marked (some 500000) 3).marks.prev = some 500000 ∧ base.cfg.markEnable = true
      ∧ (after .markTimeout (marked (some 500000) 3)).marks = ⟨none, 0, false, none⟩
      ∧ after .markTimeout (marked (some 500001) 3) = marked (some 500001) 3
      ∧ (after .mark (after .markTimeout (marked (some 500000) 3))).marks.run = 0 := by decide +kernel

/-- A step of −1 s with L = 4: the hold is the smallest multiple of 4 at least 4 s after 99 s 250 µs (R6). -/
theorem witness_step :
    1 ≤ base.cfg.roundLength ∧ base.log.records.length ≤ 200
      ∧ (State.step base (-1000000) .join .joining []).tb.time = ⟨99, 250⟩
      ∧ (State.step base (-1000000) .join .joining []).tb.hold = some 104
      ∧ (State.step base (-1000000) .join .joining []).log.records.map (·.body)
          = [.timeStep (-1000000) .join]
      ∧ (State.step base (-999999999999) .set .joining []).tb.time = ⟨0, 0⟩
      ∧ (State.step base 5000000000000000 .set .joining []).tb.time = ⟨4294967295, 999999⟩ := by decide +kernel

/-- A step forward into a later second signals one (R10), the pulse by the quality after it; no other step does. -/
theorem witness_step_signals :
    (let forward := State.step base 1000000 .agree .agreed []
     let still := fun (c : Int) => State.step base c .agree .agreed []
     forward.chA.list.map (·.kind) = [.beacon] ∧ forward.chB.list.length = 1 ∧ forward.senderSeq = 1
       ∧ forward.tb.pulseEnd = some 2010000 ∧ (State.step base 999750 .agree .joining []).tb.pulseEnd = none
       ∧ (State.step base 999750 .agree .joining []).chA.list.length = 1 ∧ (still 999749).chA.list = []
       ∧ (still 0).senderSeq = 0 ∧ (still (-1000000)).chB.list = [] ∧ (still (-1000000)).tb.pulseEnd = none
       ∧ (State.step base 20600000000 .agree .agreed []).shift.state = .window) := by decide +kernel

/-- A SET TIME to 7 s 3 µs asked of a FREE station and of one with a valid mark. -/
def settable (state : AgreementState) (valid : Bool) : State :=
  { asking 14 (beBytes 4 7 ++ beBytes 4 3) with
    agr := { base.agr with state := state }, marks := ⟨none, 0, valid, none⟩ }

theorem witness_set_time :
    (settable .free false).servesNext (asked 14 (beBytes 4 7 ++ beBytes 4 3))
      ∧ (asked 14 (beBytes 4 7 ++ beBytes 4 3)).acceptable = true
      ∧ (after (.setTime []) (settable .free false)).tb.time = ⟨7, 3⟩
      ∧ (after (.setTime []) (settable .free false)).agr.state = .joining
      ∧ (after (.setTime []) (settable .agreed true)).agr.state = .anchored
      ∧ answerOf (after (.setTime []) (settable .agreed true)) = [14, 77, 0, 0, 0, 0, 7, 0, 0, 0, 3, 42]
      ∧ answerOf (after (.setTime []) (settable .agreed false)) = [14, 77, 3] := by
  exact ⟨⟨rfl, rfl, rfl⟩, by decide +kernel⟩

theorem witness_station_time_moves :
    base.instant ≤ 4294967295999999
      ∧ (after (.elapsedMicrosecond .whole ⟨false, []⟩) base).phase = .running
      ∧ (after (.elapsedMicrosecond .whole ⟨false, []⟩) base).tb.g = base.tb.g
      ∧ (after (.setTime []) (settable .free false)).tb.g ≠ (settable .free false).tb.g := by decide +kernel

theorem witness_rates_in_range : base.RatesInRange := by simp only [State.RatesInRange]; decide +kernel

/-! ## Time agreement -/

/-- The spec's slew of c = 200 µs with L = 4 s: P is 419 units and F gains 104. -/
theorem test_slew : (base.slew 200).tb.a = 7 + 104 + 419 ∧ (base.slew (-200)).agr.f = 7 - 104 := by decide +kernel

/-- With F at its limit of 2516 the limited slew has 839 units either way (R51). -/
theorem witness_limited_slew :
    (let s := { base with agr := { base.agr with f := -2516 } }
     s.agr.f.natAbs ≤ 3355 ∧ (s.limitedSlew (-50000)).tb.a = -3355 ∧ (s.limitedSlew 400).tb.a = -2516 + 838
       ∧ (s.limitedSlew 401).tb.a = -2516 + 839 ∧ (s.limitedSlew 50000).tb.a = -2516 + 839
       ∧ (s.limitedSlew 50000).agr.f = -2516) := by decide +kernel

/-- A peer of a reported state and an offset, heard this round. -/
def heardPeer (state : Byte) (offset : Int) (far : Bool) : Peer :=
  { Peer.cleared with present := true, state := state, offset := offset, far := far, heard := true, window := some ⟨1, 0⟩ }

/-- A station in a state that hears some peers. -/
def hearingPeers (state : AgreementState) (peers : List Peer) : State :=
  { base with agr := { base.agr with state := state }, peers := peers }

/-- The outcome of the round of a station. -/
def outcomeOf (s : State) : RoundOutcome := roundOutcome s.agr.state s.cfg.dropped s.ownMark s.peers

/-- With f = 1: two peers and the own 0 give a midpoint; of two and of three ANCHORED peers the lower median; one peer is too
few; a far peer counts in the bootstrap set of FREE alone, and a code above 4 is FREE (R46 to R48). -/
theorem witness_round_outcome :
    outcomeOf (hearingPeers .agreed [heardPeer 2 (-3) false, heardPeer 3 (-9) false]) = .midpoint (-3)
      ∧ outcomeOf (hearingPeers .agreed [heardPeer 4 30 false, heardPeer 2 0 false, heardPeer 4 (-8) false]) = .anchored (-8)
      ∧ outcomeOf (hearingPeers .agreed [heardPeer 4 30 false, heardPeer 4 2 false, heardPeer 4 (-8) false]) = .anchored 2
      ∧ outcomeOf (hearingPeers .agreed [heardPeer 2 5 false]) = .insufficient
      ∧ outcomeOf (hearingPeers .agreed [heardPeer 2 5000000 true, heardPeer 5 5 false, heardPeer 0 5 false]) = .insufficient
      ∧ outcomeOf (hearingPeers .free [heardPeer 0 5000000 true, heardPeer 5 4000000 true]) = .midpoint 4000000
      ∧ outcomeOf { hearingPeers .agreed [heardPeer 4 30 false] with
            marks := ⟨none, 3, true, some 12⟩, tb := { base.tb with secondsKnown := true } } = .mark 12
      ∧ outcomeOf { hearingPeers .agreed [heardPeer 4 30 false] with marks := ⟨none, 3, true, some 12⟩ } = .anchored 30 := by
  decide +kernel

/-- A round at which one peer of two is silent for the third time: a slew, a limited slew, a hold and a step (R41, R51). -/
theorem witness_agreement_round :
    (let silent := { heardPeer 2 7 false with heard := false, missed := 2 }
     let t := (hearingPeers .agreed [heardPeer 4 1000 false, silent]).agreementRound []
     let u := (hearingPeers .agreed [heardPeer 4 1001 false, { silent with missed := 1 }]).agreementRound []
     let v := (hearingPeers .agreed [silent]).agreementRound []
     let w := (hearingPeers .free [heardPeer 4 (-1000) false]).agreementRound []
     t.agr.state = .agreed ∧ t.peers.map (fun p => (p.present, p.missed, p.heard)) = [(true, 0, false), (false, 3, false)]
       ∧ t.agr.f = 7 + 524 ∧ t.tb.a = 7 + 524 + 2097
       ∧ u.agr.disagree = 1 ∧ u.agr.f = 7 ∧ u.peers.map (fun p => (p.present, p.missed)) = [(true, 0), (true, 2)]
       ∧ v.agr.state = .holdover ∧ v.tb.a = 7
       ∧ w.agr.state = .joining ∧ w.tb.secondsKnown = true ∧ w.tb.time = ⟨99, 999250⟩) := by decide +kernel

theorem witness_round_decisions :
    (decideRound 1000 60 false { Agreement.free 0 with state := .agreed, disagree := 1 } (.midpoint 1001)).action
        = .limited 1001
      ∧ (decideRound 1000 60 false { Agreement.free 0 with state := .agreed, disagree := 2 } (.midpoint 1001)).action
        = .step 1001 .agree
      ∧ (decideRound 1000 60 false { Agreement.free 0 with state := .joining, good := 1 } (.midpoint 1000)).state = .agreed
      ∧ (decideRound 1000 60 false { Agreement.free 0 with state := .holdover, holdover := 59 } .insufficient).state = .free
      ∧ (decideRound 1000 60 false { Agreement.free 0 with state := .anchored } (.anchored 1001)).state = .agreed
      ∧ decideRound 1000 60 true { Agreement.free 0 with state := .anchored, disagree := 1 } (.anchored 1001)
        = ⟨.hold, .anchored, 0, 1, 0, false⟩ := by
  decide +kernel

/-- Three offsets within ±10 and one false one, f = 1: the midpoint stays within the three. -/
theorem witness_midpoint :
    2 * 1 + 1 ≤ [10, -10, 900000, 4].length
      ∧ ([10, -10, 900000, 4].filter fun (x : Int) => decide (x < -10 ∨ 10 < x)).length ≤ 1
      ∧ midpointOf 1 [10, -10, 900000, 4] = 7 := by decide +kernel

/-! ## The bus -/

/-- A copy of a kind, with its payload. -/
def copyOf (k : TelegramKind) (payload : List Byte) (retried sending : Bool) : Copy :=
  ⟨k, 31, 9, payload, retried, sending, false⟩

/-- `base` with a line controller on channel A. -/
def onA (lc : LineController) : State := { base with chA := lc }

/-- A line controller with copies in its list. -/
def holding (l : List Copy) : LineController := { LineController.cleared 1999984 with list := l }

/-- A line controller 300 µs into the sending of its first copy. -/
def sendingFirst (l : List Copy) : LineController := { holding l with sendStart := some 1999700 }

theorem witness_channel_events :
    (holding []).quiet = false ∧ (holding []).lastActivity + 16 ≤ base.tb.elapsed
      ∧ (after (.channelQuiet .a) (onA (holding []))).chA.quiet = true
      ∧ (after (.channelQuiet .a) (onA (holding [copyOf .answer [] false false]))).chA.deferral = some 2000000
      ∧ after (.channelQuiet .a) (onA { holding [] with lastActivity := 1999985 })
          = onA { holding [] with lastActivity := 1999985 }
      ∧ (after (.channelActivity .a) (onA { holding [] with quiet := true })).chA.quiet = false
      ∧ (after (.timingMark .b) base).chB.stamp = some ⟨⟨100, 250⟩, 41⟩ := by decide +kernel

theorem witness_beacon_stamp :
    (sendingFirst [copyOf .beacon [] false true]).sends 0 (copyOf .beacon [] false true) 1999700
      ∧ ((after (.beaconStamp .a) (onA (sendingFirst [copyOf .beacon [] false true]))).chA.list.map (·.payload))
          = [[41, 2, 0, 0, 0, 0, 0, 100, 0, 0, 0, 250]] := by
  exact ⟨⟨rfl, rfl⟩, by decide +kernel⟩

/-- A REQUEST behind a BEACON: the request, class 2, is the head; station 5 defers 552 bit times. -/
def deferring (start : Nat) : State :=
  onA { holding [copyOf .beacon [] false false, copyOf .request [1, 2] false false] with
    quiet := true, deferral := some start }

theorem witness_deferral_end :
    (∀ x ∈ (deferring 0).chA.list, TelegramKind.mediumClass .request ≤ x.kind.mediumClass)
      ∧ (∀ j x, j < 1 → (deferring 0).chA.list[j]? = some x → TelegramKind.mediumClass .request < x.kind.mediumClass)
      ∧ (after (.deferralEnd .a) (deferring 1999448)).chA.list.map (·.sending) = [false, true]
      ∧ after (.deferralEnd .a) (deferring 1999449) = deferring 1999449 := by
  refine ⟨by decide, ?_, by decide +kernel, by decide +kernel⟩
  intro j x hj hx
  have : j = 0 := by omega
  subst this
  have : x = copyOf .beacon [] false false := by simpa [deferring, onA, holding] using hx.symm
  subst this
  decide

theorem witness_collision :
    (sendingFirst [copyOf .answer [] true true]).sends 0 (copyOf .answer [] true true) 1999700
      ∧ (after (.collision .a) (onA (sendingFirst [copyOf .beacon [1] false true]))).chA.list
          = [copyOf .beacon [] true false]
      ∧ (after (.collision .a) (onA (sendingFirst [copyOf .tripNotice [] true true]))).flags.noticeLoss = true
      ∧ (after (.collision .a) (onA (sendingFirst [copyOf .answer [] true true]))).req.lostAnswers = 1
      ∧ (after (.collision .a) (onA (sendingFirst [{ copyOf .answer [] true true with lossCounted := true }]))).req.lostAnswers
          = 0
      ∧ (after (.collision .a) (onA (sendingFirst [copyOf .request [] true true]))).chA.collisions = 1 := by
  exact ⟨⟨rfl, rfl⟩, by decide +kernel⟩

/-- A telegram of 18 payload bytes lasts 224 bit times, a BEACON 176 (R19). -/
theorem witness_sending_complete :
    (sendingFirst [copyOf .tripNotice (List.replicate 18 0) false true]).sends 0
        (copyOf .tripNotice (List.replicate 18 0) false true) 1999700
      ∧ (copyOf .tripNotice (List.replicate 18 0) false true).bitTimes = 224 ∧ (copyOf .beacon [] false true).bitTimes = 176
      ∧ (after (.sendingComplete .a) (onA (sendingFirst [copyOf .tripNotice (List.replicate 18 0) false true]))).chA.list = []
      ∧ (after (.sendingComplete .a) (onA (sendingFirst [copyOf .beacon (List.replicate 12 0) false true]))).out.length
          = 1 := by
  exact ⟨⟨rfl, rfl⟩, by decide +kernel⟩

/-- A telegram of a station as it is received. -/
def telegram (sender : Nat) (k : TelegramKind) (target seq : Nat) (payload : List Byte) : List Byte :=
  Copy.frame sender ⟨k, target, seq, payload, false, false, false⟩

theorem witness_sent_telegram_is_received :
    checkReception (telegram 30 .request 31 65535 [1, 2]) 0 = some ⟨4, 30, 31, 65535, [1, 2]⟩
      ∧ checkReception (telegram 0 .handoverNotice 0 0 (2 :: List.replicate 22 0)) 0
          = some ⟨3, 0, 0, 0, 2 :: List.replicate 22 0⟩
      ∧ checkReception (telegram 0 .handoverNotice 0 0 (1 :: List.replicate 22 0)) 0 = none := by decide +kernel

/-- The check of the nine ASCII digits, the usual test value of this polynomial and initial value. -/
theorem test_crc_of_digits : crc [0x31, 0x32, 0x33, 0x34, 0x35, 0x36, 0x37, 0x38, 0x39] = 0x29B1 := by decide +kernel

/-- `base` receiving on a channel, its stamp latched. -/
def hearing : State :=
  { base with
    chA := { LineController.cleared 0 with stamp := some ⟨⟨100, 12⟩, 41⟩ }
    chB := { LineController.cleared 0 with stamp := some ⟨⟨100, 30⟩, 41⟩ } }

theorem witness_bad_reception :
    (hearing.line .a).stamp = some ⟨⟨100, 12⟩, 41⟩
      ∧ (after (.reception .a [1, 2, 3] 0) hearing).chA.errors = 1
      ∧ (after (.reception .a (telegram 8 .request 31 0 [1, 2]) 1) hearing).chA.roundErrors = 1
      ∧ (after (.reception .a (telegram 31 .request 31 0 [1, 2]) 0) hearing).chA.errors = 1
      ∧ (after (.reception .a (telegram 8 .request 32 0 [1, 2]) 0) hearing).chA.errors = 1
      ∧ (after (.reception .a (telegram 8 .request 31 0 [1]) 0) hearing).chA.errors = 1
      ∧ (after (.reception .a ((telegram 8 .request 31 0 [1, 2]).set 6 9) 0) hearing).chA.errors = 1
      ∧ (after (.reception .a (telegram 5 .request 31 0 [1, 2]) 0) hearing).flags.duplicateStation = true := by
  decide +kernel

/-- The window after 20, 18 and 21: 17 and 19 unrecorded, 18 and 20 recorded. -/
theorem witness_duplicate_window :
    (judgeWindow (some ⟨20, 2#16⟩) 21).2.1 = some ⟨21, 5#16⟩
      ∧ (judgeWindow (some ⟨20, 2#16⟩) 20).1 = false ∧ (judgeWindow (some ⟨20, 2#16⟩) 18).1 = false
      ∧ judgeWindow (some ⟨20, 2#16⟩) 19 = (true, some ⟨20, 3#16⟩, false)
      ∧ (judgeWindow (some ⟨20, 0#16⟩) 4).1 = true ∧ (judgeWindow (some ⟨20, 0#16⟩) 3).2.2 = true
      ∧ judgeWindow (some ⟨20, 0#16⟩) 32787 = (true, some ⟨32787, 0#16⟩, false)
      ∧ judgeWindow (some ⟨20, 0#16⟩) 32788 = (true, some ⟨32788, 0#16⟩, true) := by decide +kernel

theorem witness_accepted_telegrams :
    checkReception (telegram 8 .answer 5 3 [1, 2, 0]) 0 = some ⟨5, 8, 5, 3, [1, 2, 0]⟩
      ∧ (after (.reception .a (telegram 8 .request 31 3 [1, 2]) 0) hearing).req.queue = [⟨8, [1, 2]⟩]
      ∧ (after (.reception .a (telegram 8 .request 6 3 [1, 2]) 0) hearing).req.queue = []
      ∧ (after (.reception .a (telegram 8 .answer 5 3 [1, 2, 0]) 0) { hearing with console := true }).out
          = [.ctxAnswer 8 [1, 2, 0]]
      ∧ (after (.reception .a (telegram 8 .answer 5 3 [1, 2, 0]) 0) hearing).out = []
      ∧ ((after (.reception .a (telegram 8 .request 6 3 [1, 2]) 0) hearing).peer 8).window = some ⟨3, 0⟩ := by
  decide +kernel

/-- The two forms of a HANDOVER NOTICE payload (R36). -/
theorem witness_handover_layout :
    (let short : List Byte := [2, 0, 0, 1, 0, 0, 12] ++ [0, 0, 0, 9] ++ [0, 0, 1, 0]
     HandoverNotice.ofBytes short = ⟨2, 256, 12, ⟨9, 256⟩, none⟩
       ∧ HandoverNotice.ofBytes (short ++ [0, 0, 0, 8, 0, 0, 0, 3]) = ⟨2, 256, 12, ⟨9, 256⟩, some ⟨8, 3⟩⟩
       ∧ HandoverNotice.ofBytes (short ++ List.replicate 8 255) = ⟨2, 256, 12, ⟨9, 256⟩, none⟩) := by decide +kernel

/-- A beacon stamped 08:15:20.999950 and latched at 08:15:21.000012 with D = 8 µs gives an offset of −54 µs (R39). -/
def lateBeacon : List Byte := [9, 2, 0, 1] ++ beBytes 4 99 ++ beBytes 4 999950

theorem witness_second_copy_and_offset :
    hearing.peers.length = 31 ∧ (hearing.peer 8).window = none
      ∧ (let s := { hearing with cfg := { hearing.cfg with lineDelay := 8 } }
         let t := after (.reception .a (telegram 8 .beacon 31 3 lateBeacon) 0) s
         let u := after (.reception .b (telegram 8 .beacon 31 3 lateBeacon) 0) t
         (t.peer 8).offset = -54 ∧ (t.peer 8).heardB = false ∧ (u.peer 8).offset = -54 ∧ (u.peer 8).heardB = true
          ∧ (u.peer 8).far = false) := by decide +kernel

/-- A duplicate BEACON marks its channel, in either order of the channels and after 16 sequences more; past those the sender's
window takes it for a restart (R30, R33). -/
theorem witness_every_duplicate :
    (let data := telegram 8 .beacon 31 3 lateBeacon
     let t := after (.reception .b data 0) hearing
     let u := after (.reception .a data 0) t
     let later := fun (h : Nat) (w : BitVec 16) =>
       { hearing with peers := hearing.peers.set 8 { t.peer 8 with window := some ⟨h, w⟩, heardB := false } }
     t.chA.stamp = some ⟨⟨100, 12⟩, 41⟩ ∧ (t.peer 8).heardA = false ∧ (u.peer 8).heardA = true
       ∧ (u.peer 8).offset = (t.peer 8).offset ∧ (t.peer 8).window = some ⟨3, 0⟩
       ∧ judgeWindow (some ⟨3, 0⟩) 19 = (true, some ⟨19, 32768#16⟩, false) ∧ (judgeWindow (some ⟨19, 32768#16⟩) 3).1 = false
       ∧ after (.reception .b data 0) (later 19 32768#16)
           = { later 19 32768#16 with
               chB := { hearing.chB with stamp := none, lastActivity := 2000000 }
               peers := (later 19 32768#16).peers.set 8 { t.peer 8 with window := some ⟨19, 32768#16⟩, heardB := true } }
       ∧ ((after (.reception .b data 0) (later 20 0#16)).peer 8).restarts = 1) := by decide +kernel

/-- A notice payload: the change of input 1 of group 2 at another station. -/
def noticeOf (time : StationTime) (q : Quality) : List Byte :=
  tripNoticeBytes 902 ⟨time, 41, q⟩ .change 1 true .protection 2 false

theorem witness_notice_entry :
    (List.replicate 64 (Notice.mk 8 [])).length = 64
      ∧ (after (.reception .a (telegram 8 .tripNotice 31 3 (noticeOf ⟨100, 0⟩ 1)) 0) hearing).notices
          = [⟨8, noticeOf ⟨100, 0⟩ 1⟩]
      ∧ (after (.reception .a (telegram 8 .tripNotice 31 3 (noticeOf ⟨100, 0⟩ 1)) 0)
          { hearing with notices := List.replicate 64 ⟨1, []⟩ }).flags.noticeOverrun = true
      ∧ (after (.reception .a (telegram 8 .tripNotice 31 3 (noticeOf ⟨100, 0⟩ 1)) 0)
          { hearing with notices := List.replicate 63 ⟨1, []⟩ }).flags.noticeOverrun = false := by decide +kernel

/-- A notice of a kind, input, level, class, group and quality, at station time 100 s and so many µs. -/
def noticeWith (kind input level cls group quality : Byte) (u : Nat) : Received :=
  ⟨2, 8, 31, 3, [3, 134, kind, input, level, cls, group, quality, 41, 0] ++ beBytes 4 100 ++ beBytes 4 u⟩

/-- Whether a notice is entered, and whether it is taken as a member, under a configuration (R90, R91, R97). -/
def takenUnder (c : Configuration) (r : Received) : Bool × Bool :=
  let s := { base with cfg := c }
  (decide ((s.offerNotice r).notices = [⟨8, r.payload⟩]), decide (s.offerMember r ≠ s))

theorem witness_notice_range_and_filter :
    takenUnder testConfig (noticeWith 2 15 1 1 7 3 999999) = (true, true)
      ∧ takenUnder testConfig (noticeWith 2 0 1 0 1 0 0) = (true, false)
      ∧ takenUnder testConfig (noticeWith 2 0 0 2 1 0 0) = (true, false)
      ∧ takenUnder testConfig (noticeWith 4 0 1 2 0 0 0) = (true, false)
      ∧ takenUnder testConfig (noticeWith 5 0 1 1 1 0 0) = (false, false)
      ∧ takenUnder testConfig (noticeWith 2 16 1 1 1 0 0) = (false, false)
      ∧ takenUnder testConfig (noticeWith 2 0 2 1 1 0 0) = (false, false)
      ∧ takenUnder testConfig (noticeWith 2 0 1 3 1 0 0) = (false, false)
      ∧ takenUnder testConfig (noticeWith 2 0 1 1 8 0 0) = (false, false)
      ∧ takenUnder testConfig (noticeWith 2 0 1 1 1 4 0) = (false, false)
      ∧ takenUnder testConfig (noticeWith 2 0 1 1 1 0 1000000) = (false, false)
      ∧ takenUnder { testConfig with senderReject := 256 } (noticeWith 2 0 1 1 1 0 0) = (false, true)
      ∧ takenUnder { testConfig with chatterReject := true } (noticeWith 3 0 1 1 1 0 0) = (false, false)
      ∧ takenUnder { testConfig with chatterReject := true } (noticeWith 2 0 1 1 1 0 0) = (true, true)
      ∧ takenUnder { testConfig with rejectUnitTrip := true } (noticeWith 2 0 1 2 1 0 0) = (false, true)
      ∧ takenUnder { testConfig with rejectUnitTrip := true } (noticeWith 3 0 1 2 1 0 0) = (true, false)
      ∧ takenUnder { testConfig with groupReject := 128 } (noticeWith 2 0 1 2 7 0 0) = (false, true)
      ∧ takenUnder { testConfig with groupReject := 127 } (noticeWith 2 0 1 2 0 0 0) = (true, false) := by decide +kernel

theorem witness_console_computer :
    (let s := { base with console := true }
     (after (.consoleRequest 5 [1, 2]) s).req.queue = [⟨5, [1, 2]⟩] ∧ (after (.consoleRequest 5 [1, 2]) s).senderSeq = 0
        ∧ (after (.consoleRequest 31 [1, 2]) s).req.queue = [⟨5, [1, 2]⟩]
        ∧ (after (.consoleRequest 6 [1, 2]) s).chB.list.map (·.target) = [6]
        ∧ (after (.consoleHandoverNotice (1 :: List.replicate 14 0)) s).shift.current.strays = 1)
      ∧ after (.consoleRequest 31 [1, 2]) base = base := by decide +kernel

/-- The request queue at 3 and at 4 requests, and its overflow count at its top (R175). -/
theorem witness_request_entered :
    (let s := fun (n overflow : Nat) =>
       { base with req := { base.req with queue := List.replicate n ⟨1, [2, 0]⟩, overflow := overflow } }
     ((s 3 0).enterRequest ⟨8, [1, 2]⟩).req.queue = List.replicate 3 ⟨1, [2, 0]⟩ ++ [⟨8, [1, 2]⟩]
       ∧ (s 4 0).enterRequest ⟨8, [1, 2]⟩ = s 4 1 ∧ (s 4 65535).enterRequest ⟨8, [1, 2]⟩ = s 4 65535) := by
  decide +kernel

theorem witness_telegram_queued :
    (let full := holding (List.replicate 8 (copyOf .answer [] false false))
     let s := { base with chA := full, chB := full }
     let t := { base with chA := holding (copyOf .beacon [] false false :: List.replicate 7 (copyOf .answer [] false false)),
                          chB := full }
     (s.send .tripNotice 31 []).flags.noticeLoss = true ∧ (s.send .answer 2 []).req.lostAnswers = 1
        ∧ (s.send .beacon 31 []).chA = full ∧ (t.send .beacon 31 []).chA.list.map (·.kind)
          = List.replicate 7 .answer ++ [.beacon])
      ∧ (base.send .request 6 [1]).chA.list = (base.send .request 6 [1]).chB.list
      ∧ (onA { holding [] with quiet := true }).send .request 6 [1]
          = { (onA { holding [] with quiet := true }) with
              senderSeq := 1
              chA := { holding [⟨.request, 6, 0, [1], false, false, false⟩] with quiet := true, deferral := some 2000000 }
              chB := { base.chB with list := [⟨.request, 6, 0, [1], false, false, false⟩] } } := by decide +kernel

/-- One list full and the other with room, in either direction (R25); two pending BEACONs, both replaced (log entry 39). -/
theorem witness_one_list_full :
    (let full := holding (List.replicate 8 (copyOf .answer [] false false))
     let s := { base with chA := full }
     let t := { base with chB := full }
     (s.send .tripNotice 31 []).flags.noticeLoss = true ∧ (s.send .tripNotice 31 []).chB.list.length = 1
       ∧ (s.send .answer 2 []).req.lostAnswers = 1 ∧ (s.send .answer 2 []).chB.list.map (·.lossCounted) = [true]
       ∧ (t.send .answer 2 []).req.lostAnswers = 1 ∧ (t.send .answer 2 []).chA.list.map (·.lossCounted) = [true]
       ∧ (t.send .answer 2 []).chB = full ∧ (t.send .beacon 31 []).chA.list.map (·.kind) = [.beacon]
       ∧ (t.send .beacon 31 []).chB = full ∧ (s.send .request 6 []).chB.list.length = 1)
      ∧ ((onA (holding [copyOf .beacon [] true false, copyOf .answer [] false false, copyOf .beacon [] false false])).send
          .beacon 31 []).chA.list.map (·.kind) = [.answer, .beacon] := by decide +kernel

/-! ## Trip inputs -/

/-- `base` with the channel of input 3. -/
def withInput3 (c : InputChannel) : State := { base with inputs := base.inputs.set 3 c }

/-- Input 3 with its recorded level inactive. -/
def settled : InputChannel := { InputChannel.cleared with recorded := some false }

/-- Input 3 under test since an elapsed count. -/
def testing (level : Bool) (since : Nat) : InputTest := ⟨level, since, ⟨⟨99, 996250⟩, 41, 1⟩⟩

theorem only_input_3 (c : InputChannel) : (withInput3 c).onlyInput 3 := by
  refine ⟨by simp [withInput3, base, State.reset], by decide, rfl, fun j hj => ?_⟩
  have : (withInput3 c).inputConfig j = ((List.replicate 16 InputConfig.disabled).set 3
      ⟨true, false, .protection, 2, 8⟩).getD j InputConfig.disabled := rfl
  rw [this, List.getD_eq_getElem?_getD, List.getElem?_set_ne (Ne.symm hj), List.getElem?_replicate]
  split <;> rfl

theorem witness_sample_qualification :
    (withInput3 settled).onlyInput 3 ∧ (withInput3 settled).tb.elapsed % 250 = 0
      ∧ after (.inputSample 0 []) (withInput3 settled) = withInput3 settled
      ∧ ((after (.inputSample 8 []) (withInput3 settled)).input 3).qual = some ⟨true, 2000000, ⟨⟨100, 250⟩, 41, 1⟩⟩
      ∧ after (.inputSample 8 []) (withInput3 { settled with qual := some (testing true 1996001) })
          = withInput3 { settled with qual := some (testing true 1996001) }
      ∧ after (.inputSample 0 []) (withInput3 { settled with qual := some (testing true 1996000) })
          = withInput3 settled
      ∧ ((after (.inputSample 0 []) (withInput3 { InputChannel.cleared with qual := some (testing true 1996000) })).input
          3).qual = some ⟨false, 2000000, ⟨⟨100, 250⟩, 41, 1⟩⟩
      ∧ after (.inputSample 8 []) (withInput3 { InputChannel.cleared with qual := some (testing true 1996000) })
          = withInput3 { InputChannel.cleared with recorded := some true } := by
  exact ⟨only_input_3 _, by decide +kernel⟩

/-- With q = 0 the first change after START sets the recorded level at its onset sample. -/
theorem test_q_zero_qualifies_at_once :
    (let s := { withInput3 InputChannel.cleared with
       cfg := { testConfig with inputs := testConfig.inputs.set 3 ⟨true, true, .unitTrip, 0, 0⟩ } }
     ((after (.inputSample 0 []) s).input 3) = { InputChannel.cleared with recorded := some true }) := by decide +kernel

/-- With q = 0 a later change is an event at its onset sample: reported, or at the limit CHATTER (R63, R66). -/
theorem witness_q_zero_event :
    (let s := { withInput3 settled with
       cfg := { testConfig with inputs := testConfig.inputs.set 3 ⟨true, false, .protection, 0, 0⟩ } }
     let t := after (.inputSample 8 []) s
     let u := after (.inputSample 8 []) { s with inputs := base.inputs.set 3 { settled with events := 7 } }
     t.log.records.map (·.dating) = [⟨⟨100, 250⟩, 41, 1⟩] ∧ t.log.records.map (·.body)
         = [.input .change 3 true .protection 0 false] ∧ t.shift.current.localTrips = 1
       ∧ t.input 3 = { settled with recorded := some true, events := 1, windowEnd := some 12000000 }
       ∧ (u.input 3).chatter = true ∧ u.log.records.map (·.body) = [.input .chatterStart 3 true .protection 0 false]) := by
  decide +kernel

/-- Two enabled inputs, both changing at one sample with q = 0: each is taken, in the order named (R68, log entry 12). -/
theorem witness_several_inputs :
    (let enabled : InputConfig := ⟨true, false, .protection, 2, 0⟩
     let s := { base with
       inputs := (base.inputs.set 3 settled).set 7 settled
       cfg := { testConfig with inputs := (testConfig.inputs.set 3 enabled).set 7 enabled } }
     let reports := fun (order : List Nat) => (after (.inputSample 136 order) s).log.records.map (·.body)
     reports [] = [.input .change 3 true .protection 2 false, .input .change 7 true .protection 2 false]
       ∧ reports [7] = [.input .change 7 true .protection 2 false, .input .change 3 true .protection 2 false]
       ∧ ((after (.inputSample 136 [7]) s).group 2).members.map (fun m => (m.input, m.logSeq)) = [(3, 1), (7, 0)]
       ∧ (after (.inputSample 136 [7]) s).chA.list.length = 2 ∧ sampleOrder [7, 2] = [7, 2, 0, 1] ++ [3, 4, 5, 6]
         ++ (List.range 8).map (· + 8)) := by decide +kernel

/-- The bytes of a TRIP NOTICE (R36). -/
theorem test_trip_notice_bytes :
    tripNoticeBytes 902 ⟨⟨100, 250⟩, 41, 1⟩ .chatterStart 3 true .unitTrip 2 true
      = [3, 134, 3, 3, 1, 2, 2, 1, 41, 1, 0, 0, 0, 100, 0, 0, 0, 250] := by decide +kernel

/-- `base` with input 3 of a class and group, a change to active having stood 4 ms. -/
def changing (cls : InputClass) (group : Nat) (level : Bool) : State :=
  { withInput3 { settled with qual := some (testing level 1996000), recorded := some !level } with
    cfg := { testConfig with inputs := testConfig.inputs.set 3 ⟨true, false, cls, group, 8⟩ } }

theorem witness_qualified_change :
    (changing .protection 2 true).onlyInput 3
      ∧ ((changing .protection 2 true).input 3).events + 1 < testConfig.chatterLimit
      ∧ (let t := after (.inputSample 8 []) (changing .protection 2 true)
         t.log.records.map (·.body) = [.input .change 3 true .protection 2 false] ∧ t.chA.list.length = 1
           ∧ (t.group 2).members.map (·.logSeq) = [0] ∧ t.shift.current.localTrips = 1
           ∧ (t.input 3).windowEnd = some 12000000 ∧ t.tally.association = none)
      ∧ (let t := after (.inputSample 0 []) (changing .unitTrip 2 false)
         t.log.records.length = 1 ∧ t.chB.list.length = 1 ∧ t.shift.current.localTrips = 0 ∧ (t.group 2).state = .idle
           ∧ t.tally.association = none)
      ∧ (let t := after (.inputSample 8 []) (changing .indication 2 true)
         t.log.records.length = 1 ∧ t.chA.list.length = 0 ∧ t.shift.current.localTrips = 0)
      ∧ (let t := after (.inputSample 8 []) (changing .unitTrip 0 true)
         t.shift.current.localTrips = 1 ∧ t.tally.association = some 1996000 ∧ t.groups = base.groups) := by
  refine ⟨⟨by decide, by decide, by decide, fun j hj => ?_⟩, by decide +kernel⟩
  have : (changing .protection 2 true).inputConfig j = (((List.replicate 16 InputConfig.disabled).set 3
      ⟨true, false, .protection, 2, 8⟩).set 3 ⟨true, false, .protection, 2, 8⟩).getD j InputConfig.disabled := rfl
  rw [this, List.getD_eq_getElem?_getD, List.getElem?_set_ne (Ne.symm hj), List.getElem?_set_ne (Ne.symm hj),
    List.getElem?_replicate]
  split <;> rfl

/-- Input 3 with events counted in a window, and in CHATTER. -/
def counted (events : Nat) : InputChannel :=
  { settled with qual := some (testing true 1996000), events := events, windowEnd := some 2000000 }
def chattering (quietEnd : Nat) : InputChannel := { settled with chatter := true, events := 8, quietEnd := some quietEnd }

theorem witness_chatter :
    (withInput3 (counted 7)).onlyInput 3 ∧ testConfig.chatterLimit ≤ (counted 7).events + 1
      ∧ (let t := after (.inputSample 8 []) (withInput3 (counted 7))
         t.log.records.map (·.body) = [.input .chatterStart 3 true .protection 2 false] ∧ (t.input 3).chatter = true
           ∧ (t.input 3).quietEnd = some 12000000 ∧ (t.group 2).state = .idle ∧ t.chA.list.length = 1)
      ∧ (after (.inputSample 8 []) (withInput3 (counted 6))).log.records.map (·.body)
          = [.input .change 3 true .protection 2 false]
      ∧ (let t := after (.inputSample 8 []) (withInput3 { chattering 9 with qual := some (testing true 1996000) })
         t.log.records = [] ∧ (t.input 3).quietEnd = some 12000000 ∧ (t.input 3).recorded = some true)
      ∧ ((after (.chatterWindowEnd 3) (withInput3 (counted 7))).input 3).events = 0
      ∧ (let t := after (.chatterEnd 3) (withInput3 (chattering 2000000))
         t.log.records.map (·.body) = [.input .chatterEnd 3 false .protection 2 false]
           ∧ t.log.records.map (·.dating.time) = [⟨100, 250⟩] ∧ (t.input 3).chatter = false)
      ∧ after (.chatterEnd 3) (withInput3 (chattering 2000001)) = withInput3 (chattering 2000001) := by
  exact ⟨only_input_3 _, by decide +kernel⟩

/-! ## First-out groups -/

/-- A member of a station dated at 100 s and so many µs. -/
def memberAt (station u : Nat) (q : Quality) : Member := ⟨station, 1, 7, ⟨⟨100, u⟩, 41, q⟩⟩

/-- `base` with group 2 holding members, the first of them for first-out, T0 at 100 s. -/
def grouped (state : GroupState) (members : List Member) (holdEnd : Option Nat) : State :=
  base.setGroup 2 ⟨state, some ⟨100, 0⟩, members, 0, if members.isEmpty then none else some 0, holdEnd⟩

/-- `grouped` at another station time. -/
def groupedAt (u : Nat) (members : List Member) : State :=
  { grouped .opened members none with tb := { base.tb with time := ⟨100, u⟩ } }

/-- With Wg 20 ms and settle 50 ms the close instant is T0 + 70 ms. -/
theorem witness_group_close :
    ((groupedAt 70000 [memberAt 5 0 1]).group 2).members[0]? = some (memberAt 5 0 1)
      ∧ (let t := after (.groupClose 2) (groupedAt 70000 [memberAt 5 0 1])
         (t.group 2).state = .closed ∧ (t.group 2).holdEnd = some 62000000 ∧ t.shift.current.firstOuts = 1
           ∧ t.log.records.map (·.body) = [.groupClose 2 (memberAt 5 0 1) 1 0])
      ∧ (after (.groupClose 2) (groupedAt 70000 [memberAt 6 0 1])).shift.current.firstOuts = 0
      ∧ after (.groupClose 2) (groupedAt 69999 [memberAt 5 0 1]) = groupedAt 69999 [memberAt 5 0 1] := by decide +kernel

theorem witness_group_hold_end :
    (grouped .closed [memberAt 5 0 1] (some 2000000)).groups.length = 7
      ∧ ((grouped .closed [memberAt 5 0 1] (some 2000000)).group 2).state = .closed
      ∧ (after (.groupHoldEnd 2) (grouped .closed [memberAt 5 0 1] (some 2000000))).groups = base.groups
      ∧ after (.groupHoldEnd 2) (grouped .closed [memberAt 5 0 1] (some 2000001))
          = grouped .closed [memberAt 5 0 1] (some 2000001)
      ∧ ((grouped .closed [memberAt 5 0 1] (some 2000000)).handMember 2 (memberAt 6 0 1)).log.records.map (·.body)
          = [.groupStray 2 .afterClose 6 1 7 ⟨100, 0⟩]
      ∧ (base.handMember 2 ⟨6, 1, 7, ⟨⟨99, 0⟩, 41, 1⟩⟩).groups[1]?.map (·.state) = some .closed := by decide +kernel

theorem witness_member_handed :
    (base.group 2).state = .idle ∧ base.groups.length = 7
      ∧ ((base.handMember 2 (memberAt 6 0 1)).group 2).state = .opened
      ∧ (let s := { grouped .opened [memberAt 5 0 1] none with tb := { base.tb with time := ⟨100, 0⟩ } }
         let early := { memberAt 6 0 1 with dating := ⟨⟨99, 979999⟩, 41, 1⟩ }
         let first := { memberAt 6 0 1 with dating := ⟨⟨99, 980000⟩, 41, 1⟩ }
         (s.handMember 2 early).log.records.map (·.body) = [.groupStray 2 .beforeWindow 6 1 7 ⟨99, 979999⟩]
           ∧ ((s.handMember 2 first).group 2).members = [first, memberAt 5 0 1]
           ∧ ((s.handMember 2 (memberAt 6 20000 3)).group 2).firstOut = some 0
           ∧ (s.handMember 2 (memberAt 6 20001 1)).log.records.map (·.body)
               = [.groupStray 2 .afterWindow 6 1 7 ⟨100, 20001⟩])
      ∧ ((grouped .opened [memberAt 5 0 3] none).handMember 2 (memberAt 6 9 1)).groups[1]?.map (·.firstOut)
          = some (some 1)
      ∧ ((grouped .opened (List.replicate 16 (memberAt 5 0 1)) none).handMember 2 (memberAt 6 9 1)).groups[1]?.map
          (fun x => (x.members.length, x.overflow)) = some (16, 1) := by decide +kernel

/-- A step forward past a group's close instant: the group named closes before TIME_STEP is appended (log entry 6). -/
theorem witness_step_closes_groups :
    (let s := groupedAt 250 [memberAt 6 0 1]
     let t := State.step s 1000000 .agree .agreed [2]
     t.log.records.map (·.body) = [.groupClose 2 (memberAt 6 0 1) 1 0, .timeStep 1000000 .agree]
       ∧ t.log.records.map (·.dating.time) = [⟨101, 250⟩, ⟨101, 250⟩]
       ∧ (State.step s 1000 .agree .agreed [2]).log.records.map (·.body) = [.timeStep 1000 .agree]
       ∧ (s.closeDue [2]) = s) := by decide +kernel

/-- A member equal to a listed one in date, station and input goes after it (R98). -/
theorem test_equal_member_goes_after :
    (let equal := { memberAt 5 0 1 with logSeq := 8 }
     ((groupedAt 0 [memberAt 5 0 1, memberAt 6 0 1]).handMember 2 equal).group 2
       = ⟨.opened, some ⟨100, 0⟩, [memberAt 5 0 1, equal, memberAt 6 0 1], 0, some 0, none⟩) := by decide +kernel

theorem witness_member_order :
    ((grouped .opened [memberAt 5 0 1] none).group 2).members.length < 15
      ∧ base.cfg.windowFrom ⟨100, 0⟩ ≤ (memberAt 6 4 1).instant ∧ (memberAt 7 4 1).instant ≤ base.cfg.windowTo ⟨100, 0⟩
      ∧ ((grouped .opened [memberAt 5 0 1] none).handMember 2 (memberAt 7 4 1)).handMember 2 (memberAt 6 4 1)
          = ((grouped .opened [memberAt 5 0 1] none).handMember 2 (memberAt 6 4 1)).handMember 2 (memberAt 7 4 1) := by
  decide +kernel

theorem witness_groups_ranked : base.GroupsRanked := by
  refine ⟨by decide, fun x hx => ?_⟩
  have : x = Group.idle := by simpa [base, State.reset] using hx
  subst this
  simp [Group.Ranked, Group.idle, bestRanked, firstTimed]

/-! ## Unit modes and run tallies -/

/-- `base` with its tally unit changed. -/
def withTally (t : Tally) : State := { base with tally := t }

/-- The latch of a combination since an elapsed count. -/
def latched (comb since : Nat) : StatusTest := ⟨comb, since, ⟨⟨99, 980250⟩, 41, 1⟩, 12, 11⟩

/-- A tally unit with a combination under test. -/
def under (t : Option StatusTest) : Tally := { base.tally with qual := t, qualified := some 0 }

/-- Combination 1 decodes to GENERATING, 2 to INVALID and 3 to SPIN; Q is 20 ms and the dwell 5 s. -/
theorem witness_status_sample :
    after (.statusSample 0) (withTally (under none)) = withTally (under none)
      ∧ (after (.statusSample 1) (withTally (under none))).tally.qual
          = some ⟨1, 2000000, ⟨⟨100, 250⟩, 41, 1⟩, 0, 0⟩
      ∧ after (.statusSample 1) (withTally (under (some (latched 1 1980001)))) = withTally (under (some (latched 1 1980001)))
      ∧ (after (.statusSample 0) (withTally (under (some (latched 1 1980000))))).tally.qual = none
      ∧ (after (.statusSample 3) (withTally (under (some (latched 1 1980000))))).tally.qual.map (·.comb) = some 3
      ∧ (after (.statusSample 1) (withTally (under (some (latched 1 1980000))))).tally.candidate
          = some ⟨.generating, 1980000, ⟨99, 980250⟩, 6980000, 12, 11⟩
      ∧ (after (.statusSample 2) (withTally (under (some (latched 2 1980000))))).log.records.map (·.body)
          = [.invalidCombination 2]
      ∧ (after (.statusSample 2) (withTally { under (some (latched 2 1980000)) with invalidLogged := true })).log.records
          = []
      ∧ (after (.statusSample 0) (withTally { under (some (latched 0 1980000)) with invalidLogged := true })).tally.invalidLogged
          = false := by decide +kernel

/-- With Q = 0 a combination qualifies at its onset sample, whatever is under test (R112). -/
theorem witness_q_zero_combination :
    (let s := { withTally (under none) with cfg := { testConfig with qualMs := 0 } }
     let formed := some (Candidate.mk .generating 2000000 ⟨100, 250⟩ 7000000 0 0)
     (after (.statusSample 1) s).tally.candidate = formed ∧ (after (.statusSample 1) s).tally.qualified = some 1
       ∧ (after (.statusSample 1) { s with tally := under (some (latched 3 1990000)) }).tally.candidate = formed
       ∧ after (.statusSample 0) s = s) := by decide +kernel

theorem test_dwell_zero_accepts_at_formation :
    (let s := { withTally (under (some (latched 1 1980000))) with cfg := { testConfig with dwell := 0 } }
     (after (.statusSample 1) s).tally.accepted = .generating ∧ (after (.statusSample 1) s).tally.candidate = none) := by
  decide +kernel

/-- A generating unit, 500 ms in its shift, with a STANDSTILL candidate of 300 ms, 200 of them in the open shift. -/
def stopping (dwellEnd : Nat) (association : Option Nat) : State :=
  withTally { base.tally with
    accepted := .generating
    candidate := some ⟨.standstill, 1700000, ⟨99, 700250⟩, dwellEnd, 300, 200⟩
    lifetime := [1000, 0, 9000, 0, 0, 0, 0]
    service := 9000
    association := association }

theorem witness_dwell_end :
    (stopping 2000000 none).tally.candidate.map (·.mode) ≠ some (stopping 2000000 none).tally.accepted
      ∧ (let t := after .dwellEnd (stopping 2000000 (some 1700000))
         t.tally.lifetime = [1300, 0, 8700, 0, 0, 0, 0] ∧ t.shift.current.durations = [600, 0, 300, 0, 0, 0, 0]
           ∧ t.tally.service = 8700 ∧ t.tally.tripStops = 1 ∧ t.tally.normalStops = 0 ∧ t.shift.current.tripStops = 1
           ∧ t.tally.entries = [1, 0, 0, 0, 0, 0, 0] ∧ t.tally.accepted = .standstill ∧ t.tally.candidate = none
           ∧ t.log.records.map (·.body) = [.modeChange .generating .standstill ⟨99, 700250⟩ true]
           ∧ t.store.image.state = .filled)
      ∧ (after .dwellEnd (stopping 2000000 (some 1700001))).tally.normalStops = 1
      ∧ after .dwellEnd (stopping 2000001 none) = stopping 2000001 none := by decide +kernel

/-- An association of 0 lies exactly one window, 10 s, before the candidate's onset, and that is still a trip stop. -/
theorem test_trip_stop_at_the_window_edge :
    isTripStop 10 10000000 (some 0) = true ∧ isTripStop 10 10000001 (some 0) = false
      ∧ isTripStop 0 5 (some 5) = true := by decide

theorem witness_tick :
    (stopping 9000000 none).tb.elapsed % 1000 = 0
      ∧ (let t := after .elapsedMillisecondTick (stopping 9000000 none)
         t.tally.lifetime = [1000, 0, 9001, 0, 0, 0, 0] ∧ t.tally.service = 9001 ∧ t.shift.current.powered = 901
           ∧ t.shift.current.durations = [400, 0, 501, 0, 0, 0, 0]
           ∧ t.tally.candidate.map (fun c => (c.d, c.ds)) = some (301, 201))
      ∧ (after .elapsedMillisecondTick base).tally.lifetime = [1, 0, 0, 0, 0, 0, 0]
      ∧ (let s := { stopping 9000000 none with
           shift := { base.shift with current := { base.shift.current with powered := 4294967295 } } }
         let t := after .elapsedMillisecondTick s
         t.shift.current = s.shift.current ∧ t.tally.candidate.map (fun c => (c.d, c.ds)) = some (301, 200))
      ∧ (let s := { stopping 9000000 none with
           cfg := { testConfig with serviceLimit := 1 }
           tally := { (stopping 9000000 none).tally with service := 3599999 } }
         (after .elapsedMillisecondTick s).log.records.map (·.body) = [.serviceDue 3600000]) := by decide +kernel

/-- The elapsed count 0, and one between two milliseconds, is no tick (R1). -/
theorem witness_no_tick :
    (let s := fun (n : Nat) => { base with tb := { base.tb with elapsed := n } }
     after .elapsedMillisecondTick (s 0) = s 0 ∧ after .elapsedMillisecondTick (s 999) = s 999
       ∧ (after .elapsedMillisecondTick (s 1000)).tally.lifetime = [1, 0, 0, 0, 0, 0, 0]) := by decide +kernel

theorem witness_unsaturated : (stopping 2000000 none).Unsaturated ∧ setsTallies .dwellEnd = false := by
  refine ⟨⟨by decide, by decide, ?_, ?_⟩, rfl⟩
  · intro t h
    simp [stopping, withTally, base, State.reset, Tally.blank] at h
  · intro c h
    obtain rfl : _ = c := by simpa [stopping, withTally] using h
    decide

theorem witness_shift_balanced : base.ShiftBalanced := by
  refine ⟨by simp only [ShiftRecord.Balanced]; decide, ?_, ?_⟩
  · simp [State.CountsCredited, base, State.reset, Tally.blank]
  · intro c h
    have none : base.store.checkpoints = [] := by decide +kernel
    simp [none] at h

/-- A lifetime set locked down. -/
def lockedDown : State :=
  { asking 12 [0, 0] with lockLife := true, tally := { base.tally with protectLife := true } }

theorem witness_locked_stays_protected :
    lockedDown.LockedProtected ∧ answerOf (after .protectTally lockedDown) = [12, 77, 4]
      ∧ (after .protectTally lockedDown).tally.protectLife = true ∧ (after .resetLine lockedDown).lockLife = true
      ∧ (after .powerOn lockedDown).lockLife = false := by
  simp only [State.LockedProtected]; decide +kernel

/-! ## Shift handover -/

theorem witness_shift_schedule :
    testConfig.shiftsPerDay ∈ [1, 2, 3, 4, 6, 8] ∧ testConfig.firstBoundary < 86400 / testConfig.shiftsPerDay
      ∧ testConfig.lead ≤ 86400 / testConfig.shiftsPerDay / 2 ∧ testConfig.grace ≤ 86400 / testConfig.shiftsPerDay / 2
      ∧ testConfig.shiftNumber 21599 = 0 ∧ testConfig.shiftNumber 21600 = 1 ∧ testConfig.windowOpen 0 = 20700
      ∧ { testConfig with firstBoundary := 0 }.windowOpen 0 = 0 := by decide +kernel

/-- `base` in shift 0 at a whole second; its window opens at 20,700 s and its force close falls at 23,400 s. -/
def shiftAt (sec : Nat) (state : HandoverState) : State :=
  { base with tb := { base.tb with time := ⟨sec, 0⟩ }, shift := { base.shift with state := state } }

theorem witness_schedule_evaluated :
    (shiftAt 23400 .window).shift.deferred = false ∧ (shiftAt 23400 .window).shift.current.number = some 0
      ∧ (shiftAt 23400 .window).evaluate.shift.current.openCause = .forced
      ∧ (shiftAt 20699 .running).evaluate = shiftAt 20699 .running
      ∧ (shiftAt 20700 .running).evaluate = shiftAt 20700 .window
      ∧ (shiftAt 23399 .window).evaluate = shiftAt 23399 .window
      ∧ (let t := (shiftAt 23400 .window).evaluate
         t.shift.current.number = some 1 ∧ t.shift.current.openedAt.time = ⟨23400, 0⟩ ∧ t.shift.state = .running
           ∧ t.log.records.map (·.body) = [.shiftClose (some 0) .forced])
      ∧ (let t := (shiftAt 107200 .window).evaluate
         t.shift.current.number = some 3 ∧ t.log.records.length = 1 ∧ t.shift.state = .window) := by
  decide +kernel

/-- `shiftAt` in FREE and deferred, with the shift recovered from a checkpoint. -/
def deferredAt (sec : Nat) (number : Option Nat) (recovered : Option StationTime) : State :=
  { shiftAt sec .running with
    agr := Agreement.free 0
    shift := ⟨{ base.shift.current with number := number }, .running, true, recovered⟩ }

/-- The four cases of the first evaluation (R151), n(S) being 1 from 21,600 s and C(0) 23,400 s, and what quality and steps leave
(R148, R149). -/
theorem witness_first_evaluation :
    (let fresh := (deferredAt 21600 none none).enterState .joining
     let unnamed := (deferredAt 21600 none (some ⟨9, 0⟩)).enterState .anchored
     let kept := (deferredAt 23399 (some 0) (some ⟨9, 0⟩)).enterState .joining
     let ahead := (deferredAt 30 (some 5) (some ⟨9, 0⟩)).enterState .joining
     let gap := (deferredAt 23400 (some 0) (some ⟨12, 0⟩)).enterState .joining
     fresh.shift.current.number = some 1 ∧ fresh.shift.current.powerGaps = 0 ∧ fresh.shift.deferred = false
       ∧ unnamed.shift.current.number = some 1 ∧ unnamed.shift.current.powerGaps = 1
       ∧ kept.shift.current.number = some 0 ∧ kept.shift.current.powerGaps = 1 ∧ kept.shift.state = .window
       ∧ kept.log.records = [] ∧ ahead.shift.current.number = some 5 ∧ ahead.shift.state = .running
       ∧ gap.shift.current.number = some 1 ∧ gap.shift.current.openCause = .powerUp ∧ gap.shift.current.openedAt.time = ⟨23400, 0⟩
       ∧ gap.log.records.map (·.body) = [.shiftClose (some 0) .powerGap] ∧ gap.shift.current.powerGaps = 0
       ∧ gap.store.queue.map (fun e => match e.kind with
           | .shift c => (c.closedAt, c.shift.noSignOff)
           | _ => (⟨0, 0⟩, false)) = [(⟨0, 0⟩, false), (⟨12, 0⟩, true), (⟨0, 0⟩, false)])
      ∧ (let r := (base.countStep (-5)).shift.current
         r.timeSteps = 1 ∧ r.netStep = -5)
      ∧ (let s := { base with shift := { base.shift with current := { base.shift.current with worst := 1, uncertain := false } } }
         (s.enterState .holdover).shift.current.worst = 2 ∧ (s.enterState .holdover).shift.current.uncertain = false
           ∧ (s.enterState .joining).shift.current.uncertain = true ∧ (s.enterState .agreed).shift = s.shift) := by
  decide +kernel

/-- A shift without a number has no schedule (R137), and a shift as it is opened (R136). -/
theorem witness_unnumbered_and_opened :
    (let s := { shiftAt 90000 .running with
       shift := { base.shift with current := { base.shift.current with number := none } } }
     let r := ShiftRecord.opening (some 4) ⟨⟨9, 1⟩, 41, 3⟩ .takeover (some (12, ⟨8, 0⟩))
     s.evaluate = s ∧ r.number = some 4 ∧ r.crew = some (12, ⟨8, 0⟩) ∧ r.worst = 3 ∧ r.uncertain = true
       ∧ r.durations = List.replicate 7 0 ∧ r.entries = List.replicate 7 0 ∧ r.powerGaps = 0 ∧ r.netStep = 0
       ∧ (ShiftRecord.opening none ⟨⟨9, 1⟩, 41, 2⟩ .forced none).uncertain = false) := by decide +kernel

/-- A notice naming shift 0. -/
def notice (action number : Nat) (time : StationTime) (signOff : Option StationTime) : HandoverNotice :=
  ⟨action, number, 12, time, signOff⟩

theorem witness_handover :
    ((shiftAt 21000 .window).takeHandover (notice 1 0 ⟨20600, 0⟩ none)).shift.current.signOff = some ⟨20600, 0⟩
      ∧ ((shiftAt 21000 .running).takeHandover (notice 1 0 ⟨20600, 0⟩ none)).shift.current.strays = 1
      ∧ (shiftAt 21000 .signedOff).takeHandover (notice 1 0 ⟨20600, 0⟩ none) = shiftAt 21000 .signedOff
      ∧ ((shiftAt 21000 .window).takeHandover (notice 1 1 ⟨20600, 0⟩ none)).shift.current.strays = 1
      ∧ ((shiftAt 21000 .window).takeHandover (notice 3 0 ⟨20600, 0⟩ none)).shift.current.strays = 1
      ∧ ((shiftAt 21000 .window).takeHandover (notice 1 0 ⟨20600, 1000000⟩ none)).shift.current.strays = 1
      ∧ (let t := (shiftAt 21000 .window).takeHandover (notice 2 0 ⟨20600, 0⟩ none)
         t.shift.current.number = some 1 ∧ t.shift.current.openedAt.time = ⟨20700, 0⟩
           ∧ t.shift.current.crew = some (12, ⟨20600, 0⟩))
      ∧ ((shiftAt 21000 .signedOff).takeHandover (notice 2 0 ⟨22000, 0⟩ none)).shift.current.openedAt.time = ⟨21000, 0⟩
      ∧ (let s := { shiftAt 23500 .running with shift := { base.shift with
           current := ShiftRecord.opening (some 1) ⟨⟨23400, 0⟩, 41, 1⟩ .forced none } }
         (s.takeHandover (notice 2 0 ⟨23450, 0⟩ none)).shift.current.lateTakeover = true
           ∧ ((s.takeHandover (notice 2 0 ⟨23450, 0⟩ none)).takeHandover (notice 2 0 ⟨23450, 0⟩ none)).shift.current.strays
             = 1) := by decide +kernel

theorem witness_shift_numbers_rise :
    (shiftAt 21000 .window).tb.time.u < 1000000
      ∧ (let s := { shiftAt 21000 .window with console := true }
         let c := Instr.consoleHandoverNotice ([2, 0, 0, 0, 0, 0, 12] ++ beBytes 4 20800 ++ beBytes 4 0)
         (after c s).phase = .running ∧ (after c s).shift.current.number = some 1) := by decide +kernel

/-! ## The trip log and the record store -/

/-- `base` with its store. -/
def withStore (st : Store) : State := { base with store := st }

/-- A record of log sequence `n`. -/
def recordAt (n : Nat) : Record := ⟨n, ⟨⟨100, 250⟩, 41, 1⟩, .protect .service .on⟩

/-- A write queue entry that is neither busy nor failed. -/
def entryOf (k : EntryKind) : Entry := ⟨k, false, false, false⟩

/-- A full log: sequences 65,280 to 65,535, the next 0. -/
def fullLog : TripLog := ⟨(List.range 256).map fun i => recordAt (65280 + i), 255, 0⟩

theorem witness_record_appended :
    (let t := base.append ⟨⟨100, 250⟩, 41, 1⟩ (.protect .service .on)
     t.log = ⟨[recordAt 0], 0, 1⟩ ∧ t.store.queue = [entryOf (.archive (recordAt 0))] ∧ t.flags = base.flags)
      ∧ (let t := State.append { base with log := fullLog } ⟨⟨100, 250⟩, 41, 1⟩ (.protect .service .on)
         t.log.records.length = 256 ∧ t.log.get = 0 ∧ t.log.next = 1 ∧ t.flags.logOverrun = true
           ∧ t.log.records.getLast? = some (recordAt 0) ∧ t.log.records.head? = some (recordAt 65281))
      ∧ (let s := withStore { testStore with queue := List.replicate 16 (entryOf .checkpoint) }
         (s.append ⟨⟨100, 250⟩, 41, 1⟩ (.protect .service .on)).flags.archiveLoss = true)
      ∧ (let s := withStore { testStore with trips := { testStore.trips with stopped := true } }
         (s.append ⟨⟨100, 250⟩, 41, 1⟩ (.protect .service .on)).store = s.store)
      ∧ (let s := withStore { testStore with leftOut := [8, 9, 10, 11, 12, 13, 14] }
         (s.store.usablePages .trips).length = 1
           ∧ (s.append ⟨⟨100, 250⟩, 41, 1⟩ (.protect .service .on)).flags.archiveLoss = true) := by decide +kernel

/-- A step at a full log: the oldest records give way to what it appends. -/
theorem test_step_at_a_full_log :
    (let t := State.step { base with log := fullLog } (-1000) .agree .agreed []
     t.log.records.length = 256 ∧ t.log.records.getLast?.map (·.body) = some (.timeStep (-1000) .agree)
       ∧ t.log.next = 1 ∧ t.flags.logOverrun = true) := by decide +kernel

theorem witness_log_consecutive : base.log.Consecutive ∧ State.reset.log.Consecutive := by
  refine ⟨⟨by decide, by decide, fun i r h => ?_⟩, ⟨by decide, by decide, fun i r h => ?_⟩⟩ <;>
    simp [base, State.reset, TripLog.empty] at h

theorem witness_bounded : base.Bounded ∧ State.reset.Bounded := by simp only [State.Bounded]; decide +kernel

/-- `base` with its staging image and write queue. -/
def staged (image : Image) (queue : List Entry) : State := withStore { testStore with image := image, queue := queue }

/-- A FILLED image that no power-fail entry refers to. -/
def filledImage : Image := ⟨.filled, some base.snapshot, false, false, false⟩

theorem witness_checkpoint_requested :
    (let t := (staged Image.empty []).requestCheckpoint false
     t.store.image = filledImage ∧ t.store.queue = [entryOf .checkpoint]
       ∧ t.store.timer = some (2000000 + testConfig.checkpointEvery * 1000000))
      ∧ ((staged Image.empty []).requestCheckpoint true).store.queue = [entryOf .powerFail]
      ∧ (let full := staged Image.empty (List.replicate 16 (entryOf (.archive (recordAt 0))))
         (full.requestCheckpoint false).store.image = filledImage
           ∧ (full.requestCheckpoint false).store.queue = full.store.queue)
      ∧ (let s := staged filledImage [entryOf .checkpoint]
         (s.requestCheckpoint false).store.queue = s.store.queue
           ∧ (s.requestCheckpoint true).store.queue = [entryOf .powerFail])
      ∧ (let s := staged { filledImage with state := .writing } [⟨.checkpoint, true, false, false⟩]
         (s.requestCheckpoint false).store.image = { filledImage with state := .writing, pending := true })
      ∧ (let s := withStore { testStore with journal := { testStore.journal with stopped := true } }
         s.requestCheckpoint true = withStore { s.store with dropped := 1 }) := by decide +kernel

/-- What a checkpoint holds (R162). -/
theorem test_checkpoint_holds_live_state :
    (let s := { base with
       tally := { base.tally with accepted := .pumping, service := 77, protectLife := true }
       log := ⟨[], 0, 513⟩ }
     let c := s.snapshot
     c.time = ⟨100, 250⟩ ∧ c.quality = 1 ∧ c.f = 7 ∧ c.accepted = .pumping ∧ c.service = 77 ∧ c.protectLife = true
       ∧ c.nextLog = 513 ∧ c.shift = base.shift.current ∧ c.lifetime = List.replicate 7 0) := by decide +kernel

/-- A closed shift record. -/
def closedShift : ClosedShift := ⟨base.shift.current, ⟨100, 0⟩, 41, .forced⟩

/-- `base` with a full write queue: 13 archive records, then three entries, and its staging image. -/
def fullQueue (image : Image) (last : List Entry) : State :=
  staged image (List.replicate 13 (entryOf (.archive (recordAt 0))) ++ last)

/-- The full write queue (R161): a power-fail checkpoint removes the newest shift record, not one in programming, or else the
newest archive record; a shift record removes a queued checkpoint entry, whose image then waits and joins at the first place. -/
theorem witness_full_write_queue :
    (let archive := entryOf (.archive (recordAt 1))
     let shift := entryOf (.shift closedShift)
     let busy : Entry := { shift with busy := true }
     let kept := List.replicate 13 (entryOf (.archive (recordAt 0)))
     let s := fullQueue Image.empty [shift, archive, busy]
     let t := fullQueue Image.empty [archive, archive, busy]
     let u := fullQueue filledImage [entryOf .checkpoint, archive, shift]
     let v := fullQueue { filledImage with state := .writing } [⟨.checkpoint, true, false, false⟩, archive, shift]
     let w := { u with store := { u.store with queue := (kept ++ [archive, archive, shift]) } }
     (s.requestCheckpoint true).store.queue = kept ++ [archive, busy, entryOf .powerFail]
       ∧ (s.requestCheckpoint true).flags.archiveLoss = true
       ∧ (t.requestCheckpoint true).store.queue = kept ++ [archive, busy, entryOf .powerFail]
       ∧ (w.requestCheckpoint true).store.queue = kept ++ [archive, archive, entryOf .powerFail]
       ∧ (w.requestCheckpoint false).store.queue = w.store.queue
       ∧ (u.queueShift closedShift).store.queue = kept ++ [archive, shift, shift]
       ∧ (u.queueShift closedShift).store.image = filledImage ∧ (u.queueShift closedShift).flags.archiveLoss = false
       ∧ (v.queueShift closedShift).store = v.store ∧ (v.queueShift closedShift).flags.archiveLoss = true
       ∧ w.placeImage = w ∧ (staged filledImage kept).placeImage.store.queue = kept ++ [entryOf .checkpoint]
       ∧ (staged { filledImage with powerFail := true } []).placeImage.store.queue = [entryOf .powerFail]
       ∧ (staged Image.empty [] : State).placeImage = staged Image.empty []) := by decide +kernel

theorem witness_checkpoint_interval :
    (let s := withStore { testStore with timer := some 2000000 }
     (after .checkpointIntervalExpiry s).store.image.state = .filled
       ∧ (after .checkpointIntervalExpiry s).store.timer = some (2000000 + testConfig.checkpointEvery * 1000000))
      ∧ (let s := withStore { testStore with timer := some 2000001 }
         after .checkpointIntervalExpiry s = s)
      ∧ (let s := withStore { testStore with
            timer := some 2000000
            image := { filledImage with state := .writing }
            queue := [⟨.checkpoint, true, false, false⟩] }
         (after .checkpointIntervalExpiry s).store.image.pending = true
           ∧ (after .checkpointIntervalExpiry s).store.timer
             = some (2000000 + testConfig.checkpointEvery * 1000000)) := by decide +kernel

/-- A trip archive entry waiting behind a checkpoint. -/
def waitingRecords : State := staged filledImage [entryOf .checkpoint, entryOf (.archive (recordAt 7))]

/-- The archive record begun first (R160: priority 2 before 4), at the first slot of page 8. -/
theorem witness_write_begun :
    waitingRecords.store.appendPoint .trips = some (8, 0) ∧ waitingRecords.store.programming = none
      ∧ (let t := after .storeWriteBegin waitingRecords
         t.store.programming = some ⟨.trips, 8, 0, 0⟩ ∧ t.store.trips.nextSeq = 1
           ∧ t.store.queue = [entryOf .checkpoint, ⟨.archive (recordAt 7), true, false, false⟩]
           ∧ t.store.image.state = .filled ∧ after .storeWriteBegin t = t)
      ∧ (let s := staged filledImage [⟨.checkpoint, false, true, true⟩, entryOf (.archive (recordAt 7))]
         (after .storeWriteBegin s).store.programming = some ⟨.journal, 0, 0, 0⟩
           ∧ (after .storeWriteBegin s).store.image.state = .writing)
      ∧ (let s := staged filledImage [entryOf .checkpoint, entryOf .powerFail]
         (after .storeWriteBegin s).store.queue = [entryOf .checkpoint, ⟨.powerFail, true, false, false⟩])
      ∧ (let s := waitingRecords
         let t := { s with store := { s.store with erase := some ⟨15, true, 0, 0⟩ } }
         after .storeWriteBegin t = t) := by decide +kernel

/-- The record of `waitingRecords` in programming at a slot of page 8. -/
def programming (slot : Nat) (failed : Bool) : State :=
  withStore { testStore with
    trips := ⟨some 8, slot, some 9, 5, false⟩
    queue := [entryOf .checkpoint, ⟨.archive (recordAt 7), true, failed, false⟩]
    image := filledImage
    programming := some ⟨.trips, 8, slot, 4⟩ }

/-- The image's write, with or without the pending mark. -/
def imageWriting (pending : Bool) : State :=
  withStore { testStore with
    queue := [⟨.checkpoint, true, false, false⟩]
    image := { filledImage with state := .writing, pending := pending, pendingFail := true }
    programming := some ⟨.journal, 0, 0, 4⟩ }

theorem witness_record_written :
    (let t := after (.storeWriteEnd true) (programming 3 false)
     (t.store.page 8).slots[3]? = some (.valid 4 (.archive (recordAt 7))) ∧ t.store.queue = [entryOf .checkpoint]
       ∧ t.store.appendPoint .trips = some (8, 4) ∧ t.store.programming = none)
      ∧ (after (.storeWriteEnd true) (programming 63 false)).store.appendPoint .trips = some (9, 0)
      ∧ (after (.storeWriteEnd true) (programming 63 false)).store.trips.ready = some 10
      ∧ (let t := after (.storeWriteEnd true) (imageWriting false)
         t.store.image = Image.empty ∧ t.store.queue = []
           ∧ (t.store.page 0).slots[0]? = some (.valid 4 (.checkpoint base.snapshot)))
      ∧ (let t := after (.storeWriteEnd true) (imageWriting true)
         t.store.image.state = .filled ∧ t.store.image.powerFail = true ∧ t.store.queue = [entryOf .powerFail]) := by
  decide +kernel

theorem test_append_point_at_the_last_slot :
    (let st := { testStore with journal := ⟨some 0, 15, none, 0, false⟩, leftOut := [2, 3], eraseList := [1] }
     (st.moveAppendPoint .journal).appendPoint .journal = none)
      ∧ ({ testStore with journal := ⟨some 0, 14, none, 0, false⟩ }.moveAppendPoint .journal).appendPoint .journal
        = some (0, 15) := by decide +kernel

theorem witness_record_failed :
    (let t := after (.storeWriteEnd false) (programming 3 false)
     t.store.queue = [entryOf .checkpoint, ⟨.archive (recordAt 7), false, true, true⟩]
       ∧ (t.store.page 8).slots[3]? = some .incomplete ∧ t.store.appendPoint .trips = some (8, 4)
       ∧ t.flags.programFault = false)
      ∧ (let t := after (.storeWriteEnd false) (programming 3 true)
         t.store.queue = [entryOf .checkpoint] ∧ t.store.trips.stopped = true ∧ t.flags.programFault = true
           ∧ t.flags.archiveLoss = true ∧ t.log.records.map (·.body) = [.storeFault .trips .program 8])
      ∧ (let t := (staged filledImage [entryOf .checkpoint]).stopWrites .journal
         t.store.queue = [] ∧ t.store.image = Image.empty ∧ t.store.dropped = 1) := by decide +kernel

/-- A region that stops drops its own entries and no other, with what each leaves (R168, log entry 36). -/
theorem witness_writes_stopped :
    (let archive := entryOf (.archive (recordAt 7))
     let shift := entryOf (.shift closedShift)
     let s := staged filledImage [archive, entryOf .checkpoint, shift, archive]
     let waiting := staged filledImage [archive, shift]
     (s.stopWrites .trips).store.queue = [entryOf .checkpoint, shift] ∧ (s.stopWrites .trips).flags.archiveLoss = true
       ∧ (s.stopWrites .trips).store.image = filledImage ∧ (s.stopWrites .trips).store.dropped = 0
       ∧ (s.stopWrites .journal).store.queue = [archive, shift, archive] ∧ (s.stopWrites .journal).flags = s.flags
       ∧ (s.stopWrites .journal).store.dropped = 1 ∧ (s.stopWrites .journal).store.image = Image.empty
       ∧ (waiting.stopWrites .journal).store.queue = [archive, shift] ∧ (waiting.stopWrites .journal).store.dropped = 1
       ∧ (waiting.stopWrites .shifts).store.queue = [archive, entryOf .checkpoint]
       ∧ (staged Image.empty [archive]).stopWrites .journal = staged Image.empty [archive]) := by decide +kernel

/-- An erase of page 15 begun 30 ms, and last resumed so many µs, ago. -/
def erasing (running : Bool) (ran since : Nat) (queue : List Entry) : State :=
  withStore { testStore with erase := some ⟨15, running, ran, since⟩, queue := queue }

theorem witness_erase_begun :
    (let s := withStore { testStore with eraseList := [15, 3] }
     (after .eraseBegin s).store.erase = some ⟨15, true, 0, 2000000⟩ ∧ (after .eraseBegin s).store.eraseList = [3]
       ∧ ((after .eraseBegin s).store.page 15).disturbed = true)
      ∧ (let s := { withStore { testStore with eraseList := [15] } with supply := ⟨.warning, 0, 0, none⟩ }
         after .eraseBegin s = s) := by decide +kernel

theorem witness_erase_suspended_and_resumed :
    (let waiting := [entryOf (.archive (recordAt 7))]
     (after .eraseSuspend (erasing true 30000 1990000 waiting)).store.erase = some ⟨15, false, 40000, 1990000⟩
       ∧ after .eraseSuspend (erasing true 30000 1990001 waiting) = erasing true 30000 1990001 waiting
       ∧ after .eraseSuspend (erasing true 30000 1990000 []) = erasing true 30000 1990000 []
       ∧ after .eraseResume (erasing false 30000 1980000 waiting) = erasing false 30000 1980000 waiting)
      ∧ after .eraseResume (erasing false 30000 1980000 []) = erasing true 30000 2000000 [] := by decide +kernel

theorem witness_erase_ended :
    (after .eraseComplete (erasing true 39999 2000000 [])).store = (erasing true 39999 2000000 []).store
      ∧ (let t := after .eraseComplete (erasing true 30000 1990000 [])
         t.store.erase = none ∧ (t.store.page 15).isBlank = true ∧ t.store.appendPoint .trips = some (8, 0))
      ∧ (let s := withStore { testStore with erase := some ⟨1, true, 0, 1880000⟩, journal := ⟨some 0, 16, none, 0, false⟩ }
         s.store.appendPoint .journal = none
           ∧ (after .eraseComplete s).store.appendPoint .journal = some (1, 0))
      ∧ (let s := withStore { testStore with erase := some ⟨1, true, 0, 1900000⟩, journal := ⟨some 0, 3, none, 0, false⟩ }
         (after .eraseComplete s).store.journal.ready = some 1)
      ∧ after .eraseFail (erasing true 0 1880001 []) = erasing true 0 1880001 []
      ∧ (let t := after .eraseFail (erasing true 0 1880000 [])
         t.store.leftOut = [15] ∧ t.flags.eraseFault = true ∧ t.log.records.map (·.body) = [.storeFault .trips .erase 15]
           ∧ t.store.trips.stopped = false)
      ∧ (let s := withStore { testStore with erase := some ⟨1, true, 0, 0⟩, leftOut := [2, 3] }
         (s.store.usablePages .journal).length = 2
           ∧ ((after .eraseFail s).store.usablePages .journal).length = 1) := by decide +kernel

/-- The further page change of an erase that gives the region its append point (R157, R167): the first blank page after it
becomes ready, or the oldest used one is queued; a ready page is kept. -/
theorem witness_erase_leaves :
    (let active : RegionState := ⟨some 0, 16, none, 0, false⟩
     let s := withStore { testStore with erase := some ⟨1, true, 0, 1900000⟩, journal := active }
     let used := withStore { ((s.store.setSlot 2 0 .torn).setSlot 3 0 .torn).setSlot 0 0 .torn with eraseList := [2] }
     let kept := withStore { s.store with journal := ⟨some 0, 3, some 2, 0, false⟩ }
     (after .eraseComplete s).store = { s.store with erase := none, journal := ⟨some 1, 0, some 2, 0, false⟩ }
       ∧ (after .eraseComplete used).store.eraseList = [2, 3]
       ∧ (after .eraseComplete used).store.journal = ⟨some 1, 0, none, 0, false⟩
       ∧ (after .eraseComplete kept).store = { kept.store with erase := none }
       ∧ (used.store.queueOldest .journal).eraseList = [2, 3]
       ∧ (Store.queueOldest { used.store with leftOut := [3] } .journal).eraseList = [2]) := by decide +kernel

/-- `base` with two programmed trip archive records and one shift record still in the queue. -/
def stored : State :=
  withStore { (testStore.setSlot 8 0 (.valid 0 (.archive (recordAt 6)))).setSlot 8 1
      (.valid 1 (.archive (recordAt 7))) with
    queue := [entryOf (.shift ⟨base.shift.current, ⟨100, 0⟩, 41, .forced⟩)] }

/-- `stored` with a waiting read. -/
def reading (code : Nat) (params : List Byte) : State :=
  { stored with req := { stored.req with service := some (.storeRead (asked code params)) } }

theorem witness_store_reads :
    Serves (asking 5 [0, 0, 1]) (asked 5 [0, 0, 1]) 5 ∧ Serves (asking 10 [1, 0]) (asked 10 [1, 0]) 10
      ∧ (after .readArchive (asking 5 [0, 0, 1])).req.service = some (.storeRead (asked 5 [0, 0, 1]))
      ∧ (after .readShift (asking 10 [1, 0])).req.service = some (.storeRead (asked 10 [1, 0]))
      ∧ (answerOf (after .readShift (asking 10 [0, 2]))).length = 3 + 32
      ∧ answerOf (after .readArchive { asking 5 [0, 0, 1] with supply := ⟨.hold, 0, 0, some 3⟩ }) = [5, 77, 7]
      ∧ (answerOf (after .storeRead (reading 5 [0, 0, 2]))).take 6 = [5, 77, 0, 2, 0, 6]
      ∧ (answerOf (after .storeRead (reading 5 [0, 1, 2]))).take 6 = [5, 77, 0, 1, 0, 6]
      ∧ answerOf (after .storeRead (reading 5 [0, 2, 1])) = [5, 77, 1]
      ∧ answerOf (after .storeRead (reading 10 [1, 5])) = [10, 77, 0, 255, 255, 255, 255, 0]
      ∧ answerOf (after .storeRead (reading 10 [2, 5])) = [10, 77, 1]
      ∧ (let s := { reading 5 [0, 0, 1] with supply := ⟨.warning, 0, 0, none⟩ }
         after .storeRead s = s) := by
  exact ⟨⟨serves_asked _ _, by decide +kernel⟩, ⟨serves_asked _ _, by decide +kernel⟩, by decide +kernel⟩

/-- What READ ARCHIVE and READ SHIFT count: downward by store sequence over the pages, but for one under erase; the queued shift
records first, newest first (R174). -/
theorem witness_counted_down :
    (let st := (testStore.setSlot 9 0 (.valid 8 (.archive (recordAt 8)))).setSlot 8 0 (.valid 9 (.archive (recordAt 9)))
     let later := { closedShift with closedG := 42 }
     let sh := { (testStore.setSlot 4 0 (.valid 3 (.shift closedShift))).setSlot 4 1 .torn with
       queue := [entryOf (.shift closedShift), entryOf .checkpoint, entryOf (.shift later)] }
     (st.setSlot 8 1 (.valid 7 (.archive (recordAt 7)))).archiveDown.map (·.seq) = [9, 8, 7]
       ∧ (Store.archiveDown { st with erase := some ⟨9, false, 0, 0⟩ }).map (·.seq) = [9]
       ∧ (Store.archiveDown { st with eraseList := [9] }).map (·.seq) = [9, 8]
       ∧ sh.shiftsDown = [(later, none), (closedShift, none), (closedShift, some 3)]) := by decide +kernel

/-- An erase begun, abandoned at a warning and put back on the list at the dip's end (R165, R170, R171): the records of the
page are gone from its beginning on, while a page that is only on the list is still read. -/
theorem witness_abandoned_page_stays_unread :
    (let st := (testStore.setSlot 9 0 (.valid 8 (.archive (recordAt 8)))).setSlot 8 0 (.valid 9 (.archive (recordAt 9)))
     let s := withStore { st with eraseList := [9] }
     let begun := after .eraseBegin s
     let risen := after (.supplyRise 4451) (after (.supplyWarning 4000) begun)
     let dipped := after .powerDip { risen with tb := { risen.tb with elapsed := 2050000 } }
     s.store.archiveDown.map (·.seq) = [9, 8] ∧ begun.store.archiveDown.map (·.seq) = [9]
       ∧ risen.store.abandoned = some 9 ∧ risen.store.archiveDown.map (·.seq) = [9]
       ∧ dipped.store.abandoned = none ∧ dipped.store.eraseList = [9] ∧ dipped.supply.state = .normal
       ∧ dipped.store.archiveDown.map (·.seq) = [9]) := by decide +kernel

/-- The first, second and last part of a shift record (R36). -/
theorem test_shift_part_bytes :
    shiftPartBytes base.shift.current none none 0
        = [0, 0, 0, 0, 1, 3, 0, 0, 0, 10, 0, 0, 0, 0, 0, 3, 0] ++ List.replicate 9 255
      ∧ shiftPartBytes { base.shift.current with crew := some (12, ⟨8, 1⟩), lateTakeover := true } none none 1
        = [0, 12, 0, 0, 0, 8, 0, 0, 0, 1, 5] ++ List.replicate 10 255 ++ [0, 0]
      ∧ shiftPartBytes base.shift.current (some (⟨9, 0⟩, 41, .powerGap)) (some 258) 5 = [0, 0, 1, 2, 1] := by decide +kernel

/-- `base` with its supply monitor; the warning threshold is 4.35 V. -/
def supplied (state : SupplyState) (holdEnd : Option Nat) : State := { base with supply := ⟨state, 1000999, 1941000, holdEnd⟩ }

theorem witness_supply :
    testConfig.warningMv = 4350 ∧ (let t := after (.supplyWarning 4349) (supplied .normal none)
     t.supply.state = .warning ∧ t.supply.warnAt = 2000000 ∧ t.store.image.state = .filled
       ∧ t.store.queue = [entryOf .powerFail])
      ∧ after (.supplyWarning 4350) (supplied .normal none) = supplied .normal none
      ∧ (let s := { reading 5 [0, 0, 1] with store := { stored.store with erase := some ⟨15, true, 0, 0⟩ } }
         (after (.supplyWarning 4000) s).store.abandoned = some 15
           ∧ answerOf (after (.supplyWarning 4000) s) = [5, 77, 7])
      ∧ (after (.supplyRise 4451) (supplied .warning none)).supply = ⟨.hold, 1000999, 2000000, some 2050000⟩
      ∧ after (.supplyRise 4450) (supplied .warning none) = supplied .warning none
      ∧ after (.supplyHoldFall 4450) (supplied .hold (some 2050000)) = supplied .warning none
      ∧ (let t := after .powerDip (supplied .hold (some 2000000))
         t.supply.state = .normal ∧ t.log.records.map (·.body) = [.powerDip 940 false])
      ∧ after .powerDip (supplied .hold (some 2000001)) = supplied .hold (some 2000001) := by decide +kernel

/-! ## Requests and answers -/

theorem witness_reading_requests :
    Serves (asking 1 []) (asked 1 []) 1 ∧ Serves (asking 2 []) (asked 2 []) 2 ∧ Serves (asking 3 [29, 3]) (asked 3 [29, 3]) 3
      ∧ Serves (asking 7 [2, 0]) (asked 7 [2, 0]) 7 ∧ Serves (asking 9 [0, 1]) (asked 9 [0, 1]) 9
      ∧ Serves (asking 9 [2, 1]) (asked 9 [2, 1]) 9 := by
  exact ⟨⟨serves_asked _ _, by decide +kernel⟩, ⟨serves_asked _ _, by decide +kernel⟩,
    ⟨serves_asked _ _, by decide +kernel⟩, ⟨serves_asked _ _, by decide +kernel⟩, ⟨serves_asked _ _, by decide +kernel⟩,
    ⟨serves_asked _ _, by decide +kernel⟩⟩

/-- A cause reaches ALM through its own mask bit, and every cause in reset (R193, R194). -/
theorem witness_alarm :
    (let s := fun (mask : BitVec 15) => { base with cfg := { testConfig with alarmMask := mask }
                                                    tally := { base.tally with serviceDue := true } }
     (s 4096).alarmCauses[12]? = some true ∧ (s 4096).alm = true ∧ (s (~~~4096#15)).alm = false
       ∧ { s 8192 with agr := Agreement.free 0 }.alm = true ∧ (s 8192).alm = false
       ∧ { s 0 with phase := .inReset .powerOn }.alm = true) := by decide +kernel

/-- The lengths that R36 gives the answers' contents, after code, tag and status. -/
theorem test_answer_lengths :
    (answerOf (after .status (asking 1 []))).length = 3 + 34
      ∧ answerOf (after .readTime (asking 2 [])) = [2, 77, 0, 0, 0, 0, 100, 0, 0, 0, 250, 41, 1, 0, 0, 0, 7]
      ∧ (answerOf (after .readPeers (asking 3 [29, 3]))).getD 11 0 = 2
      ∧ answerOf (after .readGroup (asking 7 [2, 0]))
          = [7, 77, 0, 0, 0, 0, 255, 255, 255, 255, 255, 255, 255, 255, 255]
      ∧ (answerOf (after .readTallies (asking 9 [0, 0]))).length = 3 + 1 + 42
      ∧ (answerOf (after .readTallies (asking 9 [0, 1]))).length = 3 + 1 + 27
      ∧ answerOf (after .readTallies (asking 9 [1, 0])) = [9, 77, 0, 0, 0, 0, 0, 0, 0, 0, 0, 0, 0]
      ∧ (answerOf (after .readTallies (asking 9 [2, 0]))).length = 3 + 1 + 32 := by decide +kernel

/-- A number, a peer entry, the own one, a group member (R36) and two records (R37), byte by byte. -/
theorem test_layouts :
    beBytes 2 902 = [3, 134] ∧ beBytes 4 65536 = [0, 1, 0, 0] ∧ (memberAt 5 9 1).bytes = [5, 1, 0, 7, 0, 0, 0, 100, 0, 0, 0, 9, 41, 1]
      ∧ (let s := { base with peers := base.peers.set 8 { heardPeer 2 (-3) true with restarts := 4 } }
         s.peerBytes 8 = [8, 130, 0, 255, 255, 255, 253, 3, 0, 0, 1, 4]
           ∧ s.peerBytes 5 = [5, 0, 0, 0, 0, 0, 0, 0, 0, 255, 255, 0])
      ∧ Record.bytes ⟨258, ⟨⟨100, 250⟩, 41, 1⟩, .timeStep (-5) .agree⟩
          = [1, 2, 5, 0, 0, 0, 100, 0, 0, 0, 250, 41, 1, 255, 255, 255, 255, 255, 255, 255, 251, 2]
      ∧ Record.bytes ⟨0, ⟨⟨0, 0⟩, 0, 3⟩, .shiftClose none .powerGap⟩
          = [0, 0, 10, 0, 0, 0, 0, 0, 0, 0, 0, 0, 3, 255, 255, 255, 255, 3] := by decide +kernel

/-- `asking` with records in the log and entries in the notice queue. -/
def fetching (code : Nat) (count : Byte) (records : List Record) (notices : List Notice) : State :=
  { asking code [count] with log := ⟨records, 254, 12⟩, notices := notices }

theorem witness_fetches :
    Serves (fetching 4 2 [recordAt 10, recordAt 11] []) (asked 4 [2]) 4
      ∧ Serves (fetching 6 2 [] [⟨3, List.replicate 18 9⟩, ⟨4, List.replicate 18 8⟩]) (asked 6 [2]) 6
      ∧ (let t := after .fetchLog (fetching 4 2 [recordAt 10, recordAt 11] [])
         t.log = ⟨[], 0, 12⟩ ∧ (answerOf t).take 8 = [4, 77, 0, 2, 0, 0, 0, 10] ∧ (answerOf t).length = 3 + 3 + 30)
      ∧ (let t := after .fetchLog (fetching 4 1 [recordAt 10, recordAt 11] [])
         t.log = ⟨[recordAt 11], 255, 12⟩ ∧ (answerOf t).take 6 = [4, 77, 0, 1, 0, 1])
      ∧ (let big : Record := ⟨10, ⟨⟨100, 250⟩, 41, 1⟩, .timeStep 5 .set⟩
         let t := after .fetchLog (fetching 4 2 [big, big] [])
         t.log.records.length = 1 ∧ 42 < big.bytes.length + big.bytes.length)
      ∧ answerOf (after .fetchLog (fetching 4 2 [] [])) = [4, 77, 1]
      ∧ (let t := after .fetchNotices (fetching 6 2 [] [⟨3, List.replicate 18 9⟩, ⟨4, List.replicate 18 8⟩])
         t.notices = [] ∧ answerOf t = [6, 77, 0, 2, 3] ++ List.replicate 18 9 ++ [4] ++ List.replicate 18 8)
      ∧ answerOf (after .fetchNotices (fetching 6 1 [] [])) = [6, 77, 1] := by
  exact ⟨⟨serves_asked _ _, by decide +kernel⟩, ⟨serves_asked _ _, by decide +kernel⟩, by decide +kernel⟩

/-- `asking` with a tally unit. -/
def askingTally (code : Nat) (params : List Byte) (t : Tally) : State := { asking code params with tally := t }

theorem witness_tally_requests :
    Serves (asking 11 [0, 2, 0, 0, 0, 0, 1, 0]) (asked 11 [0, 2, 0, 0, 0, 0, 1, 0]) 11
      ∧ Serves (asking 11 [1, 255, 255, 255, 255, 255, 255, 255]) (asked 11 [1, 255, 255, 255, 255, 255, 255, 255]) 11
      ∧ Serves (asking 12 [1, 0]) (asked 12 [1, 0]) 12 ∧ Serves (asking 13 [0]) (asked 13 [0]) 13 := by
  exact ⟨⟨serves_asked _ _, by decide +kernel⟩, ⟨serves_asked _ _, by decide +kernel⟩,
    ⟨serves_asked _ _, by decide +kernel⟩, ⟨serves_asked _ _, by decide +kernel⟩⟩

theorem witness_preset :
    (let t := after .presetTally (asking 11 [0, 2, 0, 0, 0, 0, 1, 0])
     t.tally.lifetime = [0, 0, 256, 0, 0, 0, 0] ∧ t.log.records.map (·.body) = [.preset (.mode .generating) 0 256]
       ∧ answerOf t = [11, 77, 0] ∧ t.store.image.state = .filled)
      ∧ (let t := after .presetTally (askingTally 11 [0, 2, 0, 0, 0, 0, 1, 0] { base.tally with protectLife := true })
         t.flags.protectionFault = true ∧ answerOf t = [11, 77, 4] ∧ t.tally.lifetime = List.replicate 7 0)
      ∧ answerOf (after .presetTally (askingTally 11 [0, 2, 0, 0, 0, 0, 1, 0] (stopping 2000001 none).tally)) = [11, 77, 6]
      ∧ (let s := { asking 11 [0, 2, 0, 0, 0, 0, 1, 0] with flags := { base.flags with protectionFault := true } }
         answerOf (after .presetTally s) = [11, 77, 5])
      ∧ (let s := { asking 11 [1, 255, 255, 255, 255, 255, 255, 255] with cfg := { testConfig with serviceLimit := 1 } }
         let t := after .presetTally s
         t.tally.service = 140737488355327 ∧ t.tally.serviceDue = true ∧ t.log.records.map (·.body)
           = [.preset .service 0 140737488355327, .serviceDue 140737488355327])
      ∧ (let s := askingTally 11 [1, 255, 0, 0, 0, 0, 0, 0] { base.tally with serviceDue := true }
         (after .presetTally s).tally.serviceDue = false) := by decide +kernel

theorem witness_protect_and_lock_down :
    (let t := after .protectTally (asking 12 [1, 1])
     t.tally.protectService = true ∧ t.log.records.map (·.body) = [.protect .service .on])
      ∧ (let t := after .protectTally (askingTally 12 [1, 0] { base.tally with protectService := true })
         t.tally.protectService = false ∧ t.log.records.map (·.body) = [.protect .service .off])
      ∧ (let t := after .lockDownTally (asking 13 [0])
         t.lockLife = true ∧ t.lockService = false ∧ t.tally.protectLife = true
           ∧ t.log.records.map (·.body) = [.protect .lifetime .lockDown])
      ∧ (let s := { asking 13 [0] with flags := { base.flags with protectionFault := true } }
         answerOf (after .lockDownTally s) = [13, 77, 5]) := by decide +kernel

/-- A request to acknowledge group 2 in a state. -/
def acknowledging (state : GroupState) : State :=
  (asking 8 [2]).setGroup 2 ⟨state, some ⟨100, 0⟩, [memberAt 5 0 1], 0, some 0, none⟩

theorem witness_group_flags_and_bad_requests :
    Serves (acknowledging .closed) (asked 8 [2]) 8 ∧ (acknowledging .closed).servesNext (asked 8 [2])
      ∧ (asking 0 []).servesNext (asked 0 []) ∧ (asking 17 [5]).servesNext (asked 17 [5])
      ∧ answerOf (after .ackGroup (asking 8 [2])) = [8, 77, 0]
      ∧ (after .ackGroup (acknowledging .opened)).groups = (acknowledging .opened).groups
      ∧ answerOf (after .ackGroup (acknowledging .opened)) = [8, 77, 3]
      ∧ (after .ackGroup (acknowledging .closed)).groups = base.groups
      ∧ answerOf (after .unknownRequest (asking 0 [])) = [0, 77, 8]
      ∧ answerOf (after .unknownRequest (asking 17 [5])) = [17, 77, 8]
      ∧ after .unknownRequest (asking 16 []) = asking 16 []
      ∧ answerOf (after .readPeers (asking 3 [31, 1])) = [3, 77, 2]
      ∧ answerOf (after .status (asking 1 [0])) = [1, 77, 2]
      ∧ after .readTime (asking 1 []) = asking 1 [] := by
  exact ⟨⟨⟨rfl, rfl, rfl⟩, by decide +kernel⟩, ⟨rfl, rfl, rfl⟩, serves_asked _ _, serves_asked _ _, by decide +kernel⟩

/-- Parameters at and past the limits of R178 and R181, and a request that waits behind one in service (R176). -/
theorem witness_parameter_limits :
    (let ok := fun (code : Nat) (params : List Byte) => (asked code params).acceptable
     ok 3 [30, 3] = true ∧ ok 3 [30, 0] = false ∧ ok 3 [30, 4] = false ∧ ok 4 [0] = false ∧ ok 4 [3] = false
       ∧ ok 5 [255, 255, 2] = true ∧ ok 5 [0, 0, 3] = false ∧ ok 6 [0] = false ∧ ok 7 [7, 7] = true ∧ ok 7 [0, 0] = false
       ∧ ok 7 [8, 0] = false ∧ ok 7 [1, 8] = false ∧ ok 8 [0] = false ∧ ok 8 [7] = true ∧ ok 9 [1, 1] = false
       ∧ ok 9 [3, 0] = false ∧ ok 9 [2, 1] = true ∧ ok 10 [255, 5] = true ∧ ok 10 [0, 6] = false
       ∧ ok 11 ([0, 7] ++ beBytes 6 0) = false ∧ ok 11 ([1, 0] ++ beBytes 6 0) = false ∧ ok 12 [2, 0] = false
       ∧ ok 12 [1, 2] = false ∧ ok 13 [2] = false ∧ ok 14 (beBytes 4 0 ++ beBytes 4 999999) = true
       ∧ ok 14 (beBytes 4 0 ++ beBytes 4 1000000) = false ∧ ok 15 [255, 255] = true ∧ ok 16 [0] = false)
      ∧ (let s := { asking 2 [] with req := { (asking 2 []).req with service := some (.storeRead (asked 5 [0, 0, 1])) } }
         s.req.service ≠ none ∧ after .readTime s = s) := by decide +kernel

/-- All flags set and the journal stopped; a mask of FFh FFh, and one that names bit 8 and bit 0 alone. -/
theorem witness_clear_flags :
    (let all : StickyFlags := ⟨true, true, true, true, true, true, true, true, true⟩
     let stopped := { testStore with journal := { testStore.journal with stopped := true } }
     let t := after .clearFlags { asking 15 [255, 255] with flags := all, store := stopped }
     let u := after .clearFlags { asking 15 [1, 1] with flags := all, store := stopped }
     t.flags = { StickyFlags.clear with configFault := true } ∧ t.store = testStore
       ∧ t.req.service = some (.clearFlags (asked 15 [255, 255])) ∧ answerOf t = []
       ∧ answerOf (after .clearFlags t) = [15, 77, 0, 1, 0] ∧ (after .clearFlags t).req.service = none
       ∧ answerOf (after (.elapsedMicrosecond .whole ⟨false, []⟩) t) = [15, 77, 0, 1, 0]
       ∧ u.flags = { all with logOverrun := false } ∧ u.store = stopped
       ∧ answerOf (after .clearFlags u) = [15, 77, 0, 1, 254]) := by
  decide +kernel

/-- A flag and its clearing in one elapsed microsecond (R184): set first, it is cleared and shown clear; cleared first, it is
set again and shown set. -/
theorem witness_flag_set_with_its_clearing :
    (let s := { asking 15 [0, 128] with chA := { LineController.cleared 0 with stamp := some ⟨⟨100, 12⟩, 41⟩ } }
     let sets := Instr.reception .a (telegram 5 .request 31 0 [1, 2]) 0
     let ends := fun (t : State) => after (.elapsedMicrosecond .whole ⟨false, []⟩) t
     let before := ends (after .clearFlags (after sets s))
     let again := ends (after sets (after .clearFlags s))
     answerOf before = [15, 77, 0, 0, 0] ∧ before.flags.duplicateStation = false
       ∧ answerOf again = [15, 77, 0, 0, 128] ∧ again.flags.duplicateStation = true
       ∧ after .clearFlags { s with phase := .inReset .restart } = { s with phase := .inReset .restart }) := by
  decide +kernel

/-! ## Resets and START -/

/-- The first in R186's order of the kinds of one reset period names the cause. -/
theorem witness_resets :
    base.store.programming = none ∧ (after .resetLine base).phase = .inReset .resetLine
      ∧ (after .powerOn (after .resetLine base)).phase = .inReset .powerOn
      ∧ (after .resetLine (after (.supplyReset 3899) base)).phase = .inReset .supplyLow
      ∧ (after (.supplyReset 3899) (after .resetLine base)).phase = .inReset .supplyLow
      ∧ (after .resetLine { base with phase := .inReset .restart }).phase = .inReset .resetLine
      ∧ after .restartReset base = base
      ∧ after (.supplyReset 3900) base = base
      ∧ (after .resetLine { base with lockLife := true }).lockLife = true
      ∧ (after (.supplyReset 0) { base with lockLife := true }).lockLife = false
      ∧ (after .resetLine stored).store.pages = stored.store.pages := by decide +kernel

/-- The slots and pages that a cut-off programming, and a cut-off erase, leave as they are (R154, R186). -/
theorem witness_cut_off :
    (let st := (programming 3 false).store
     let e := ({ stored.store with erase := some ⟨15, true, 0, 0⟩
                                   pages := modifyAt (fun g => { g with disturbed := true }) stored.store.pages 15 } : Store)
     (st.pages[8]?.map (·.disturbed)) = some false
       ∧ ((st.cutOff 0)[8]?.bind fun g => g.slots[2]?) = some .blank ∧ (st.cutOff 0)[9]? = st.pages[9]?
       ∧ (e.pages[15]?.map (·.disturbed)) = some true ∧ (e.cutOff 0)[8]? = e.pages[8]?
       ∧ ((e.cutOff 0)[15]?.map (·.disturbed)) = some false) := by decide +kernel

/-- A RESTART in service since so many µs, its answer waiting on channel A. -/
def restarting (queuedAt : Nat) : State :=
  { base with
    chA := holding [⟨.answer, 2, 9, [16, 77, 0], false, false, false⟩]
    req := { base.req with service := some (.restart 9 queuedAt) } }

theorem witness_restart :
    Serves (asking 16 []) (asked 16 []) 16
      ∧ (after .restart (asking 16 [])).req.service = some (.restart 0 2000000)
      ∧ answerOf (after .restart (asking 16 [])) = [16, 77, 0]
      ∧ after .restartReset (restarting 1900001) = restarting 1900001
      ∧ (after .restartReset (restarting 1900000)).phase = .inReset .restart
      ∧ (after .restartReset { restarting 1900001 with chA := holding [] }).phase = .inReset .restart := by
  exact ⟨⟨serves_asked _ _, by decide +kernel⟩, by decide +kernel⟩

/-- A START of a part without a configuration memory, straps 31. -/
def bareStart : StartInputs := ⟨none, 31, true, 5000, 100, 100, 100, 5000, true⟩

/-- A part in reset whose journal holds a checkpoint of log sequence 12 and whose trip archive holds record 20. -/
def recovered : State :=
  { State.reset with store := Store.cleared ((blankArray.set 0 (⟨(List.replicate 16 Slot.blank).set 0
      (.valid 5 (.checkpoint { base.snapshot with f := 3000, nextLog := 12 })), false⟩)).set 8
      ⟨(List.replicate 64 Slot.blank).set 0 (.valid 9 (.archive (recordAt 20))), false⟩) }

theorem witness_start :
    State.reset.phase = .inReset .powerOn
      ∧ (let t := after (.start bareStart) State.reset
         t.phase = .running ∧ t.ownNumber = 30 ∧ t.console = true ∧ t.flags = { StickyFlags.clear with configFault := true }
           ∧ t.log.records.map (·.body) = [.start .powerOn none 0 0 false false true] ∧ t.log.next = 1
           ∧ t.store.appendPoint .trips = some (8, 0) ∧ t.shift.current.number = none)
      ∧ after (.start { bareStart with supply := 3899 }) State.reset = State.reset
      ∧ after (.start { bareStart with released := 4000 }) State.reset = State.reset
      ∧ after (.start { bareStart with rstHigh := false }) State.reset = State.reset
      ∧ (after (.start { bareStart with released := 4001 }) State.reset).phase = .running
      ∧ (let s := { State.reset with phase := .inReset .resetLine }
         (after (.start { bareStart with released := 0 }) s).phase = .running)
      ∧ (let t := after (.start { bareStart with supply := 4349 }) State.reset
         t.supply = ⟨.warning, 100, 0, none⟩ ∧ t.store.queue.map (·.kind.priority) = [2, 1]
           ∧ t.store.image = ⟨.filled, some t.snapshot, true, false, false⟩)
      ∧ after (.start bareStart) base = base := by decide +kernel

theorem witness_start_recovers :
    recovered.phase = .inReset .powerOn
      ∧ (let t := after (.start bareStart) recovered
         t.log.records.map (·.seq) = [21] ∧ t.agr.f = 2516 ∧ t.tb.time = ⟨100, 0⟩ ∧ t.shift.recovered = some ⟨100, 250⟩
           ∧ t.log.records.map (·.body) = [.start .powerOn (some 5) 0 0 false false true]
           ∧ t.store.appendPoint .journal = some (0, 1) ∧ t.store.journal.nextSeq = 6
           ∧ t.shift.current.uncertain = true) := by decide +kernel

/-- Station time running on from the initialisation at A = 2516, to the record and to the end of START (R18, R188). -/
theorem test_time_runs_on_during_start :
    (let t := after (.start { bareStart with recordAt := 102, endAt := 103 }) recovered
     t.tb.time = ⟨100, 3⟩ ∧ t.tb.acc = 3 * 2516 ∧ t.tb.elapsed = 103
       ∧ t.log.records.map (·.dating.time) = [⟨100, 2⟩]) := by decide +kernel

/-- A page of a region with some slots written, the others blank. -/
def pageWith (r : Region) (written : List Slot) : Page :=
  ⟨written ++ List.replicate (r.slots - written.length) .blank, false⟩

/-- A checkpoint slot of a store sequence. -/
def checkpointSlot (k : Nat) : Slot := .valid k (.checkpoint base.snapshot)

/-- Page 0 full with sequences to 15, page 1 used with 7 and a torn and a partial slot, page 2 inconsistent with the journal's
highest sequence 40, page 3 blank; the trip archive without a blank page. -/
def worn : List Page :=
  (((blankArray.set 0 (pageWith .journal ((List.range 16).map checkpointSlot))).set 1
      (pageWith .journal [checkpointSlot 7, .torn, .incomplete])).set 2
      (pageWith .journal [.blank, checkpointSlot 40])).take 8
    ++ (List.range 8).map fun i => pageWith .trips [.valid i (.archive (recordAt (100 + i)))]

/-- The scan (R172, R173): the full page changes to page 3; with no blank page left the first used page after it in ring order,
page 0, is queued behind the inconsistent page 2; the valid slot of page 2 is the latest checkpoint and sets the next store sequence (log entry 40). -/
theorem witness_scan :
    (let st := Store.cleared worn
     st.scan.eraseList = [2, 0, 8] ∧ st.scan.journal = ⟨some 3, 0, none, 41, false⟩
       ∧ st.scan.shifts = ⟨some 4, 0, some 5, 0, false⟩ ∧ st.scan.trips = ⟨some 15, 1, none, 8, false⟩
       ∧ st.findings.checkpoint = some (40, base.snapshot) ∧ st.findings.newest = some 107 ∧ st.findings.torn = 1
       ∧ st.findings.queued = 3 ∧ st.findings.interrupted = true) := by decide +kernel

/-- A configuration memory of given bytes at given places, 0 elsewhere, with its check. -/
def memoryOf (bytes : List (Nat × Byte)) (check : List Byte) : List Byte :=
  bytes.foldl (fun m x => m.set x.1 x.2) (List.replicate 254 0) ++ check

/-- A check taken over 64 bytes at a time, as the kernel evaluates it. -/
theorem crc_of_parts (l : List Byte) (a b c d : BitVec 16) (ha : (l.take 64).foldl crcByte 0xFFFF = a)
    (hb : ((l.drop 64).take 64).foldl crcByte a = b) (hc : (((l.drop 64).drop 64).take 64).foldl crcByte b = c)
    (hd : (((l.drop 64).drop 64).drop 64).foldl crcByte c = d) : crc l = d := by
  have split : ∀ (x : List Byte) (k : BitVec 16),
      x.foldl crcByte k = (x.drop 64).foldl crcByte ((x.take 64).foldl crcByte k) := by
    intro x k
    rw [← List.foldl_append, List.take_append_drop]
  rw [crc, split, ha, split, hb, split, hc, hd]

/-- A memory with fields out of range: a class of 3, a group of 9, q of 128, a mode code of 8, P of 5, and K of 0. -/
def clampedMemory : List Byte :=
  memoryOf [(3, 0x0D), (4, 9), (5, 128), (49, 8), (142, 5), (145, 0x60), (153, 9), (155, 3)] [0xD1, 0x62]

/-- A memory with every field at a limit of its range. -/
def goodMemory : List Byte :=
  memoryOf [(118, 1), (119, 3), (121, 10), (127, 1), (128, 1), (135, 2), (138, 100), (139, 1), (142, 8), (145, 0x2A),
    (146, 0x2F), (152, 10)] [0x34, 0x2B]

theorem witness_memory_checks :
    clampedMemory.length = 256 ∧ fieldAt clampedMemory 254 2 = (crc (clampedMemory.take 254)).toNat
      ∧ goodMemory.length = 256 ∧ fieldAt goodMemory 254 2 = (crc (goodMemory.take 254)).toNat := by
  rw [crc_of_parts (clampedMemory.take 254) 55081 47826 6872 53602 (by decide +kernel) (by decide +kernel)
      (by decide +kernel) (by decide +kernel),
    crc_of_parts (goodMemory.take 254) 55002 20836 39697 13355 (by decide +kernel) (by decide +kernel)
      (by decide +kernel) (by decide +kernel)]
  decide +kernel

/-- Out-of-range fields (R191): class 3 gives UNIT_TRIP, P = 5 gives 4 and B0 its limit for that shift length, K = 0 gives
100. -/
theorem witness_configuration_load :
    loadConfiguration (some clampedMemory) = loadedConfiguration clampedMemory
      ∧ loadConfiguration (some goodMemory) = loadedConfiguration goodMemory
      ∧ (let c := loadedConfiguration clampedMemory
         c.status = .clamped ∧ c.inputs[1]? = some ⟨true, false, .unitTrip, 7, 127⟩ ∧ c.modeTable[0]? = some none
           ∧ c.shiftsPerDay = 4 ∧ c.firstBoundary = 21599 ∧ c.stepThreshold = 100 ∧ c.logCritical = 1
           ∧ c.warningMv = 4650 ∧ c.alarmMask = 3)
      ∧ (loadedConfiguration goodMemory).status = .good ∧ (loadedConfiguration goodMemory).firstBoundary = 10799
      ∧ loadConfiguration (some (clampedMemory.take 255)) = Configuration.defaults .faulted := by
  have h := witness_memory_checks
  refine ⟨?_, ?_, by decide +kernel⟩
  · simp [loadConfiguration, memoryCheckMatches, h.1, h.2.1]
  · simp [loadConfiguration, memoryCheckMatches, h.2.2.1, h.2.2.2]

end Sys2Proof.Tests
end

section
/-! PROOFS. A step of station time (R5, R6, R10): what it leaves of the timebase, the agreement unit and the blocks it names. -/

namespace Sys2Proof.Machine

/-! ### The step of station time (R5, R6, R10) -/

/-- The state in which a step leaves the part before the station second it may signal (R5, R6, R50, R148, R149,
R151). -/
def State.stepped (s : State) (c : Int) (cause : StepCause) (new : AgreementState) (gs : List Nat) : State :=
  ((((((s.jump (stepTarget s.instant c) new).writeA s.agr.f).closeDue gs).appendNow
      (.timeStep ((stepTarget s.instant c : Int) - s.instant) cause)).countStep
      ((stepTarget s.instant c : Int) - s.instant)).tellQuality s.agr.state).tellLeftFree s.agr.state

/-- A step signals a station second when it moves station time into a later whole second, and none else (R10). -/
theorem State.step_eq_stepped (s : State) (c : Int) (w : StepCause) (n : AgreementState) (gs : List Nat) :
    State.step s c w n gs =
      if s.tb.time.s < stepTarget s.instant c / 1000000 then (s.stepped c w n gs).stepSecond else s.stepped c w n gs :=
  rfl

/-- What a step has made of the timebase and of the blocks that R6 and R50 name, before the second it may signal. -/
@[simp] theorem State.stepped_kept (s : State) (c : Int) (w : StepCause) (n : AgreementState) (gs : List Nat) :
    (s.stepped c w n gs).tb =
        { s.tb.stepTo s.cfg.roundLength (stepTarget s.instant c) with a := clampInt (-3355) 3355 s.agr.f }
      ∧ (s.stepped c w n gs).agr = { s.agr with state := n }
      ∧ (s.stepped c w n gs).marks = { s.marks with phase := none }
      ∧ (s.stepped c w n gs).peers = s.peers.map Peer.clearRound
      ∧ (s.stepped c w n gs).chA = s.chA ∧ (s.stepped c w n gs).chB = s.chB
      ∧ (s.stepped c w n gs).senderSeq = s.senderSeq ∧ (s.stepped c w n gs).req = s.req
      ∧ (s.stepped c w n gs).inputs = s.inputs ∧ (s.stepped c w n gs).notices = s.notices
      ∧ (s.stepped c w n gs).supply = s.supply := by
  simp [State.stepped]

/-- The second-mark pulse's end after a station second of quality `q` (R12). -/
theorem State.startPulse_tb (s : State) :
    s.startPulse.tb =
      { s.tb with pulseEnd := if s.quality = 3 then s.tb.pulseEnd else some (s.tb.elapsed + 10000) } := by
  unfold State.startPulse
  split <;> simp [*]

/-- A station second that a step signals touches the pulse end of the timebase alone (R10, R12). -/
theorem State.stepSecond_tb (s : State) :
    s.stepSecond.tb =
      { s.tb with pulseEnd := if s.quality = 3 then s.tb.pulseEnd else some (s.tb.elapsed + 10000) } := by
  simp [State.stepSecond, State.startPulse_tb]

/-- What a step leaves of the timebase: the new station time, generation, Acc, A and round hold of R6, and the pulse end of
a second that it signals (R10, R12). -/
theorem State.step_tb (s : State) (c : Int) (w : StepCause) (n : AgreementState) (gs : List Nat) :
    (State.step s c w n gs).tb =
      { s.tb.stepTo s.cfg.roundLength (stepTarget s.instant c) with
        a := clampInt (-3355) 3355 s.agr.f
        pulseEnd :=
          if s.tb.time.s < stepTarget s.instant c / 1000000 ∧ n.quality ≠ 3 then some (s.tb.elapsed + 10000)
          else s.tb.pulseEnd } := by
  rw [State.step_eq_stepped]
  by_cases second : s.tb.time.s < stepTarget s.instant c / 1000000
  · by_cases q : n.quality = 3 <;> simp [second, State.stepSecond_tb, State.quality, q, Timebase.stepTo]
  · simp [second, Timebase.stepTo]

/-- A step puts the agreement state in force that was ordered with it, and leaves F and the counts (R6, R50). -/
@[simp] theorem State.step_agr (s : State) (c : Int) (w : StepCause) (n : AgreementState) (gs : List Nat) :
    (State.step s c w n gs).agr = { s.agr with state := n } := by
  rw [State.step_eq_stepped]
  split <;> simp

/-- A step discards the latest phase error (R6). -/
@[simp] theorem State.step_marks (s : State) (c : Int) (w : StepCause) (n : AgreementState) (gs : List Nat) :
    (State.step s c w n gs).marks = { s.marks with phase := none } := by
  rw [State.step_eq_stepped]
  split <;> simp

/-- A step discards the peers' flags of the round (R6). -/
@[simp] theorem State.step_peers (s : State) (c : Int) (w : StepCause) (n : AgreementState) (gs : List Nat) :
    (State.step s c w n gs).peers = s.peers.map Peer.clearRound := by
  rw [State.step_eq_stepped]
  split <;> simp

end Sys2Proof.Machine
end

section
/-! PROOFS. What each command can do to the timebase and the agreement unit, said once for all of them. -/

namespace Sys2Proof.Machine

/-- What a command can do to the timebase and the agreement unit: leave both, end the second-mark pulse, take an elapsed
microsecond, set station time on a request, hold the part in reset, or start it. -/
inductive State.TimeEffect (s : State) : Instr → State → Prop
  | kept {c : Instr} {t : State} (tb : t.tb = s.tb) (agr : t.agr = s.agr) : s.TimeEffect c t
  | pulseEnds : s.TimeEffect .secondMarkPulseEnd { s with tb := { s.tb with pulseEnd := none } }
  | microsecond (p : MicroPart) (o : SecondOrder) : s.TimeEffect (.elapsedMicrosecond p o) (s.microsecond p o)
  | set {t : State} (gs : List Nat) (asked : StationTime) (tb : t.tb = (s.popRequest.setTime asked gs).tb)
      (agr : t.agr = (s.popRequest.setTime asked gs).agr) : s.TimeEffect (.setTime gs) t
  | reset {c : Instr} (k : ResetCause) : s.TimeEffect c (s.enterReset k)
  | start (i : StartInputs) (k : ResetCause) (held : s.phase = .inReset k) : s.TimeEffect (.start i) (s.runStart k i)

/-- The three ends of a request command (R176, R178): no request of its code is served, the oldest is refused, or its owner
takes it. -/
theorem State.serve_cases (s : State) (code : Nat) (owner : State → Request → State) :
    s.serve code owner = s ∨ (∃ r, s.serve code owner = s.popRequest.answer r .badArgument [])
      ∨ ∃ r, s.serve code owner = owner s.popRequest r := by
  unfold State.serve
  split
  · rename_i r _
    split
    · split
      · exact .inr (.inr ⟨r, rfl⟩)
      · exact .inr (.inl ⟨r, rfl⟩)
    · exact .inl rfl
  · exact .inl rfl

/-- Serving a request leaves the timebase and the agreement unit as they were where its owner does. -/
theorem State.TimeEffect.served (s : State) (c : Instr) (code : Nat) (owner : State → Request → State)
    (owned : ∀ u r, (owner u r).tb = u.tb ∧ (owner u r).agr = u.agr) : s.TimeEffect c (s.serve code owner) := by
  rcases s.serve_cases code owner with e | ⟨r, e⟩ | ⟨r, e⟩ <;> rw [e]
  · exact .kept rfl rfl
  · exact .kept (by simp) (by simp)
  · exact .kept (by simp [owned]) (by simp [owned])

/-! ### What the owners of requests keep (R179 to R185) -/

@[simp] theorem State.serveStatus_kept (s : State) (r : Request) :
    (s.serveStatus r).tb = s.tb ∧ (s.serveStatus r).agr = s.agr := by
  simp [State.serveStatus]

@[simp] theorem State.serveReadTime_kept (s : State) (r : Request) :
    (s.serveReadTime r).tb = s.tb ∧ (s.serveReadTime r).agr = s.agr := by
  simp [State.serveReadTime]

@[simp] theorem State.serveReadPeers_kept (s : State) (r : Request) :
    (s.serveReadPeers r).tb = s.tb ∧ (s.serveReadPeers r).agr = s.agr := by
  simp [State.serveReadPeers]

@[simp] theorem State.serveReadGroup_kept (s : State) (r : Request) :
    (s.serveReadGroup r).tb = s.tb ∧ (s.serveReadGroup r).agr = s.agr := by
  simp [State.serveReadGroup]

@[simp] theorem State.serveReadTallies_kept (s : State) (r : Request) :
    (s.serveReadTallies r).tb = s.tb ∧ (s.serveReadTallies r).agr = s.agr := by
  simp [State.serveReadTallies]

@[simp] theorem State.serveFetchLog_kept (s : State) (r : Request) :
    (s.serveFetchLog r).tb = s.tb ∧ (s.serveFetchLog r).agr = s.agr := by
  unfold State.serveFetchLog
  dsimp only
  split <;> simp

@[simp] theorem State.serveFetchNotices_kept (s : State) (r : Request) :
    (s.serveFetchNotices r).tb = s.tb ∧ (s.serveFetchNotices r).agr = s.agr := by
  unfold State.serveFetchNotices
  dsimp only
  split <;> simp

@[simp] theorem State.serveReadShift_kept (s : State) (r : Request) :
    (s.serveReadShift r).tb = s.tb ∧ (s.serveReadShift r).agr = s.agr := by
  unfold State.serveReadShift
  split <;> simp

@[simp] theorem State.serveAckGroup_kept (s : State) (r : Request) :
    (s.serveAckGroup r).tb = s.tb ∧ (s.serveAckGroup r).agr = s.agr := by
  unfold State.serveAckGroup
  split <;> simp

@[simp] theorem State.servePreset_kept (s : State) (r : Request) :
    (s.servePreset r).tb = s.tb ∧ (s.servePreset r).agr = s.agr := by
  unfold State.servePreset
  dsimp only
  repeat' split
  all_goals simp

@[simp] theorem State.serveProtect_kept (s : State) (r : Request) :
    (s.serveProtect r).tb = s.tb ∧ (s.serveProtect r).agr = s.agr := by
  unfold State.serveProtect
  dsimp only
  repeat' split
  all_goals simp

@[simp] theorem State.serveLockDown_kept (s : State) (r : Request) :
    (s.serveLockDown r).tb = s.tb ∧ (s.serveLockDown r).agr = s.agr := by
  unfold State.serveLockDown
  dsimp only
  split <;> simp

@[simp] theorem State.serveRestart_kept (s : State) (r : Request) :
    (s.serveRestart r).tb = s.tb ∧ (s.serveRestart r).agr = s.agr := by
  simp [State.serveRestart]

/-- SET TIME served (R7, R183): refused, or station time is set. -/
theorem State.TimeEffect.servedSetTime (s : State) (gs : List Nat) :
    s.TimeEffect (.setTime gs) (s.serve 14 (State.serveSetTime gs)) := by
  rcases s.serve_cases 14 (State.serveSetTime gs) with e | ⟨r, e⟩ | ⟨r, e⟩ <;> rw [e]
  · exact .kept rfl rfl
  · exact .kept (by simp) (by simp)
  · unfold State.serveSetTime
    split
    · dsimp only
      generalize (⟨fieldAt r.params 0 4, fieldAt r.params 4 4⟩ : StationTime) = asked
      exact .set gs asked (by simp) (by simp)
    · exact .kept (by simp) (by simp)

/-- Every command has one of these effects. -/
theorem exec_timeEffect (c : Instr) (s t : State) (h : exec c s = .next t) : s.TimeEffect c t := by
  cases c with
  | elapsedMicrosecond p o =>
    obtain rfl := Host.Outcome.next.inj h
    split
    · exact .microsecond p o
    · exact .kept rfl rfl
  | secondMarkPulseEnd =>
    obtain rfl := Host.Outcome.next.inj h
    split
    · exact .pulseEnds
    · exact .kept rfl rfl
  | setTime gs =>
    obtain rfl := Host.Outcome.next.inj h
    exact .servedSetTime s gs
  | powerOn => obtain rfl := Host.Outcome.next.inj h; exact .reset _
  | resetLine => obtain rfl := Host.Outcome.next.inj h; exact .reset _
  | supplyReset =>
    obtain rfl := Host.Outcome.next.inj h
    split
    · exact .reset _
    · exact .kept rfl rfl
  | restartReset =>
    obtain rfl := Host.Outcome.next.inj h
    split
    · split
      · exact .reset _
      · exact .kept rfl rfl
    · exact .kept rfl rfl
  | start i =>
    obtain rfl := Host.Outcome.next.inj h
    split
    · split
      · exact .start i _ ‹_›
      · exact .kept rfl rfl
    · exact .kept rfl rfl
  | status | readTime | readPeers | fetchLog | readArchive | fetchNotices | readGroup | ackGroup
  | readTallies | readShift | presetTally | protectTally | lockDownTally | restart =>
    obtain rfl := Host.Outcome.next.inj h
    exact .served s _ _ _ fun u r => by simp
  | clearFlags =>
    obtain rfl := Host.Outcome.next.inj h
    split
    · exact .kept (by simp) (by simp)
    · exact .served s _ _ _ fun u r => by simp
  | collision ch | sendingComplete ch =>
    obtain rfl := Host.Outcome.next.inj h
    split
    · dsimp only
      split
      · split <;> exact .kept (by simp) (by simp)
      · exact .kept rfl rfl
    · exact .kept rfl rfl
  | _ =>
    obtain rfl := Host.Outcome.next.inj h
    repeat' split
    all_goals exact .kept (by simp) (by simp)

end Sys2Proof.Machine
end

section
/-! PROOFS. Station time moves by elapsed microseconds and by steps alone (R2, R3, R5, R6, R7). -/

namespace Sys2Proof.Machine

/-! ### Station time and the generation (R3, R5, R6) -/

/-- Station time and the generation stand as they did, or a step has made a new generation (R6). -/
def State.KeptOrStepped (s t : State) : Prop :=
  (t.tb.time = s.tb.time ∧ t.tb.g = s.tb.g) ∨ t.tb.g = (s.tb.g + 1) % 256

/-- A step makes a new generation (R6). -/
theorem State.step_g (s : State) (c : Int) (w : StepCause) (n : AgreementState) (gs : List Nat) :
    (State.step s c w n gs).tb.g = (s.tb.g + 1) % 256 := by
  rw [State.step_tb]
  rfl

/-- The decision of a round slews or holds, or it steps (R49 to R52). -/
theorem State.applyDecision_clock (s : State) (d : Decision) (gs : List Nat) :
    s.KeptOrStepped (s.applyDecision d gs) := by
  unfold State.applyDecision
  dsimp only
  split
  · exact .inl (by simp [State.slew])
  · exact .inl (by simp [State.limitedSlew])
  · exact .inl (by simp)
  · exact .inr (by simp [State.step_g])

/-- A station second delivered leaves station time alone but for the step its round may make (R11, R45). -/
theorem State.deliverSecond_clock (s : State) (o : SecondOrder) : s.KeptOrStepped (s.deliverSecond o) := by
  have round : ∀ (u : State) (d : SecondDue), u.tb.time = s.tb.time → u.tb.g = s.tb.g →
      s.KeptOrStepped (u.roundIfBoundary d o.closeFirst) := by
    intro u d time g
    unfold State.roundIfBoundary
    split
    · have := (u.endHold.mapPeers Peer.takeStock).applyDecision_clock
        (decideRound u.cfg.stepThreshold u.cfg.holdoverLimit u.marks.valid u.agr
          (roundOutcome u.agr.state u.cfg.dropped u.endHold.ownMark u.peers)) o.closeFirst
      simpa [State.KeptOrStepped, State.roundBoundary, State.agreementRound, time, g] using this
    · exact .inl ⟨time, g⟩
  unfold State.deliverSecond
  split
  · exact .inl ⟨rfl, rfl⟩
  · dsimp only
    split
    · exact round _ _ (by simp [State.startPulse_tb]) (by simp [State.startPulse_tb])
    · have := round s.takeSecond.startPulse.queueBeacon ‹SecondDue› (by simp [State.startPulse_tb])
        (by simp [State.startPulse_tb])
      simpa [State.KeptOrStepped] using this

theorem Timebase.with_advance (tb : Timebase) (acc : Int) (t : StationTime) (n : Nat) (d : Option SecondDue) :
    let u : Timebase := { ({ tb with acc := acc, time := t } : Timebase) with elapsed := n, secondDue := d }
    u.time = t ∧ u.acc = acc ∧ u.g = tb.g ∧ u.a = tb.a ∧ u.elapsed = n ∧ u.secondDue = d :=
  ⟨rfl, rfl, rfl, rfl, rfl, rfl⟩

/-- What one elapsed microsecond makes of the timebase's registers (R1, R3, R9). -/
theorem Timebase.tick_eq (tb : Timebase) :
    tb.tick.time = StationTime.ofInstant (min topInstant (tb.time.instant + (accumulate tb.acc tb.a).2))
      ∧ tb.tick.acc = (accumulate tb.acc tb.a).1 ∧ tb.tick.g = tb.g ∧ tb.tick.a = tb.a
      ∧ tb.tick.elapsed = tb.elapsed + 1
      ∧ tb.tick.secondDue =
          if tb.time.s < tb.advance.time.s then some ⟨tb.advance.time.s, false⟩ else tb.secondDue :=
  Timebase.with_advance tb _ _ _ _

/-- One elapsed microsecond moves station time on by 2 µs at most, and never back (R3). -/
theorem Timebase.tick_time (tb : Timebase) (top : tb.time.instant ≤ topInstant) :
    tb.time.instant ≤ tb.tick.time.instant ∧ tb.tick.time.instant ≤ tb.time.instant + 2 := by
  obtain ⟨time, -⟩ := tb.tick_eq
  have by' : (accumulate tb.acc tb.a).2 ≤ 2 := by
    unfold accumulate
    repeat' split
    all_goals simp
  rw [time, StationTime.instant_ofInstant]
  generalize topInstant = top at *
  omega

/-- What is still due of the microsecond before, and then the advance: a new generation by a step, or station time moves on
by 2 µs at most (R3, R6). -/
theorem State.advance_clock (s : State) (o : SecondOrder) (top : s.instant ≤ topInstant) :
    ((s.endMicrosecond o).tick.tb.g = s.tb.g
        ∧ s.instant ≤ (s.endMicrosecond o).tick.instant ∧ (s.endMicrosecond o).tick.instant ≤ s.instant + 2)
      ∨ (s.endMicrosecond o).tick.tb.g = (s.tb.g + 1) % 256 := by
  have ended : (s.endMicrosecond o).tick.tb = (s.deliverSecond o).tb.tick := by simp [State.endMicrosecond]
  obtain ⟨-, -, tickG, -⟩ := (s.deliverSecond o).tb.tick_eq
  simp only [State.instant, ended, tickG]
  rcases s.deliverSecond_clock o with ⟨time, g⟩ | g
  · have moved := (s.deliverSecond o).tb.tick_time (by rw [time]; exact top)
    rw [time] at moved
    exact .inl ⟨g, moved⟩
  · exact .inr g

/-- An elapsed microsecond makes a new generation, or moves station time on by 2 µs at most (R3, R6). -/
theorem State.microsecond_clock (s : State) (p : MicroPart) (o : SecondOrder) (top : s.instant ≤ topInstant)
    (same : (s.microsecond p o).tb.g = s.tb.g) :
    s.instant ≤ (s.microsecond p o).instant ∧ (s.microsecond p o).instant ≤ s.instant + 2 := by
  cases p with
  | signal =>
    rcases s.deliverSecond_clock o with ⟨time, -⟩ | g
    · simp [State.microsecond, State.instant, time]
    · simp only [State.microsecond] at same
      omega
  | advance =>
    rcases s.advance_clock o top with ⟨-, moved⟩ | g
    · exact moved
    · simp only [State.microsecond] at same
      omega
  | whole =>
    have second := (s.endMicrosecond o).tick.deliverSecond_clock o
    simp only [State.microsecond] at same ⊢
    rcases s.advance_clock o top with ⟨g, moved⟩ | g <;> rcases second with ⟨time', g'⟩ | g'
    · rw [State.instant.eq_1 (State.deliverSecond ..), time']
      exact moved
    all_goals omega

/-- Settles O11: every command by its effect on the timebase; an elapsed microsecond by the steps its rounds may make. -/
theorem stationTimeMovesByAdvanceOrStep : Obligations.StationTimeMovesByAdvanceOrStep := by
  intro c s t running h stays top
  cases exec_timeEffect c s t h with
  | kept tb => simp [tb]
  | pulseEnds => simp
  | microsecond p o =>
    exact ⟨fun same => .inr ⟨⟨p, o, rfl⟩, s.microsecond_clock p o top same⟩, fun _ => .inl ⟨p, o, rfl⟩⟩
  | set gs asked tb =>
    have g : t.tb.g = (s.tb.g + 1) % 256 := by rw [tb]; exact State.step_g ..
    exact ⟨fun same => by omega, fun _ => .inr ⟨gs, rfl⟩⟩
  | reset k => simp [State.enterReset] at stays
  | start i k held => simp [held] at running

/-! ### The ranges of the rates (R2, R3, R4, R42) -/

/-- The ranges are of the timebase and of F alone. -/
theorem State.RatesInRange.of_eq {s t : State} (h : s.RatesInRange) (tb : t.tb = s.tb) (f : t.agr.f = s.agr.f) :
    t.RatesInRange := by
  simpa [State.RatesInRange, tb, f] using h

/-- The rate accumulator stays strictly below its carry (R3). -/
theorem accumulate_natAbs_lt (acc a : Int) (hacc : acc.natAbs < 16777216) (ha : a.natAbs ≤ 3355) :
    (accumulate acc a).1.natAbs < 16777216 := by
  unfold accumulate
  repeat' split
  all_goals simp only [carry] at *; omega

/-- A clamped value lies between its limits. -/
theorem clampInt_natAbs_le (n : Nat) (x : Int) : (clampInt (-n) n x).natAbs ≤ n := by
  simp only [clampInt]
  omega

theorem StationTime.ofInstant_u_lt (n : Nat) : (StationTime.ofInstant n).u < 1000000 := Nat.mod_lt _ (by decide)

/-- An elapsed microsecond keeps the ranges (R3). -/
theorem State.RatesInRange.tick {s : State} (h : s.RatesInRange) : s.tick.RatesInRange := by
  obtain ⟨a, acc, f, g, -⟩ := h
  obtain ⟨time, acc', g', a', -⟩ := s.tb.tick_eq
  simp only [State.RatesInRange, State.tick_tb, State.tick_agr, time, acc', g', a']
  exact ⟨a, accumulate_natAbs_lt _ _ acc a, f, g, StationTime.ofInstant_u_lt _⟩

/-- A step leaves every rate in its range where F lies in its own (R4, R6). -/
theorem State.step_ratesInRange (s : State) (c : Int) (w : StepCause) (n : AgreementState) (gs : List Nat)
    (f : s.agr.f.natAbs ≤ 2516) : (State.step s c w n gs).RatesInRange := by
  simp only [State.RatesInRange, State.step_tb, State.step_agr]
  exact ⟨clampInt_natAbs_le 3355 _, (by simp [Timebase.stepTo]), f, Nat.mod_lt _ (by decide),
    StationTime.ofInstant_u_lt _⟩

/-- A rate written is in its range (R4). -/
theorem State.RatesInRange.writeA {s : State} (h : s.RatesInRange) (a : Int) : (s.writeA a).RatesInRange := by
  obtain ⟨-, acc, f, g, u⟩ := h
  exact ⟨clampInt_natAbs_le 3355 _, acc, f, g, u⟩

/-- A slew keeps the ranges (R49). -/
theorem State.RatesInRange.slew {s : State} (h : s.RatesInRange) (c : Int) : (s.slew c).RatesInRange := by
  obtain ⟨-, acc, -, g, u⟩ := h
  exact ⟨clampInt_natAbs_le 3355 _, acc, clampInt_natAbs_le 2516 _, g, u⟩

/-- The state a round enters is no part of the ranges. -/
theorem State.enterState_agr (s : State) (n : AgreementState) : (s.enterState n).agr = { s.agr with state := n } := by
  simp [State.enterState]

/-- The decision of a round keeps the ranges (R49 to R52). -/
theorem State.RatesInRange.applyDecision {s : State} (h : s.RatesInRange) (d : Decision) (gs : List Nat) :
    (s.applyDecision d gs).RatesInRange := by
  have counts : (s.setCounts d).RatesInRange := h
  have enters : ∀ u : State, u.RatesInRange → (u.enterState d.state).RatesInRange := fun u hu =>
    hu.of_eq (by simp) (by simp [State.enterState_agr])
  unfold State.applyDecision
  dsimp only
  split
  · exact enters _ (counts.slew _)
  · exact enters _ (counts.writeA _)
  · exact enters _ (counts.writeA _)
  · exact State.step_ratesInRange _ _ _ _ _ h.2.2.1

/-- An agreement round keeps the ranges (R45). -/
theorem State.RatesInRange.roundIfBoundary {s : State} (h : s.RatesInRange) (d : SecondDue) (gs : List Nat) :
    (s.roundIfBoundary d gs).RatesInRange := by
  unfold State.roundIfBoundary
  split
  · have held : (s.endHold.mapPeers Peer.takeStock).RatesInRange := h
    exact (held.applyDecision _ gs).of_eq rfl rfl
  · exact h

/-- A station second delivered keeps the ranges (R11). -/
theorem State.RatesInRange.deliverSecond {s : State} (h : s.RatesInRange) (o : SecondOrder) :
    (s.deliverSecond o).RatesInRange := by
  unfold State.deliverSecond
  split
  · exact h
  · have queued : s.takeSecond.startPulse.queueBeacon.RatesInRange := by
      simpa [State.RatesInRange, State.startPulse_tb] using h
    have evaluated : ∀ u : State, u.RatesInRange → u.evaluate.RatesInRange := fun u hu => hu.of_eq (by simp) (by simp)
    dsimp only
    split
    · exact (evaluated _ queued).roundIfBoundary _ _
    · exact evaluated _ (queued.roundIfBoundary _ _)

/-- An elapsed microsecond keeps the ranges, whichever part of it is taken (R3, R11). -/
theorem State.RatesInRange.microsecond {s : State} (h : s.RatesInRange) (p : MicroPart) (o : SecondOrder) :
    (s.microsecond p o).RatesInRange := by
  have ended : (s.endMicrosecond o).RatesInRange := (h.deliverSecond o).of_eq (by simp [State.endMicrosecond])
    (by simp [State.endMicrosecond])
  cases p with
  | whole => exact ended.tick.deliverSecond o
  | advance => exact ended.tick
  | signal => exact h.deliverSecond o

end Sys2Proof.Machine
end

section
/-! PROOFS. The rates stay in their ranges (R2, R3, R4, R42), through START too (R18). -/

namespace Sys2Proof.Machine

/-- The latest valid checkpoint that START finds in an array (R173). -/
def foundCheckpoint (pages : List Page) : Option Checkpoint :=
  (Store.cleared pages).findings.checkpoint.map Prod.snd

/-- START's timebase: initialised, run on to the START record, and run on to the end (R18, R188). -/
theorem State.runStart_tb (s : State) (k : ResetCause) (i : StartInputs) :
    (s.runStart k i).tb =
        ((Timebase.initial (foundCheckpoint s.store.pages) i.initAt).runTo i.recordAt).runTo i.endAt
      ∧ (s.runStart k i).agr = Agreement.free (recoveredF (foundCheckpoint s.store.pages)) := by
  unfold State.runStart
  dsimp only
  split <;> simp [State.begin, State.recordStart, State.initialise, foundCheckpoint, State.clearVolatile]

/-- The frequency term taken up at START is in its range (R42). -/
theorem recoveredF_natAbs_le (ck : Option Checkpoint) : (recoveredF ck).natAbs ≤ 2516 := by
  cases ck with
  | none => simp [recoveredF]
  | some c => exact clampInt_natAbs_le 2516 _

theorem Timebase.with_elapsed (tb : Timebase) (n : Nat) :
    ({ tb with elapsed := n } : Timebase).acc = tb.acc ∧ ({ tb with elapsed := n } : Timebase).a = tb.a
      ∧ ({ tb with elapsed := n } : Timebase).time = tb.time ∧ ({ tb with elapsed := n } : Timebase).g = tb.g :=
  ⟨rfl, rfl, rfl, rfl⟩

/-- What running on within START leaves of the timebase (R18). -/
theorem Timebase.runTo_eq (tb : Timebase) (n : Nat) :
    (tb.runTo n).acc = (tb.advanceBy (n - tb.elapsed)).acc ∧ (tb.runTo n).a = (tb.advanceBy (n - tb.elapsed)).a
      ∧ (tb.runTo n).time = (tb.advanceBy (n - tb.elapsed)).time ∧ (tb.runTo n).g = (tb.advanceBy (n - tb.elapsed)).g :=
  Timebase.with_elapsed _ _

theorem Timebase.with_time_kept (tb : Timebase) (acc : Int) (t : StationTime) :
    let u : Timebase := { tb with acc := acc, time := t }
    u.acc = acc ∧ u.time = t ∧ u.g = tb.g ∧ u.hold = tb.hold ∧ u.pulseEnd = tb.pulseEnd
      ∧ u.secondsKnown = tb.secondsKnown ∧ u.secondDue = tb.secondDue ∧ u.elapsed = tb.elapsed :=
  ⟨rfl, rfl, rfl, rfl, rfl, rfl, rfl, rfl⟩

/-- What an advance makes of the timebase's registers (R3). -/
theorem Timebase.advance_eq (tb : Timebase) :
    tb.advance.acc = (accumulate tb.acc tb.a).1
      ∧ tb.advance.time = StationTime.ofInstant (min topInstant (tb.time.instant + (accumulate tb.acc tb.a).2))
      ∧ tb.advance.g = tb.g ∧ tb.advance.hold = tb.hold ∧ tb.advance.pulseEnd = tb.pulseEnd
      ∧ tb.advance.secondsKnown = tb.secondsKnown ∧ tb.advance.secondDue = tb.secondDue
      ∧ tb.advance.elapsed = tb.elapsed :=
  Timebase.with_time_kept tb _ _

/-- Running on within START keeps the registers that an advance does not name (R18). -/
theorem Timebase.advanceBy_kept (tb : Timebase) (n : Nat) :
    (tb.advanceBy n).g = tb.g ∧ (tb.advanceBy n).hold = tb.hold ∧ (tb.advanceBy n).pulseEnd = tb.pulseEnd
      ∧ (tb.advanceBy n).secondsKnown = tb.secondsKnown ∧ (tb.advanceBy n).secondDue = tb.secondDue
      ∧ (tb.advanceBy n).elapsed = tb.elapsed := by
  induction n with
  | zero => simp [Timebase.advanceBy]
  | succ n ih => simp only [Timebase.advanceBy, Timebase.advance_eq, ih, and_self]

/-- The timebase's own ranges (R2, R3, R4). -/
def Timebase.InRange (tb : Timebase) : Prop :=
  tb.a.natAbs ≤ 3355 ∧ tb.acc.natAbs < 16777216 ∧ tb.g < 256 ∧ tb.time.u < 1000000

/-- Running on within START keeps the ranges (R18). -/
theorem Timebase.InRange.advanceBy {tb : Timebase} (h : tb.InRange) (n : Nat) : (tb.advanceBy n).InRange := by
  induction n with
  | zero => exact h
  | succ n ih =>
    obtain ⟨a, acc, g, -⟩ := ih
    obtain ⟨acc', time', g', -⟩ := (tb.advanceBy n).advance_eq
    simp only [Timebase.InRange, Timebase.advanceBy, acc', time', g', Timebase.advance_a]
    exact ⟨a, accumulate_natAbs_lt _ _ acc a, g, StationTime.ofInstant_u_lt _⟩

theorem Timebase.InRange.runTo {tb : Timebase} (h : tb.InRange) (n : Nat) : (tb.runTo n).InRange := by
  obtain ⟨acc, a, time, g⟩ := tb.runTo_eq n
  simpa [Timebase.InRange, acc, a, time, g] using h.advanceBy (n - tb.elapsed)

/-- A completed START leaves the rates in their ranges (R18, R42). -/
theorem State.runStart_ratesInRange (s : State) (k : ResetCause) (i : StartInputs) :
    (s.runStart k i).RatesInRange := by
  obtain ⟨tb, agr⟩ := s.runStart_tb k i
  have initial : (Timebase.initial (foundCheckpoint s.store.pages) i.initAt).InRange :=
    ⟨clampInt_natAbs_le 3355 _, by simp [Timebase.initial, Timebase.cleared],
      by simp [Timebase.initial, Timebase.cleared], by simp [Timebase.initial]⟩
  obtain ⟨a, acc, g, u⟩ := (initial.runTo i.recordAt).runTo i.endAt
  rw [← tb] at a acc g u
  refine ⟨a, acc, ?_, g, u⟩
  rw [agr]
  exact recoveredF_natAbs_le _

/-- Every command keeps the ranges. -/
theorem exec_ratesInRange (c : Instr) (s t : State) (h : s.RatesInRange) (e : exec c s = .next t) : t.RatesInRange := by
  cases exec_timeEffect c s t e with
  | kept tb agr => exact h.of_eq tb (by rw [agr])
  | pulseEnds => exact h
  | microsecond p o => exact h.microsecond p o
  | set gs asked tb agr =>
    obtain ⟨-, -, f, -⟩ := h
    exact (State.step_ratesInRange s.popRequest.knowSeconds _ _ _ _ f).of_eq tb (by rw [agr]; rfl)
  | reset k =>
    simp [State.RatesInRange, State.enterReset, State.clearVolatile, Timebase.cleared, Agreement.free, StationTime.zero]
  | start i k => exact s.runStart_ratesInRange k i

/-- Settles O12: every command by its effect on the timebase, each of which keeps the ranges. -/
theorem ratesStayInRange : Obligations.RatesStayInRange := by
  intro s t h e
  unfold step at e
  split at e
  · obtain rfl := Host.Outcome.next.inj e
    exact h
  · rename_i c rest _
    exact exec_ratesInRange c (s.withPending rest) t h e


end Sys2Proof.Machine
end

section
/-! PROOFS. The part right after reset, the mark monitor (R13 to R16), the rate's writing (R49, R51) and an elapsed microsecond
(R1, R3, R9). -/

namespace Sys2Proof.Machine

/-! ### The part right after reset -/

/-- A blank array holds no checkpoint. -/
theorem Store.checkpoints_cleared_blank : (Store.cleared blankArray).checkpoints = [] := by
  simp only [Store.checkpoints, Store.cleared, Image.empty, blankArray, List.flatMap_map, Option.toList_none,
    List.nil_append, List.flatMap_eq_nil_iff]
  intro n _
  simp [Page.blankOf]

/-- Settles O4: each invariant by its own definition. -/
theorem invariantsHoldAtReset : Obligations.InvariantsHoldAtReset := by
  refine ⟨?rates, ?log, ?bounded, ?groups, ?locked, ?shift⟩
  case rates => simp [State.RatesInRange, State.reset, Timebase.cleared, Agreement.free, StationTime.zero]
  case log => simp [TripLog.Consecutive, State.reset, TripLog.empty]
  case bounded =>
    simp [State.Bounded, State.reset, TripLog.empty, RequestHandler.cleared, LineController.cleared, Store.cleared]
  case groups =>
    refine ⟨rfl, fun x hx => ?_⟩
    obtain rfl : x = Group.idle := List.eq_of_mem_replicate hx
    simp [Group.Ranked, Group.idle, bestRanked, firstTimed]
  case locked => intro running; cases running
  case shift =>
    refine ⟨⟨rfl, rfl, Nat.zero_le _⟩, ?_, ?_⟩
    · simp [State.CountsCredited, State.reset, Tally.blank]
    · intro c hc
      rw [show State.reset.store.checkpoints = [] from Store.checkpoints_cleared_blank] at hc
      cases hc

/-! ### The mark monitor (R13 to R16) -/

/-- A first mark has no interval to be judged by (R14). -/
theorem MarkMonitor.take_first (m : MarkMonitor) (now u : Nat) (first : m.prev = none) :
    m.take now u = ⟨some now, 0, m.valid, some (phaseError u)⟩ := by
  simp [MarkMonitor.take, first]

/-- A mark at a consistent interval lengthens the run (R14). -/
theorem MarkMonitor.take_consistent (m : MarkMonitor) (now u p : Nat) (prev : m.prev = some p)
    (within : p + 999000 ≤ now ∧ now ≤ p + 1001000) :
    m.take now u = ⟨some now, min 3 (m.run + 1), m.valid || decide (3 ≤ m.run + 1), some (phaseError u)⟩ := by
  have : consistentInterval (now - p) = true := by
    simp only [consistentInterval, decide_eq_true_eq]
    omega
  simp [MarkMonitor.take, prev, this]

/-- A mark at any other interval ends the run and the validity (R14). -/
theorem MarkMonitor.take_inconsistent (m : MarkMonitor) (now u p : Nat) (prev : m.prev = some p)
    (without : ¬(p + 999000 ≤ now ∧ now ≤ p + 1001000)) :
    m.take now u = ⟨some now, 0, false, some (phaseError u)⟩ := by
  have : consistentInterval (now - p) = false := by
    simp only [consistentInterval, decide_eq_false_iff_not]
    omega
  simp [MarkMonitor.take, prev, this]

/-- A mark is taken while the part runs and marks are enabled (R13). -/
theorem exec_mark_enabled (s : State) (running : s.phase = .running) (on : s.cfg.markEnable = true) :
    exec .mark s = .next { s with marks := s.marks.take s.tb.elapsed s.tb.time.u } := by
  simp [exec, execMark, State.isRunning, running, on]

/-- A mark times out where the previous one lies 1,500,000 µs back (R15). -/
theorem exec_markTimeout_reached (s : State) (running : s.phase = .running)
    (past : ∃ p, s.marks.prev = some p ∧ p + 1500000 ≤ s.tb.elapsed) :
    exec .markTimeout s = .next { s with marks := MarkMonitor.cleared } := by
  obtain ⟨p, prev, past⟩ := past
  simp [exec, execMarkTimeout, State.isRunning, running, State.reached, prev, past]

/-- It does not while the previous one lies less far back (R15). -/
theorem exec_markTimeout_ahead (s : State) (p : Nat) (prev : s.marks.prev = some p)
    (ahead : s.tb.elapsed < p + 1500000) : exec .markTimeout s = .next s := by
  simp [exec, execMarkTimeout, State.reached, prev, ahead]

/-- The phase error reaches the nearest whole second, an exact half second rounded up (R16). -/
theorem phaseError_nearest (u : Nat) (h : u < 1000000) :
    (1000000 : Int) ∣ (u : Int) + phaseError u ∧ -500000 < phaseError u ∧ phaseError u ≤ 500000 := by
  unfold phaseError
  split <;> omega

/-- Settles O7: by the three cases of the interval and the two halves of a second. -/
theorem markIsJudgedByItsInterval : Obligations.MarkIsJudgedByItsInterval := by
  intro s running
  refine ⟨fun off => by simp [exec, execMark, off], fun on => ?_⟩
  rw [exec_mark_enabled s running on]
  refine ⟨(s.marks.take s.tb.elapsed s.tb.time.u).run, (s.marks.take s.tb.elapsed s.tb.time.u).valid,
    phaseError s.tb.time.u, rfl, fun first => ?_, fun p prev => ⟨fun within => ?_, fun without => ?_⟩,
    phaseError_nearest _⟩
  · simp [s.marks.take_first _ _ first]
  · rw [s.marks.take_consistent _ _ p prev within]
    simp only [Bool.or_eq_true, decide_eq_true_eq, true_and]
    rw [show min 3 (s.marks.run + 1) = 3 ↔ 3 ≤ s.marks.run + 1 by omega]
  · simp [s.marks.take_inconsistent _ _ p prev without]

/-- Settles O8: a mark taken first ends the wait, and one taken after the timeout is a first mark. -/
theorem markTimesOut : Obligations.MarkTimesOut := by
  intro s p running prev
  refine ⟨exec_markTimeout_ahead s p prev, fun past => ?_⟩
  have timeout := exec_markTimeout_reached s running ⟨p, prev, past⟩
  refine ⟨timeout, fun on =>
    ⟨⟨_, exec_mark_enabled s running on, ?_⟩, _, _, timeout, exec_mark_enabled _ running on, ?_⟩⟩
  · rw [s.marks.take_inconsistent _ _ p prev (by omega)]
    exact ⟨rfl, rfl, rfl, exec_markTimeout_ahead _ s.tb.elapsed rfl (Nat.lt_add_of_pos_right (by decide))⟩
  · rw [MarkMonitor.cleared.take_first _ _ rfl]
    exact ⟨rfl, rfl, rfl⟩

/-! ### The rate (R4, R49, R51) -/

/-- A value within its limits is not changed by the clamp. -/
theorem clampInt_of_natAbs_le (n : Nat) (x : Int) (h : x.natAbs ≤ n) : clampInt (-n) n x = x := by
  simp only [clampInt]
  omega

/-- A rate within ±3355 is written as it is (R4). -/
theorem State.writeA_of_natAbs_le (s : State) (a : Int) (h : a.natAbs ≤ 3355) :
    s.writeA a = { s with tb := { s.tb with a := a } } := by
  have kept : clampInt (-3355) 3355 a = a := clampInt_of_natAbs_le 3355 a h
  simp only [State.writeA, kept]

/-- Settles O13: the terms are the definition, and the limited slew lies within the clamp of A. -/
theorem slewWritesTheRate : Obligations.SlewWritesTheRate := by
  intro s c p f
  refine ⟨rfl, fun small => ?_⟩
  intro room a
  have within : a.natAbs ≤ 3355 := by omega
  exact ⟨s.writeA_of_natAbs_le a within, within, s.writeA_of_natAbs_le _ small⟩

/-! ### An elapsed microsecond (R1, R3, R9) -/

/-- A running part takes the part of the microsecond that the command names (R3). -/
theorem exec_elapsedMicrosecond_running (s : State) (p : MicroPart) (o : SecondOrder) (running : s.phase = .running) :
    exec (.elapsedMicrosecond p o) s = .next (s.microsecond p o) := by
  simp [exec, execElapsedMicrosecond, State.isRunning, running]

/-- A part held in reset counts no microsecond (R1). -/
theorem exec_elapsedMicrosecond_held (s : State) (p : MicroPart) (o : SecondOrder) (held : s.phase ≠ .running) :
    exec (.elapsedMicrosecond p o) s = .next s := by
  simp [exec, execElapsedMicrosecond, State.isRunning, held]

/-- Once what is due of the microsecond before is delivered, ending that microsecond queues the answer alone. -/
theorem State.endMicrosecond_of_none (s : State) (o : SecondOrder) (none : s.tb.secondDue = none) :
    s.endMicrosecond o = s.endClearFlags := by
  rw [State.endMicrosecond, s.deliverSecond_of_none o none]

/-- A second service of a CLEAR FLAGS leaves no answer due (R184, log entry 42). -/
theorem State.endClearFlags_twice (s : State) : s.endClearFlags.endClearFlags = s.endClearFlags := by
  by_cases held : ∃ r, s.req.service = some (.clearFlags r)
  · obtain ⟨r, held⟩ := held
    refine State.endClearFlags_of_none _ fun q => ?_
    rw [s.endClearFlags_of r held]
    unfold State.answer State.send State.emit
    dsimp only
    split <;> simp
  · rw [s.endClearFlags_of_none (by simpa using held), s.endClearFlags_of_none (by simpa using held)]

/-- An answer of a CLEAR FLAGS that is due is queued by the next CLEAR_FLAGS (log entry 42). -/
theorem exec_clearFlags_held (s : State) (r : Request) (running : s.phase = .running)
    (held : s.req.service = some (.clearFlags r)) : exec .clearFlags s = .next s.endClearFlags := by
  simp [exec, execClearFlags, State.clearingHeld, running, held]

/-- The two values of an accumulation, by R3's cases. -/
theorem accumulate_eq (acc a : Int) :
    accumulate acc a =
      (if 16777216 ≤ acc + a then acc + a - 16777216 else if acc + a ≤ -16777216 then acc + a + 16777216 else acc + a,
        if 16777216 ≤ acc + a then 2 else if acc + a ≤ -16777216 then 0 else 1) := by
  unfold accumulate carry
  repeat' split
  all_goals rfl

/-- What an advance of the timebase makes of a state with nothing due, with R3's cases written out. -/
theorem State.tick_eq (s : State) (none : s.tb.secondDue = none) :
    let sum := s.tb.acc + s.tb.a
    let acc := if 16777216 ≤ sum then sum - 16777216 else if sum ≤ -16777216 then sum + 16777216 else sum
    let by' := if 16777216 ≤ sum then 2 else if sum ≤ -16777216 then 0 else 1
    let n := min topInstant (s.tb.time.s * 1000000 + s.tb.time.u + by')
    s.tick = { s with
      tb := { s.tb with
        elapsed := s.tb.elapsed + 1
        acc := acc
        time := ⟨n / 1000000, n % 1000000⟩
        secondDue := if s.tb.time.s < n / 1000000 then some ⟨n / 1000000, false⟩ else Option.none } } := by
  simp only [State.tick, Timebase.tick, Timebase.advance, accumulate_eq, StationTime.ofInstant, StationTime.instant,
    none]

/-- Settles O5: what is due is delivered once, and the advance is R3's accumulation by its cases. -/
theorem elapsedMicrosecondAdvances : Obligations.ElapsedMicrosecondAdvances := by
  refine ⟨?split, ?due, ?advance⟩
  case split =>
    intro s t o h
    by_cases running : s.phase = .running
    · rw [exec_elapsedMicrosecond_running s _ o running] at h
      obtain rfl := Host.Outcome.next.inj h
      rw [exec_elapsedMicrosecond_running s _ o running, exec_elapsedMicrosecond_running _ _ o (by simpa using running)]
      rfl
    · rw [exec_elapsedMicrosecond_held s _ o running] at h
      obtain rfl := Host.Outcome.next.inj h
      rw [exec_elapsedMicrosecond_held s _ o running, exec_elapsedMicrosecond_held s _ o running]
  case due =>
    intro s u v p o notSignal h
    by_cases running : s.phase = .running
    · rw [exec_elapsedMicrosecond_running s _ o running] at h
      obtain rfl := Host.Outcome.next.inj h
      have none : (s.microsecond .signal o).tb.secondDue = none := s.deliverSecond_secondDue o
      have running' : (s.microsecond .signal o).phase = .running := by simpa using running
      have advanced : ∀ x y : State, x.phase = .running → y.phase = .running →
          x.endMicrosecond o = y.endMicrosecond o →
          exec (.elapsedMicrosecond p o) x = exec (.elapsedMicrosecond p o) y := by
        intro x y hx hy e
        rw [exec_elapsedMicrosecond_running x p o hx, exec_elapsedMicrosecond_running y p o hy]
        cases p with
        | signal => exact absurd rfl notSignal
        | whole => simp only [State.microsecond, e]
        | advance => simp only [State.microsecond, e]
      refine ⟨advanced _ _ running running' ?_, fun r _ held h => ?_⟩
      · rw [State.endMicrosecond_of_none _ o none]
        rfl
      · rw [exec_clearFlags_held _ r running' held] at h
        obtain rfl := Host.Outcome.next.inj h
        refine advanced _ _ running' (by simpa using running') ?_
        rw [State.endMicrosecond_of_none _ o none, State.endMicrosecond_of_none _ o (by simpa using none),
          State.endClearFlags_twice]
    · rw [exec_elapsedMicrosecond_held s _ o running] at h
      obtain rfl := Host.Outcome.next.inj h
      exact ⟨rfl, fun r running' => absurd running' running⟩
  case advance =>
    intro s o running none notHeld
    rw [exec_elapsedMicrosecond_running s _ o running]
    simp only [State.microsecond, State.endMicrosecond_of_none s o none, s.endClearFlags_of_none notHeld]
    exact congrArg _ (s.tick_eq none)

end Sys2Proof.Machine
end

section
/-! PROOFS. The consumers of a station second (R11, R12, R35) and the elapsed-millisecond tick (R118, R119, R125). -/

namespace Sys2Proof.Machine

/-! ### A station second and its consumers (R11, R12, R35) -/

/-- The pulse end reached ends the pulse (R12). -/
theorem exec_secondMarkPulseEnd_reached (s : State) (e : Nat) (running : s.phase = .running)
    (pulse : s.tb.pulseEnd = some e) (reached : e ≤ s.tb.elapsed) :
    exec .secondMarkPulseEnd s = .next { s with tb := { s.tb with pulseEnd := none } } := by
  simp [exec, execSecondMarkPulseEnd, State.isRunning, running, State.reached, pulse, reached]

/-- It does not before (R12). -/
theorem exec_secondMarkPulseEnd_ahead (s : State) (e : Nat) (pulse : s.tb.pulseEnd = some e)
    (ahead : s.tb.elapsed < e) : exec .secondMarkPulseEnd s = .next s := by
  simp [exec, execSecondMarkPulseEnd, State.reached, pulse, ahead]

/-- Which station seconds are round boundaries (R11). -/
theorem State.isBoundary_iff (s : State) (d : SecondDue) :
    s.isBoundary d = true ↔ d.noRound = false ∧ s.cfg.roundLength ∣ d.s ∧ ∀ h, s.tb.hold = some h → h ≤ d.s := by
  unfold State.isBoundary
  cases s.tb.hold <;> simp [Nat.dvd_iff_mod_eq_zero, and_assoc]

/-- A second's boundary is judged by the round length and the round hold alone (R11). -/
theorem State.isBoundary_congr (s t : State) (d : SecondDue) (cfg : t.cfg = s.cfg) (hold : t.tb.hold = s.tb.hold) :
    t.isBoundary d = s.isBoundary d := by
  simp only [State.isBoundary, cfg, hold]

/-- The station second taken, the pulse started and the beacon queued, in one state (R11, R12). -/
theorem State.takeSecond_queued (s : State) :
    s.takeSecond.startPulse.queueBeacon =
      State.send { s with tb := { s.tb with
        secondDue := none
        pulseEnd := if s.quality = 3 then s.tb.pulseEnd else some (s.tb.elapsed + 10000) } } .beacon 31 [] := by
  have pulse : s.takeSecond.startPulse =
      { s with tb := { s.tb with
        secondDue := none
        pulseEnd := if s.quality = 3 then s.tb.pulseEnd else some (s.tb.elapsed + 10000) } } := by
    have q : s.takeSecond.quality = s.quality := rfl
    unfold State.startPulse
    rw [q]
    split <;> rfl
  rw [pulse, State.queueBeacon]

/-- A station second due, handed on in either order (R11). -/
theorem State.deliverSecond_of_some (s : State) (d : SecondDue) (o : SecondOrder) (due : s.tb.secondDue = some d) :
    s.deliverSecond o =
      if o.shiftFirst then s.takeSecond.startPulse.queueBeacon.evaluate.roundIfBoundary d o.closeFirst
      else (s.takeSecond.startPulse.queueBeacon.roundIfBoundary d o.closeFirst).evaluate := by
  simp only [State.deliverSecond, due]

/-- Settles O6: the boundary is judged alike before and after the evaluation, which keeps the timebase. -/
theorem stationSecondReachesItsConsumers : Obligations.StationSecondReachesItsConsumers := by
  refine ⟨fun s e running pulse => ⟨fun reached => ⟨exec_secondMarkPulseEnd_reached s e running pulse reached, rfl⟩,
    fun ahead => ⟨exec_secondMarkPulseEnd_ahead s e pulse ahead, by simp [State.smo, pulse]⟩⟩, fun s gs => rfl, ?_⟩
  intro s d gs running due boundary pulse t
  have queued : s.takeSecond.startPulse.queueBeacon = t := s.takeSecond_queued
  have judged : t.isBoundary d = s.isBoundary d := s.isBoundary_congr t d (by simp [t]) (by simp [t])
  have judged' : t.evaluate.isBoundary d = s.isBoundary d :=
    s.isBoundary_congr t.evaluate d (by simp [t]) (by simp [t])
  have delivered : ∀ first, exec (.elapsedMicrosecond .signal ⟨first, gs⟩) s =
      .next (if first then t.evaluate.roundIfBoundary d gs else (t.roundIfBoundary d gs).evaluate) := by
    intro first
    rw [exec_elapsedMicrosecond_running s _ _ running, State.microsecond, s.deliverSecond_of_some d _ due, queued]
  refine ⟨fun is => ?_, fun isNot first => ?_⟩
  · have is : s.isBoundary d = true := (s.isBoundary_iff d).2 is
    rw [delivered, delivered]
    simp [State.roundIfBoundary, judged, judged', is]
  · have isNot : s.isBoundary d = false := by
      rw [Bool.eq_false_iff]
      exact fun is => isNot ((s.isBoundary_iff d).1 is)
    rw [delivered]
    cases first <;> simp [State.roundIfBoundary, judged, judged', isNot]

/-! ### The elapsed-millisecond tick (R118, R119, R125) -/

/-- A list changed at one place, as a list with that place set. -/
theorem modifyAt_eq_set {α : Type} (f : α → α) (l : List α) (i : Nat) (d : α) :
    modifyAt f l i = l.set i (f (l.getD i d)) := by
  induction l generalizing i with
  | nil => rfl
  | cons x xs ih =>
    cases i with
    | zero => rfl
    | succ i => simp [modifyAt, ih i]

/-- The modes in which the unit turns (R111). -/
theorem Mode.running_iff (m : Mode) : m.running = true ↔ m ≠ .standstill ∧ m ≠ .isolated := by
  cases m <;> simp [Mode.running]

/-- The service tally has reached its threshold, where the limit sets one (R125). -/
theorem State.serviceReached_iff (s : State) :
    s.serviceReached = true ↔ s.cfg.serviceLimit ≠ 0 ∧ s.cfg.serviceLimit * 3600000 ≤ s.tally.service := by
  unfold State.serviceReached Configuration.serviceThreshold
  by_cases limit : s.cfg.serviceLimit = 0 <;> simp [limit]

/-- An elapsed count at a whole millisecond above 0 is a tick (R1, R118). -/
theorem exec_elapsedMillisecondTick_at (s : State) (running : s.phase = .running) (pos : 0 < s.tb.elapsed)
    (whole : s.tb.elapsed % 1000 = 0) : exec .elapsedMillisecondTick s = .next s.creditTick := by
  simp [exec, execElapsedMillisecondTick, State.isRunning, running, pos, whole]

/-- No other count is (R1). -/
theorem exec_elapsedMillisecondTick_between (s : State) (between : s.tb.elapsed = 0 ∨ s.tb.elapsed % 1000 ≠ 0) :
    exec .elapsedMillisecondTick s = .next s := by
  have : ¬(0 < s.tb.elapsed ∧ s.tb.elapsed % 1000 = 0) := by omega
  simp [exec, execElapsedMillisecondTick, this]

/-- A millisecond credited to the open shift (R118, R119). -/
theorem ShiftRecord.credit_eq (r : ShiftRecord) (m : Mode) :
    r.credit m = if r.powered < 4294967295 then
      { r with powered := r.powered + 1, durations := r.durations.set m.code (r.durations.getD m.code 0 + 1) }
    else r := by
  rw [ShiftRecord.credit, modifyAt_eq_set _ _ _ 0]
  rfl

/-- A millisecond counted in a latch whose onset lies earlier, or not (R113). -/
theorem StatusTest.count_eq (t : StatusTest) (now : Nat) (inShift : Bool) :
    t.count now inShift =
      if t.elapsed < now then { t with d := t.d + 1, ds := if inShift = true then t.ds + 1 else t.ds } else t := by
  cases inShift <;> rfl

/-- And in a candidate (R113). -/
theorem Candidate.count_eq (c : Candidate) (now : Nat) (inShift : Bool) :
    c.count now inShift =
      if c.elapsed < now then { c with d := c.d + 1, ds := if inShift = true then c.ds + 1 else c.ds } else c := by
  cases inShift <;> rfl

/-- A millisecond credited to the tallies and counted in the latch and the candidate (R113, R118, R119). -/
theorem Tally.credit_eq (t : Tally) (now : Nat) (inShift : Bool) :
    t.credit now inShift =
      { t with
        lifetime := t.lifetime.set t.accepted.code (min 140737488355327 (t.lifetime.getD t.accepted.code 0 + 1))
        service :=
          if t.accepted ≠ .standstill ∧ t.accepted ≠ .isolated then min 140737488355327 (t.service + 1) else t.service
        qual := t.qual.map fun q =>
          if q.elapsed < now then { q with d := q.d + 1, ds := if inShift = true then q.ds + 1 else q.ds } else q
        candidate := t.candidate.map fun c =>
          if c.elapsed < now then { c with d := c.d + 1, ds := if inShift = true then c.ds + 1 else c.ds } else c } := by
  simp only [Tally.credit, satInc, modifyAt_eq_set _ _ _ 0, StatusTest.count_eq, Candidate.count_eq, Mode.running_iff,
    tallyTop, Nat.min_comm]

/-- Settles O38: the credit of each block written out, then the service limit. -/
theorem tickCreditsOneMillisecond : Obligations.TickCreditsOneMillisecond := by
  refine ⟨fun s _ => exec_elapsedMillisecondTick_between s, ?tick, ?limit⟩
  case tick =>
    intro s running pos whole m turns room r v
    have credited : s.creditTallies = v := by
      simp only [State.creditTallies, ShiftRecord.credit_eq, Tally.credit_eq, decide_eq_true_eq]
      rfl
    rw [exec_elapsedMillisecondTick_at s running pos whole, State.creditTick, credited]
    exact ⟨fun t => by rw [if_pos ((Mode.running_iff _).2 t)], fun t => by rw [if_neg (mt (Mode.running_iff _).1 t)]⟩
  case limit =>
    intro s reached
    have judged : s.serviceReached = true ↔ reached := s.serviceReached_iff
    refine ⟨fun clear hit => ?_, fun no => ?_⟩
    · simp only [State.judgeService, clear, judged.2 hit]
      rfl
    · rw [State.judgeService, if_neg]
      rw [Bool.and_eq_true, judged]
      rcases no with set | far <;> simp [*]

end Sys2Proof.Machine
end

section
/-! PROOFS. The whole state a step leaves (R5, R6, R10, R50) and SET TIME (R7, R58, R183). -/

namespace Sys2Proof.Machine

/-! ### What the shift unit leaves of the log and the tallies (R136 to R140, R151) -/

/-- The log has taken at most `k` records more, where it had room for them, and the tallies' credits stand as they did. -/
def State.LogsAtMost (k : Nat) (s t : State) : Prop :=
  t.tally.lifetime = s.tally.lifetime ∧ t.tally.accepted = s.tally.accepted
    ∧ (s.log.records.length + k ≤ 256 →
        s.log.records <+: t.log.records ∧ t.log.records.length ≤ s.log.records.length + k)

/-- Nothing logged. -/
theorem State.LogsAtMost.of_eq {s t : State} (k : Nat) (log : t.log = s.log)
    (lifetime : t.tally.lifetime = s.tally.lifetime) (accepted : t.tally.accepted = s.tally.accepted) : State.LogsAtMost k s t :=
  ⟨lifetime, accepted, fun _ => by rw [log]; exact ⟨List.prefix_rfl, Nat.le_add_right _ _⟩⟩

/-- One stretch after another. -/
theorem State.LogsAtMost.trans {s t u : State} {k l : Nat} (h : State.LogsAtMost k s t) (h' : State.LogsAtMost l t u) :
    State.LogsAtMost (k + l) s u := by
  obtain ⟨lifetime, accepted, log⟩ := h
  obtain ⟨lifetime', accepted', log'⟩ := h'
  refine ⟨lifetime'.trans lifetime, accepted'.trans accepted, fun room => ?_⟩
  obtain ⟨grown, len⟩ := log (by omega)
  obtain ⟨grown', len'⟩ := log' (by omega)
  exact ⟨grown.trans grown', by omega⟩

/-- A record pushed where the log has room joins it (R79). -/
theorem TripLog.push_records (l : TripLog) (r : Record) (room : l.records.length < 256) :
    (l.push r).records = l.records ++ [r] := by
  simp [TripLog.push, room]

/-- A close appends one record (R140). -/
theorem State.closeShift_log (s : State) (r : ShiftRecord) (t : StationTime) (c : CloseCause) (n : ShiftRecord) :
    (s.closeShift r t c n).log = s.log.push ⟨s.log.next, s.dating, .shiftClose r.number c⟩ := by
  simp [State.closeShift, State.appendNow]

theorem State.closeShift_logs (s : State) (r : ShiftRecord) (t : StationTime) (c : CloseCause) (n : ShiftRecord) :
    State.LogsAtMost 1 s (s.closeShift r t c n) := by
  refine ⟨by simp [State.closeShift, State.zeroDs], by simp [State.closeShift, State.zeroDs], fun room => ?_⟩
  rw [s.closeShift_log, s.log.push_records _ (by omega)]
  exact ⟨List.prefix_append _ _, by simp⟩

/-- An evaluation appends one record for each close it makes (R138, R139). -/
theorem State.evaluateDepth_logs (k : Nat) (s : State) : State.LogsAtMost k s (s.evaluateDepth k) := by
  induction k generalizing s with
  | zero => exact .of_eq 0 rfl rfl rfl
  | succ k ih =>
    rw [State.evaluateDepth]
    split
    · split
      · exact Nat.add_comm k 1 ▸ (s.closeShift_logs _ _ _ _).trans (ih _)
      · split <;> exact .of_eq _ rfl rfl rfl
    · exact .of_eq _ rfl rfl rfl

theorem State.evaluate_logs (s : State) : State.LogsAtMost 2 s s.evaluate := s.evaluateDepth_logs 2

/-- The first evaluation closes once more at most (R151). -/
theorem State.firstEvaluation_logs (s : State) : State.LogsAtMost 3 s s.firstEvaluation := by
  have kept : ∀ u : State, u.log = s.log → u.tally = s.tally → State.LogsAtMost 3 s u.evaluate := fun u log tally =>
    (State.LogsAtMost.of_eq 1 log (by rw [tally]) (by rw [tally])).trans u.evaluate_logs
  unfold State.firstEvaluation
  dsimp only
  split
  · exact kept _ rfl rfl
  · exact kept _ rfl rfl
  · exact kept _ rfl rfl
  · split
    · exact kept _ rfl rfl
    · exact (s.endDeferral.closeShift_logs _ _ _ _).trans (State.evaluate_logs _)

/-- The second-mark pulse started or restarted, unless the quality is 3 (R12). -/
theorem State.startPulse_eq (s : State) :
    s.startPulse = { s with tb := { s.tb with
      pulseEnd := if s.quality = 3 then s.tb.pulseEnd else some (s.tb.elapsed + 10000) } } := by
  unfold State.startPulse
  split <;> rfl

/-! ### The whole state a step leaves (R5, R6, R10, R50) -/

/-- The target of a step, clamped to the range of station time (R2, R5). -/
theorem stepTarget_eq (n : Nat) (c : Int) : stepTarget n c = (max 0 (min 4294967295999999 ((n : Int) + c))).toNat := rfl

theorem stepTarget_cast (n : Nat) (c : Int) : 
    (stepTarget n c : Int) = max 0 (min 4294967295999999 ((n : Int) + c)) := by
  rw [stepTarget_eq]
  omega

/-- The round hold: a multiple of L, at least L seconds after the target, and the smallest (R6). -/
theorem roundHold_spec (l target : Nat) (pos : 1 ≤ l) :
    l ∣ roundHold l target ∧ target + l * 1000000 ≤ roundHold l target * 1000000
      ∧ roundHold l target * 1000000 < target + 2 * l * 1000000 := by
  have unit : 0 < l * 1000000 := by omega
  have exact' := Nat.div_add_mod (target + l * 1000000 + (l * 1000000 - 1)) (l * 1000000)
  have rest := Nat.mod_lt (target + l * 1000000 + (l * 1000000 - 1)) unit
  have scaled : roundHold l target * 1000000 =
      l * 1000000 * ((target + l * 1000000 + (l * 1000000 - 1)) / (l * 1000000)) := by
    rw [roundHold]
    ring
  refine ⟨Nat.dvd_mul_right _ _, ?_, ?_⟩ <;> omega

/-- Closing groups leaves the deferral of the schedule alone (R103, R151). -/
@[simp] theorem State.closeDue_deferred (s : State) (gs : List Nat) :
    (s.closeDue gs).shift.deferred = s.shift.deferred := by
  unfold State.closeDue
  induction gs generalizing s with
  | nil => rfl
  | cons g gs ih =>
    rw [List.foldl_cons, ih]
    unfold State.closeIfDue State.closeGroup
    dsimp only
    repeat' split
    all_goals simp [State.countFirstOut]

/-- A step up to its TIME_STEP record: station time moved, A = F written, and the groups named closed (R6, R104). -/
def State.stepLogged (s : State) (c : Int) (cause : StepCause) (new : AgreementState) (gs : List Nat) : State :=
  (((s.jump (stepTarget s.instant c) new).writeA s.agr.f).closeDue gs).appendNow
    (.timeStep ((stepTarget s.instant c : Int) - s.instant) cause)

/-- After its record a step tells the shift unit of the amount, of the quality, and of FREE left (R148, R149, R151). -/
theorem State.stepped_eq_stepLogged (s : State) (c : Int) (w : StepCause) (n : AgreementState) (gs : List Nat) :
    s.stepped c w n gs =
      (((s.stepLogged c w n gs).countStep ((stepTarget s.instant c : Int) - s.instant)).tellQuality
        s.agr.state).tellLeftFree s.agr.state :=
  rfl

@[simp] theorem State.stepLogged_kept (s : State) (c : Int) (w : StepCause) (n : AgreementState) (gs : List Nat) :
    (s.stepLogged c w n gs).tally = s.tally ∧ (s.stepLogged c w n gs).agr = { s.agr with state := n }
      ∧ (s.stepLogged c w n gs).shift.deferred = s.shift.deferred := by
  simp [State.stepLogged]

/-- Without a group to close, TIME_STEP is the record a step appends first, dated by what stands after it (R6, R77). -/
theorem State.stepLogged_log (s : State) (c : Int) (w : StepCause) (n : AgreementState) :
    (s.stepLogged c w n []).log = s.log.push ⟨s.log.next,
      ⟨StationTime.ofInstant (stepTarget s.instant c), (s.tb.g + 1) % 256, n.quality⟩,
      .timeStep ((stepTarget s.instant c : Int) - s.instant) w⟩ := by
  simp [State.stepLogged, State.closeDue, State.appendNow, State.dating, State.quality, Timebase.stepTo]

/-- What follows the record appends the first evaluation's closes and those of the second signalled (R10, R151). -/
theorem State.step_logs (s : State) (c : Int) (w : StepCause) (n : AgreementState) (gs : List Nat) :
    State.LogsAtMost 5 (s.stepLogged c w n gs) (State.step s c w n gs) := by
  have told : State.LogsAtMost 3 (s.stepLogged c w n gs) (s.stepped c w n gs) := by
    rw [State.stepped_eq_stepLogged]
    generalize counted : (s.stepLogged c w n gs).countStep ((stepTarget s.instant c : Int) - s.instant) = u
    have same : (u.tellQuality s.agr.state).log = (s.stepLogged c w n gs).log
        ∧ (u.tellQuality s.agr.state).tally = (s.stepLogged c w n gs).tally := by
      rw [← counted]
      unfold State.tellQuality
      split <;> exact ⟨rfl, rfl⟩
    obtain ⟨log, tally⟩ := same
    unfold State.tellLeftFree
    split
    · exact (State.LogsAtMost.of_eq 0 log (by rw [tally]) (by rw [tally])).trans (State.firstEvaluation_logs _)
    · exact .of_eq 3 log (by rw [tally]) (by rw [tally])
  rw [State.step_eq_stepped]
  split
  · have queued : State.LogsAtMost 0 (s.stepped c w n gs) (s.stepped c w n gs).startPulse.queueBeacon :=
      .of_eq 0 (by simp) (by simp) (by simp)
    exact (told.trans queued).trans (State.evaluate_logs _)
  · exact told.trans (.of_eq 2 rfl rfl rfl)

/-- Settles O9: the whole state by the step's stages in their order, and each register of the first part from what a
step leaves. -/
theorem stepMovesStationTime : Obligations.StepMovesStationTime := by
  refine ⟨?kept, ?whole, fun u => rfl, ?close⟩
  case kept =>
    intro s c w n gs pos target t
    have cast : (stepTarget s.instant c : Int) = target := stepTarget_cast s.instant c
    have tb : t.tb = _ := s.step_tb c w n gs
    obtain ⟨divides, least, most⟩ := roundHold_spec s.cfg.roundLength (stepTarget s.instant c) pos
    have logs : State.LogsAtMost 5 (s.stepLogged c w n gs) t := s.step_logs c w n gs
    obtain ⟨lifetime, accepted, log⟩ := logs
    have time : t.tb.time = StationTime.ofInstant (stepTarget s.instant c) := by rw [tb]; rfl
    refine ⟨⟨?_, ?_⟩, by rw [tb]; rfl, by rw [tb]; rfl, by rw [tb]; rfl, by rw [tb]; rfl, by rw [tb]; rfl,
      ⟨roundHold s.cfg.roundLength (stepTarget s.instant c), by rw [tb]; rfl, divides, ?_, ?_⟩,
      State.step_agr s c w n gs, State.step_marks s c w n gs, State.step_peers s c w n gs, ?_, by simp [t], by simp [t],
      by rw [lifetime]; simp, by rw [accepted]; simp, by simp [t]⟩
    · rw [← cast, time]
      exact congrArg _ (StationTime.instant_ofInstant _)
    · rw [time]
      exact StationTime.ofInstant_u_lt _
    · rw [← cast]; exact_mod_cast least
    · rw [← cast]; exact_mod_cast most
    · rintro rfl room
      rw [State.stepLogged_log, TripLog.push_records _ _ (by omega), List.length_append] at log
      obtain ⟨grown, -⟩ := log (by simp; omega)
      rw [time, show t.tb.g = (s.tb.g + 1) % 256 from State.step_g s c w n [], ← cast]
      exact grown
  case whole =>
    intro s c w n gs before target applied t moved logged counted told left pulse
    have movedEq : moved = (s.jump (stepTarget s.instant c) n).writeA s.agr.f := by
      have hold : t.tb.hold = some (roundHold s.cfg.roundLength (stepTarget s.instant c)) := by
        rw [s.step_tb c w n gs]
        rfl
      simp only [moved, hold]
      rfl
    have loggedEq : logged = s.stepLogged c w n gs := by
      have dating : (moved.closeDue gs).dating = ⟨moved.tb.time, moved.tb.g, n.quality⟩ := by
        simp [State.dating, State.quality, moved]
      rw [State.stepLogged, State.appendNow, ← movedEq, dating]
      rfl
    have toldEq : counted.tellQuality s.agr.state = told := by
      have quality : counted.quality = n.quality := by simp [State.quality, counted, loggedEq]
      rw [State.tellQuality, quality]
    have leftEq : s.stepped c w n gs = left := by
      have deferred : told.shift.deferred = s.shift.deferred := by
        rw [← toldEq, State.tellQuality]
        split <;> simp [counted, loggedEq, State.takeQuality, State.countStep]
      have state : told.agr.state = n := by simp [← toldEq, counted, loggedEq]
      rw [State.stepped_eq_stepLogged, ← loggedEq]
      change (counted.tellQuality s.agr.state).tellLeftFree s.agr.state = left
      rw [toldEq, State.tellLeftFree, deferred, state]
    have split : t = if s.tb.time.s < target / 1000000 then left.stepSecond else left := by
      rw [← leftEq]
      exact s.step_eq_stepped c w n gs
    refine ⟨fun second => ?_, fun none => ?_⟩
    · have pulsed : left.startPulse = { left with tb := { left.tb with pulseEnd := pulse } } := by
        rw [State.startPulse_eq, ← leftEq]
        simp [State.quality, Timebase.stepTo, pulse]
      have signalled : left.stepSecond =
          State.evaluate (State.send { left with tb := { left.tb with pulseEnd := pulse } } .beacon 31 []) := by
        rw [State.stepSecond, pulsed, State.queueBeacon]
      rw [split, if_pos second, signalled]
      have seq : left.senderSeq = s.senderSeq := by simp [← leftEq]
      exact ⟨rfl, by simp [State.send, seq], by simp⟩
    · rw [split, if_neg (Nat.not_lt.2 none), ← leftEq]
      simp [Timebase.stepTo]
  case close =>
    intro u v g gs running h
    obtain rfl := Host.Outcome.next.inj h
    rw [State.isRunning, running]
    rfl

/-! ### SET TIME (R7, R58, R183) -/

/-- A number of bytes lies below the power of 256 that they span (R36). -/
theorem beNat_lt (bs : List Byte) : beNat bs < 256 ^ bs.length := by
  induction bs using List.reverseRecOn with
  | nil => decide
  | append_singleton bs b ih =>
    have := b.isLt
    rw [beNat_append, List.length_append, List.length_singleton, Nat.pow_succ]
    omega

theorem fieldAt_lt (bs : List Byte) (i n : Nat) : fieldAt bs i n < 256 ^ n :=
  (beNat_lt _).trans_le (Nat.pow_le_pow_right (by decide) (List.length_take_le _ _))

/-- A step by the difference to a station time in range makes station time that one (R5, R7). -/
theorem stepTarget_of_difference (now asked : Nat) (top : asked ≤ 4294967295999999) :
    stepTarget now ((asked : Int) - now) = asked := by
  rw [stepTarget_eq]
  omega

theorem StationTime.ofInstant_instant (t : StationTime) (u : t.u < 1000000) :
    StationTime.ofInstant t.instant = t := by
  obtain ⟨s, u⟩ := t
  simp only [StationTime.ofInstant, StationTime.instant, StationTime.mk.injEq] at *
  omega

/-- An accepted SET TIME makes station time exactly the value asked, in the next generation (R7, R58). -/
theorem State.setTime_tb (s : State) (asked : StationTime) (gs : List Nat) (u : asked.u < 1000000)
    (top : asked.instant ≤ 4294967295999999) :
    (s.setTime asked gs).tb.time = asked ∧ (s.setTime asked gs).tb.g = (s.tb.g + 1) % 256
      ∧ (s.setTime asked gs).tb.secondsKnown = true := by
  have same : s.knowSeconds.instant = s.instant := rfl
  simp only [State.setTime, State.step_tb, Timebase.stepTo, same, stepTarget_of_difference _ _ top,
    asked.ofInstant_instant u]
  simp

/-- The operands of a SET TIME that passes the checks of R178 are a station time. -/
theorem Request.setTime_inRange (r : Request) (code : r.code = 14) (ok : r.acceptable = true) :
    fieldAt r.params 0 4 < 4294967296 ∧ fieldAt r.params 4 4 < 1000000 := by
  have seconds : fieldAt r.params 0 4 < 256 ^ 4 := fieldAt_lt ..
  simp only [Request.acceptable, code, parametersInRange, Bool.and_eq_true, decide_eq_true_eq] at ok
  obtain ⟨-, micros⟩ := ok
  omega

/-- SET TIME accepted: the step's effects come before its answer (R7, log entry 24). -/
theorem State.serveSetTime_accepted (s : State) (r : Request) (asked : StationTime) (gs : List Nat)
    (fields : asked = ⟨fieldAt r.params 0 4, fieldAt r.params 4 4⟩)
    (allowed : s.agr.state = .free ∨ s.marks.valid = true)
    (u : asked.u < 1000000) (top : asked.instant ≤ 4294967295999999) :
    s.serveSetTime gs r = (s.setTime asked gs).answer r .ok
      (beBytes 4 asked.s ++ beBytes 4 asked.u ++ beBytes 1 ((s.tb.g + 1) % 256)) := by
  obtain ⟨time, g, -⟩ := s.setTime_tb asked gs u top
  simp only [State.serveSetTime, if_pos allowed, ← fields, time, g, StationTime.bytes]

/-- Settles O10: the step made by the difference reaches the value asked exactly, since four bytes hold the seconds. -/
theorem setTimeSetsStationTime : Obligations.SetTimeSetsStationTime := by
  intro s r gs next code ok asked u v t
  have served : exec (.setTime gs) s = .next (s.popRequest.serveSetTime gs r) := by
    have := s.serve_acceptable r (State.serveSetTime gs) next ok
    rw [code] at this
    exact congrArg _ this
  have stepped : s.popRequest.setTime asked gs = t := rfl
  obtain ⟨seconds, micros⟩ := r.setTime_inRange code ok
  have top : asked.instant ≤ 4294967295999999 := by
    simp only [StationTime.instant, asked]
    omega
  obtain ⟨time, -, known⟩ := s.popRequest.setTime_tb asked gs micros top
  refine ⟨fun allowed => ⟨?_, time, known⟩, fun refused => ?_⟩
  · rw [served, s.popRequest.serveSetTime_accepted r asked gs rfl allowed micros top]
    rfl
  · rw [served, State.serveSetTime, if_neg (by simpa using refused)]

end Sys2Proof.Machine
end

section
/-! PROOFS. The configuration memory (R190, R191). -/

namespace Sys2Proof.Machine

/-! ### The configuration memory (R190, R191, R133) -/

/-- A memory passes its check by its length and the check over its first 254 bytes (R191). -/
theorem memoryCheckMatches_iff (m : List Byte) :
    memoryCheckMatches m = true ↔ m.length = 256 ∧ fieldAt m 254 2 = (crc (m.take 254)).toNat := by
  simp [memoryCheckMatches]

/-- A memory that fails its check gives the defaults (R191). -/
theorem loadConfiguration_of_bad (m : List Byte)
    (bad : m.length ≠ 256 ∨ fieldAt m 254 2 ≠ (crc (m.take 254)).toNat) :
    loadConfiguration (some m) = Configuration.defaults .faulted := by
  have fails : ¬memoryCheckMatches m = true := by
    rw [memoryCheckMatches_iff]
    tauto
  simp only [loadConfiguration, if_neg fails]

/-- One that passes it is loaded (R190). -/
theorem loadConfiguration_of_good (m : List Byte) (len : m.length = 256)
    (check : fieldAt m 254 2 = (crc (m.take 254)).toNat) : loadConfiguration (some m) = loadedConfiguration m := by
  simp only [loadConfiguration, if_pos ((memoryCheckMatches_iff m).2 ⟨len, check⟩)]

/-- The number of shifts per day taken is allowed, and no other allowed one is as near or is as near and lower (R133). -/
theorem nearestShifts_nearest (v : Nat) :
    nearestShifts v ∈ [1, 2, 3, 4, 6, 8] ∧ ∀ q ∈ [1, 2, 3, 4, 6, 8], q ≠ nearestShifts v →
      (v - nearestShifts v) + (nearestShifts v - v) < (v - q) + (q - v)
        ∨ ((v - nearestShifts v) + (nearestShifts v - v) = (v - q) + (q - v) ∧ nearestShifts v < q) := by
  simp only [List.mem_cons, List.not_mem_nil, or_false]
  unfold nearestShifts
  refine ⟨?_, fun q hq => ?_⟩
  · repeat' split
    all_goals omega
  · repeat' split
    all_goals omega

/-- Every field of a memory that has a range lies in it (R190). -/
theorem rangedFields_all_iff (m : List Byte) :
    ((rangedFields m).all fun (v, lo, hi) => decide (lo ≤ v) && decide (v ≤ hi)) = true ↔
      (∀ x ∈ rangedFields m, x.2.1 ≤ x.1 ∧ x.1 ≤ x.2.2) := by
  simp

/-- The bytes of a memory whose every field lies in its range (R59, R85, R94, R95, R111, R133, R163, R190). -/
theorem rangedFields_inRange_iff (m : List Byte) :
    let b := byteAt m
    let w := fieldAt m
    let p := nearestShifts (b 142)
    let lsh := 86400 / p
    (∀ x ∈ rangedFields m, x.2.1 ≤ x.1 ∧ x.1 ≤ x.2.2) ↔
      (∀ i < 16, b (3 * i) / 4 % 4 ≤ 2 ∧ b (3 * i + 1) ≤ 7 ∧ b (3 * i + 2) ≤ 127) ∧ (∀ i < 64, b (49 + i) ≤ 7)
      ∧ b 113 ≤ 120 ∧ b 114 ≤ 60 ∧ 1 ≤ b 118 ∧ b 118 ≤ 60 ∧ 3 ≤ b 119 ∧ b 119 ≤ 31 ∧ 10 ≤ w 120 2 ∧ w 120 2 ≤ 2000
      ∧ w 122 2 ≤ 500 ∧ w 124 2 ≤ 3600 ∧ 1 ≤ w 126 2 ∧ w 126 2 ≤ 256 ∧ 1 ≤ b 128 ∧ b 128 ≤ 64 ∧ 2 ≤ b 135 ∧ b 135 ≤ 16
      ∧ b 136 ≤ 3 ∧ 100 ≤ w 137 2 ∧ w 137 2 ≤ 50000 ∧ 1 ≤ b 139 ∧ b 140 ≤ 50 ∧ b 142 = p ∧ w 143 4 < lsh
      ∧ w 147 2 ≤ lsh / 2 ∧ w 149 2 ≤ lsh / 2 ∧ 10 ≤ w 151 2 ∧ w 151 2 ≤ 600 ∧ b 153 ≤ 3 := by
  intro b w p lsh
  have positive : 0 < lsh := by
    have := (nearestShifts_nearest (b 142)).1
    simp only [List.mem_cons, List.not_mem_nil, or_false] at this
    rcases this with h | h | h | h | h | h <;> simp [lsh, p, h]
  have byte : b 139 ≤ 255 := Nat.le_of_lt_succ (BitVec.isLt _)
  simp only [rangedFields, List.forall_mem_append, List.forall_mem_flatMap, List.forall_mem_map, List.mem_range,
    List.forall_mem_cons, List.not_mem_nil, false_imp_iff, implies_true, Nat.zero_le, true_and, and_true]
  have last : fieldAt m 143 4 ≤ lsh - 1 ↔ w 143 4 < lsh := Nat.le_sub_one_iff_lt positive
  have number : p ≤ byteAt m 142 ∧ byteAt m 142 ≤ p ↔ b 142 = p := le_antisymm_iff.symm.trans eq_comm
  rw [last, number]
  simp only [b, w, and_assoc, byte, true_and]
  rfl

/-- The status of a memory that passed its check: good when every field lies in its range, clamped otherwise (R191). -/
theorem loadedConfiguration_status (m : List Byte) :
    (loadedConfiguration m).status =
      if ∀ x ∈ rangedFields m, x.2.1 ≤ x.1 ∧ x.1 ≤ x.2.2 then .good else .clamped := by
  by_cases sound : ∀ x ∈ rangedFields m, x.2.1 ≤ x.1 ∧ x.1 ≤ x.2.2
  · rw [if_pos sound]
    simp only [loadedConfiguration, if_pos ((rangedFields_all_iff m).2 sound)]
  · rw [if_neg sound]
    simp only [loadedConfiguration, if_neg (mt (rangedFields_all_iff m).1 sound)]

/-- The class of an input, its code clamped to UNIT_TRIP (R191). -/
theorem InputClass.code_ofCode (n : Nat) : (InputClass.ofCode n).code = min 2 n := by
  match n with
  | 0 => rfl
  | 1 => rfl
  | n + 2 =>
    simp only [InputClass.ofCode, InputClass.code]
    omega

/-- The mode of a code, INVALID above 6 (R111). -/
theorem Mode.code_ofCode (n : Nat) : (Mode.ofCode n).map Mode.code = if n ≤ 6 then some n else none := by
  match n with
  | 0 | 1 | 2 | 3 | 4 | 5 | 6 => rfl
  | n + 7 => simp [Mode.ofCode]

/-- A bit of a loaded mask is that bit of the field (R190). -/
theorem getLsbD_ofNat_of_lt (w n k : Nat) (h : k < w) : (BitVec.ofNat w n).getLsbD k = n.testBit k := by
  rw [BitVec.getLsbD_ofNat, decide_eq_true h, Bool.true_and]

/-- The group reject bits leave bit 0 out (R190). -/
theorem getLsbD_groupReject (x : Byte) (k : Nat) (one : 1 ≤ k) (seven : k ≤ 7) :
    (x &&& 0xFE).getLsbD k = x.getLsbD k := by
  have bit : (0xFE : Byte).getLsbD k = true := by
    interval_cases k <;> rfl
  rw [BitVec.getLsbD_and, bit, Bool.and_true]

/-- The warning threshold of a selection (R190). -/
theorem warningThreshold_eq (n : Nat) :
    warningThreshold n = if n = 0 then 4200 else if n = 1 then 4350 else if n = 2 then 4500 else 4650 := by
  match n with
  | 0 | 1 | 2 => rfl
  | n + 3 => simp [warningThreshold]

theorem loadedConfiguration_inputs (m : List Byte) (i : Nat) (h : i < 16) :
    (loadedConfiguration m).inputs[i]? = some (loadInput m i) := by
  simp [loadedConfiguration, h]

theorem loadedConfiguration_modeTable (m : List Byte) (i : Nat) (h : i < 64) :
    (loadedConfiguration m).modeTable[i]? = some (Mode.ofCode (byteAt m (49 + i))) := by
  simp [loadedConfiguration, h]

/-- The holdover limit is a byte, so its upper limit clamps nothing (R43, R190). -/
theorem loadedConfiguration_holdoverLimit (m : List Byte) :
    (loadedConfiguration m).holdoverLimit = max 1 (byteAt m 139) := by
  have byte : byteAt m 139 ≤ 255 := Nat.le_of_lt_succ (BitVec.isLt _)
  simp only [loadedConfiguration, clampNat, Nat.min_eq_right byte]

/-- The table of defaults (R191). -/
theorem defaults_lists (status : ConfigStatus) :
    (∀ k ∈ (Configuration.defaults status).inputs, k.enabled = false)
      ∧ (∀ m ∈ (Configuration.defaults status).modeTable, m = some .standstill)
      ∧ ∀ k < 15, (Configuration.defaults status).alarmMask.getLsbD k = true := by
  refine ⟨fun k hk => ?_, fun m hm => List.eq_of_mem_replicate hm, fun k hk => ?_⟩
  · rw [List.eq_of_mem_replicate hk]
    rfl
  · simp only [Configuration.defaults, BitVec.getLsbD_allOnes, hk, decide_true]

end Sys2Proof.Machine
end

section
/-! PROOFS. The classes of a page and the newest record among pages (R172, R173). -/

namespace Sys2Proof.Machine

/-! ### The classes of a page (R172) -/

theorem Slot.written_eq (x : Slot) : x.written = !decide (x = .blank) := by
  simp [Slot.written]

/-- A page is blank when its every slot is (R172). -/
theorem Page.isBlank_eq (g : Page) : g.isBlank = g.slots.all fun x => decide (x = .blank) := by
  simp only [Page.isBlank, Slot.written_eq, Bool.not_not]

/-- No slot that is not blank follows a blank one. -/
theorem noGap_iff (l : List Slot) : noGap l = true ↔ l.Pairwise fun x y => x = .blank → y = .blank := by
  induction l with
  | nil => simp [noGap]
  | cons x xs ih =>
    rw [noGap, List.pairwise_cons]
    by_cases blank : x = .blank
    · have rest : (∀ y ∈ xs, y = .blank) → xs.Pairwise fun x y => x = .blank → y = .blank := fun all =>
        List.pairwise_iff_getElem.2 fun _ j _ hj _ _ => all _ (List.getElem_mem hj)
      simp only [Slot.written_eq, blank, decide_true, Bool.not_true, if_false, Bool.false_eq_true, List.all_eq_true,
        Bool.not_not, decide_eq_true_eq, forall_const]
      exact ⟨fun all => ⟨all, rest all⟩, And.left⟩
    · simp [Slot.written_eq, blank, ih]

/-- A used page, by R172: a valid slot, and no gap. -/
def Page.used (g : Page) : Bool :=
  g.slots.any Slot.isValid && decide (g.slots.Pairwise fun x y => x = .blank → y = .blank)

/-- A blank page is not used. -/
theorem Page.used_eq_false_of_isBlank (g : Page) (blank : g.isBlank = true) : g.used = false := by
  rw [Page.isBlank_eq, List.all_eq_true] at blank
  have none : g.slots.any Slot.isValid = false := by
    rw [List.any_eq_false]
    intro x hx
    rw [of_decide_eq_true (blank x hx)]
    simp [Slot.isValid]
  rw [Page.used, none, Bool.false_and]

/-- The three classes (R172). -/
theorem Page.classify_eq (g : Page) :
    g.classify = if g.isBlank then .blank else if g.used then .used else .inconsistent := by
  have gap : noGap g.slots = decide (g.slots.Pairwise fun x y => x = .blank → y = .blank) := by
    rw [Bool.eq_iff_iff, noGap_iff, decide_eq_true_iff]
  rw [Page.classify, Page.used, gap]

theorem Page.classify_used (g : Page) : g.classify = .used ↔ g.used = true := by
  rw [Page.classify_eq]
  cases blank : g.isBlank
  · cases g.used <;> simp
  · simp [g.used_eq_false_of_isBlank blank]

theorem Page.classify_blank (g : Page) : g.classify = .blank ↔ g.isBlank = true := by
  rw [Page.classify_eq]
  cases g.isBlank <;> cases g.used <;> simp

theorem Page.classify_inconsistent (g : Page) : g.classify = .inconsistent ↔ (g.isBlank || g.used) = false := by
  rw [Page.classify_eq]
  cases g.isBlank <;> cases g.used <;> simp

/-! ### The newest record (R173) -/

/-- The records of slots are the valid ones. -/
theorem mem_validRecords (slots : List Slot) (k : Nat) (x : StoredRecord) :
    (k, x) ∈ validRecords slots ↔ Slot.valid k x ∈ slots := by
  simp only [validRecords, List.mem_filterMap]
  constructor
  · rintro ⟨y, hy, e⟩
    split at e
    · cases e
      exact hy
    · cases e
  · exact fun h => ⟨_, h, rfl⟩

theorem newestRecord_append_singleton (l : List (Nat × StoredRecord)) (x : Nat × StoredRecord) :
    newestRecord (l ++ [x]) =
      match newestRecord l with
      | some b => if b.1 < x.1 then some x else some b
      | none => some x := by
  rw [newestRecord, List.foldl_append, ← newestRecord]
  cases newestRecord l <;> rfl

/-- The newest record is one of them, and none has a higher store sequence. -/
theorem newestRecord_spec (l : List (Nat × StoredRecord)) :
    (newestRecord l = none ∧ l = []) ∨ ∃ b, newestRecord l = some b ∧ b ∈ l ∧ ∀ x ∈ l, x.1 ≤ b.1 := by
  induction l using List.reverseRecOn with
  | nil => exact .inl ⟨rfl, rfl⟩
  | append_singleton l x ih =>
    right
    rw [newestRecord_append_singleton]
    rcases ih with ⟨e, rfl⟩ | ⟨b, e, mem, top⟩
    · exact ⟨x, by rw [e], by simp⟩
    · rw [e]
      by_cases lt : b.1 < x.1
      · refine ⟨x, by simp [lt], by simp, fun y hy => ?_⟩
        rcases List.mem_append.1 hy with hy | hy
        · exact (top y hy).trans lt.le
        · rw [List.mem_singleton.1 hy]
      · refine ⟨b, by simp [lt], by simp [mem], fun y hy => ?_⟩
        rcases List.mem_append.1 hy with hy | hy
        · exact top y hy
        · rw [List.mem_singleton.1 hy]
          omega

/-- A valid slot among some pages. -/
theorem Store.mem_recordsAmong (st : Store) (pages : List Nat) (k : Nat) (x : StoredRecord) :
    (k, x) ∈ pages.flatMap (fun p => validRecords (st.page p).slots) ↔
      ∃ p ∈ pages, Slot.valid k x ∈ (st.page p).slots := by
  simp [List.mem_flatMap, mem_validRecords]

/-- The newest record among some pages: there is none, or it is one of the highest store sequence (R173). -/
theorem Store.newestAmong_spec (st : Store) (pages : List Nat) :
    (st.newestAmong pages = none ∧ ∀ p ∈ pages, ∀ k x, Slot.valid k x ∉ (st.page p).slots)
      ∨ ∃ k x, st.newestAmong pages = some (k, x) ∧ (∃ p ∈ pages, Slot.valid k x ∈ (st.page p).slots)
          ∧ ∀ p ∈ pages, ∀ k' x', Slot.valid k' x' ∈ (st.page p).slots → k' ≤ k := by
  rcases newestRecord_spec (pages.flatMap fun p => validRecords (st.page p).slots) with
    ⟨e, none⟩ | ⟨⟨k, x⟩, e, mem, top⟩
  · refine .inl ⟨e, fun p hp k x hx => ?_⟩
    have := (st.mem_recordsAmong pages k x).2 ⟨p, hp, hx⟩
    rw [none] at this
    cases this
  · exact .inr ⟨k, x, e, (st.mem_recordsAmong pages k x).1 mem, fun p hp k' x' hx' =>
      top (k', x') ((st.mem_recordsAmong pages k' x').2 ⟨p, hp, hx'⟩)⟩

end Sys2Proof.Machine
end

section
/-! PROOFS. The ring of a region's pages, and each region as the scan settles it (R157, R172, R173). -/

namespace Sys2Proof.Machine

/-! ### The ring of a region's pages (R155, R157) -/

/-- The pages that follow page `p` in its region's ring, from the next one round to the one before it. -/
def Region.ring (r : Region) (p : Nat) : List Nat :=
  (r.pages.dropWhile (· ≠ p)).tail ++ r.pages.takeWhile (· ≠ p)

theorem Region.nodup_pages (r : Region) : r.pages.Nodup := by
  cases r <;> decide

/-- A page belongs to one region. -/
theorem Region.eq_of_mem_pages (r q : Region) (p : Nat) (hr : p ∈ r.pages) (hq : p ∈ q.pages) : r = q := by
  cases r <;> cases q <;> simp [Region.pages] at * <;> omega

theorem Region.page_lt (r : Region) (p : Nat) (h : p ∈ r.pages) : p < 16 := by
  cases r <;> simp [Region.pages] at h <;> omega

/-- The ring after a page holds pages of the region, and not the page itself. -/
theorem Region.mem_ring (r : Region) (a p : Nat) (h : p ∈ r.ring a) : p ∈ r.pages ∧ p ≠ a := by
  have nodup := r.nodup_pages
  rw [← List.takeWhile_append_dropWhile (p := (· ≠ a)) (l := r.pages)] at nodup
  rcases List.mem_append.1 h with after | before
  · refine ⟨(List.dropWhile_sublist _).mem (List.mem_of_mem_tail after), ?_⟩
    rintro rfl
    have nodup' := (List.nodup_append.1 nodup).2.1
    generalize e : r.pages.dropWhile (· ≠ p) = l at after nodup'
    cases l with
    | nil => cases after
    | cons x xs =>
      have head : x = p := by
        have := List.head?_dropWhile_not (· ≠ p) r.pages
        rw [e] at this
        simpa using this
      rw [head] at nodup'
      exact (List.nodup_cons.1 nodup').1 after
  · exact ⟨(List.takeWhile_sublist _).mem before, by simpa using List.mem_takeWhile_imp before⟩

/-- The first blank page after `p` in ring order (R157). -/
def Store.blankAfter (st : Store) (r : Region) (p : Nat) : Option Nat := (r.ring p).find? fun q => (st.page q).isBlank

/-- The oldest used page as seen from `p`: the first used one after it in ring order (R157). -/
def Store.usedAfter (st : Store) (r : Region) (p : Nat) : Option Nat := (r.ring p).find? fun q => (st.page q).used

/-- The page that settling a region with active page `p` queues for erase: the oldest used one, where no page after `p` is
blank (R157, R173). -/
def Store.lateAfter (st : Store) (r : Region) (p : Nat) : Option Nat :=
  if st.blankAfter r p = none then st.usedAfter r p else none

/-- A store being scanned, a region of it not yet settled: no erase in hand, and of the region's pages the erase list holds
the inconsistent ones (R172). -/
structure Store.Scanned (st : Store) (r : Region) : Prop where
  erase : st.erase = none
  abandoned : st.abandoned = none
  leftOut : st.leftOut = []
  listed : ∀ p ∈ r.pages, p ∈ st.eraseList ↔ ((st.page p).isBlank || (st.page p).used) = false

theorem Store.Scanned.outOfUse {st : Store} {r : Region} (h : st.Scanned r) (p : Nat) (mem : p ∈ r.pages) :
    st.outOfUse p = !((st.page p).isBlank || (st.page p).used) := by
  have listed : st.eraseList.contains p = !((st.page p).isBlank || (st.page p).used) := by
    rw [Bool.eq_iff_iff, List.contains_iff_mem, h.listed p mem, Bool.not_eq_true']
  rw [Store.outOfUse, listed]
  simp [h.erase, h.abandoned, h.leftOut]

/-- With the page after which it looks active and none ready, a blank page that a region takes is the first after it. -/
theorem Store.Scanned.nextBlank {st : Store} {r : Region} (h : st.Scanned r) (a : Nat)
    (active : (st.region r).active = some a) (ready : (st.region r).ready = none) :
    st.nextBlank r = st.blankAfter r a := by
  have ring : st.ringAfter r = r.ring a := by simp [Store.ringAfter, active, Region.ring]
  rw [Store.nextBlank, ring]
  refine List.find?_congr fun p hp => ?_
  obtain ⟨mem, ne⟩ := r.mem_ring a p hp
  simp only [Store.idlePage, active, ready, h.outOfUse p mem]
  cases (st.page p).isBlank <;> simp [ne.symm]

/-- And the oldest used page is the first used one after it. -/
theorem Store.Scanned.oldestUsed {st : Store} {r : Region} (h : st.Scanned r) (a : Nat)
    (active : (st.region r).active = some a) (ready : (st.region r).ready = none) :
    st.oldestUsed r = st.usedAfter r a := by
  have ring : st.ringAfter r = r.ring a := by simp [Store.ringAfter, active, Region.ring]
  rw [Store.oldestUsed, ring]
  refine List.find?_congr fun p hp => ?_
  obtain ⟨mem, ne⟩ := r.mem_ring a p hp
  simp only [Store.idlePage, active, ready, h.outOfUse p mem]
  cases blank : (st.page p).isBlank
  · simp [ne.symm]
  · simp [(st.page p).used_eq_false_of_isBlank blank]

/-! ### A region settled (R157, R173) -/

/-- A region's state and at most one page more on the erase list. -/
def Store.settle (st : Store) (r : Region) (v : RegionState) (late : Option Nat) : Store :=
  { st.setRegion r v with eraseList := st.eraseList ++ late.toList }

theorem Store.queueOldest_eq (st : Store) (r : Region) :
    st.queueOldest r = { st with eraseList := st.eraseList ++ (st.oldestUsed r).toList } := by
  unfold Store.queueOldest
  split <;> simp [*]

theorem Store.setRegion_self (st : Store) (r : Region) : st.setRegion r (st.region r) = st := by
  cases r <;> rfl

theorem Store.setRegion_twice (st : Store) (r : Region) (v w : RegionState) :
    (st.setRegion r v).setRegion r w = st.setRegion r w := by
  cases r <;> rfl

@[simp] theorem Store.setRegion_kept (st : Store) (r : Region) (v : RegionState) :
    (st.setRegion r v).pages = st.pages ∧ (st.setRegion r v).eraseList = st.eraseList
      ∧ (st.setRegion r v).erase = st.erase ∧ (st.setRegion r v).abandoned = st.abandoned
      ∧ (st.setRegion r v).leftOut = st.leftOut := by
  cases r <;> simp [Store.setRegion]

/-- Steps 2 and 3 of a page change, from an active page with none ready (R157). -/
theorem Store.Scanned.prepareReady {st : Store} {r : Region} (h : st.Scanned r) (a : Nat)
    (active : (st.region r).active = some a) (ready : (st.region r).ready = none) :
    st.prepareReady r = st.settle r { st.region r with ready := st.blankAfter r a } (st.lateAfter r a) := by
  rw [Store.prepareReady, h.nextBlank a active ready, Store.lateAfter]
  cases blank : st.blankAfter r a with
  | some q => cases r <;> simp [Store.settle, Store.setRegion]
  | none =>
    have kept : ({ st.region r with ready := none } : RegionState) = st.region r := by rw [← ready]
    simp only [kept, if_true, Store.queueOldest_eq, h.oldestUsed a active ready, Store.settle, Store.setRegion_self]

/-- The region with which settling looks for a ready page: no used page leaves it the first blank one; else the page of the
highest store sequence, or the ready page where that one is full (R157, R173). -/
def Store.opened (st : Store) (r : Region) : RegionState :=
  let next := st.sequenceAfter r
  match st.newestUsed r with
  | none => ⟨(st.pagesOfClass r .blank).head?, 0, none, next, false⟩
  | some (seq, _) =>
    match st.pageHolding r seq with
    | none => ⟨none, 0, none, next, false⟩
    | some p =>
      let slot := ((st.page p).slots.filter Slot.written).length
      match st.blankAfter r p with
      | none => ⟨some p, slot, none, next, false⟩
      | some q => if r.slots ≤ slot then ⟨some q, 0, none, next, false⟩ else ⟨some p, slot, none, next, false⟩

/-- What settling a region looks at is the array's pages alone. -/
theorem Store.opened_congr (st t : Store) (r : Region) (pages : t.pages = st.pages) :
    t.opened r = st.opened r ∧ t.blankAfter r = st.blankAfter r ∧ t.lateAfter r = st.lateAfter r := by
  have page : t.page = st.page := by
    funext p
    rw [Store.page, pages, Store.page]
  have newest : ∀ l, t.newestAmong l = st.newestAmong l := fun l => by rw [Store.newestAmong, page, Store.newestAmong]
  have classed : ∀ k, t.pagesOfClass r k = st.pagesOfClass r k := fun k => by
    rw [Store.pagesOfClass, page, Store.pagesOfClass]
  have blank : t.blankAfter r = st.blankAfter r := by
    funext p
    rw [Store.blankAfter, page, Store.blankAfter]
  have used : t.usedAfter r = st.usedAfter r := by
    funext p
    rw [Store.usedAfter, page, Store.usedAfter]
  have late : t.lateAfter r = st.lateAfter r := by
    funext p
    rw [Store.lateAfter, blank, used, Store.lateAfter]
  have holding : ∀ k, t.pageHolding r k = st.pageHolding r k := fun k => by
    rw [Store.pageHolding, classed, page, Store.pageHolding]
  refine ⟨?_, blank, late⟩
  simp only [Store.opened, Store.newestUsed, Store.sequenceAfter, Store.newestIn, newest, classed, blank, holding, page]

/-- The pages of the newest record of the used pages: one of them holds it (R173). -/
theorem Store.pageHolding_isSome (st : Store) (r : Region) (k : Nat) (x : StoredRecord)
    (newest : st.newestUsed r = some (k, x)) : ∃ p, st.pageHolding r k = some p := by
  rcases st.newestAmong_spec (st.pagesOfClass r .used) with ⟨none, -⟩ | ⟨k', x', some', ⟨p, hp, hx⟩, -⟩
  · rw [Store.newestUsed, none] at newest
    cases newest
  · rw [Store.newestUsed, some'] at newest
    cases newest
    refine Option.isSome_iff_exists.1 (List.find?_isSome.2 ⟨p, hp, ?_⟩)
    rw [List.any_eq_true]
    exact ⟨(k, x), (mem_validRecords _ _ _).2 hx, by simp⟩

theorem Store.region_setRegion_same (st : Store) (r : Region) (v : RegionState) : (st.setRegion r v).region r = v := by
  rw [Store.region_setRegion, if_pos rfl]

theorem Store.Scanned.setRegion {st : Store} {r : Region} (h : st.Scanned r) (v : RegionState) :
    (st.setRegion r v).Scanned r := by
  obtain ⟨erase, abandoned, leftOut, listed⟩ := h
  exact ⟨by simp [erase], by simp [abandoned], by simp [leftOut], by simpa [Store.page] using listed⟩

/-- A region settled: opened, and made ready by one look for a blank page (R157, R173). -/
theorem Store.Scanned.settleRegion {st : Store} {r : Region} (h : st.Scanned r) :
    st.settleRegion r = (st.setRegion r (st.opened r)).prepareReady r := by
  unfold Store.settleRegion Store.opened
  split
  · rename_i k x newest
    obtain ⟨p, holding⟩ := st.pageHolding_isSome r k x newest
    simp only [newest, holding]
    generalize ((st.page p).slots.filter Slot.written).length = slot
    generalize full : (⟨some p, slot, none, st.sequenceAfter r, false⟩ : RegionState) = v
    have active : ((st.setRegion r v).region r).active = some p := by rw [st.region_setRegion_same, ← full]
    have ready : ((st.setRegion r v).region r).ready = none := by rw [st.region_setRegion_same, ← full]
    have blank : (st.setRegion r v).nextBlank r = st.blankAfter r p := by
      rw [(h.setRegion v).nextBlank p active ready, (st.opened_congr _ r (by simp)).2.1]
    have looks : (st.setRegion r v).prepareReady r =
        match st.blankAfter r p with
        | some q => (st.setRegion r v).setRegion r { (st.setRegion r v).region r with ready := some q }
        | none => (st.setRegion r v).queueOldest r := by
      rw [Store.prepareReady, blank] <;> cases st.blankAfter r p <;> rfl
    rw [blank]
    cases next : st.blankAfter r p with
    | none =>
      simp only [ready, Option.isNone_none, if_true, Store.pageChange]
      split
      · rfl
      · rw [looks, next]
    | some q =>
      simp only [Store.pageChange, Store.region_setRegion_same, Store.setRegion_twice, Option.isNone_some]
      rw [← full] at looks ⊢
      split
      · rfl
      · rw [looks, next]
        simp [Store.region_setRegion_same, Store.setRegion_twice]
  · rename_i newest
    simp only [newest]

theorem Store.opened_fresh (st : Store) (r : Region) :
    (st.opened r).ready = none ∧ (st.opened r).nextSeq = st.sequenceAfter r ∧ (st.opened r).stopped = false := by
  unfold Store.opened
  dsimp only
  repeat' split
  all_goals simp

/-- The pages of a class. -/
theorem Store.mem_pagesOfClass_used (st : Store) (r : Region) (p : Nat) :
    p ∈ st.pagesOfClass r .used ↔ p ∈ r.pages ∧ (st.page p).used = true := by
  simp [Store.pagesOfClass, Page.classify_used]

/-- A used page holds a valid slot (R172). -/
theorem Page.exists_valid_of_used (g : Page) (used : g.used = true) : ∃ k x, Slot.valid k x ∈ g.slots := by
  rw [Page.used, Bool.and_eq_true, List.any_eq_true] at used
  obtain ⟨⟨y, hy, valid⟩, -⟩ := used
  cases y with
  | valid k x => exact ⟨k, x, hy⟩
  | _ => cases valid

/-- A region has a newest used record as soon as it has a used page (R173). -/
theorem Store.newestUsed_eq_none_iff (st : Store) (r : Region) :
    st.newestUsed r = none ↔ ∀ p ∈ r.pages, (st.page p).used = false := by
  rcases st.newestAmong_spec (st.pagesOfClass r .used) with ⟨e, none⟩ | ⟨k, x, e, ⟨p, hp, -⟩, -⟩
  · refine iff_of_true e fun p hp => ?_
    by_contra used
    rw [Bool.not_eq_false] at used
    obtain ⟨k, x, hx⟩ := (st.page p).exists_valid_of_used used
    exact none p ((st.mem_pagesOfClass_used r p).2 ⟨hp, used⟩) k x hx
  · obtain ⟨hp, used⟩ := (st.mem_pagesOfClass_used r p).1 hp
    refine iff_of_false (by rw [Store.newestUsed, e]; simp) fun none => ?_
    rw [none p hp] at used
    cases used

/-- With no used page the first blank one is opened (R173). -/
theorem Store.opened_of_unused (st : Store) (r : Region) (none : ∀ p ∈ r.pages, (st.page p).used = false) :
    st.opened r = ⟨r.pages.find? fun p => (st.page p).isBlank, 0, Option.none, st.sequenceAfter r, false⟩ := by
  have blanks : (st.pagesOfClass r .blank).head? = r.pages.find? fun p => (st.page p).isBlank := by
    rw [Store.pagesOfClass, List.head?_filter]
    exact List.find?_congr fun p _ => by rw [Bool.eq_iff_iff, decide_eq_true_iff, Page.classify_blank]
  rw [Store.opened, (st.newestUsed_eq_none_iff r).2 none]
  simp only [blanks]

/-- Without an active page a region has neither a blank nor a used page. -/
theorem Store.opened_active_none (st : Store) (r : Region) (none : (st.opened r).active = Option.none) :
    ∀ p ∈ r.pages, (st.page p).isBlank = false ∧ (st.page p).used = false := by
  cases newest : st.newestUsed r with
  | none =>
    have unused := (st.newestUsed_eq_none_iff r).1 newest
    rw [st.opened_of_unused r unused, List.find?_eq_none] at none
    exact fun p hp => ⟨by simpa using none p hp, unused p hp⟩
  | some b =>
    obtain ⟨p, holding⟩ := st.pageHolding_isSome r b.1 b.2 newest
    simp only [Store.opened, newest, holding] at none
    split at none
    · cases none
    · split at none <;> cases none

/-- What settling makes of a region: opened, its ready page the first blank one after the active, and otherwise its oldest
used page queued for erase (R157, R173). -/
theorem Store.Scanned.settleRegion_eq {st : Store} {r : Region} (h : st.Scanned r) :
    st.settleRegion r =
      st.settle r { st.opened r with ready := (st.opened r).active.bind (st.blankAfter r) }
        ((st.opened r).active.bind (st.lateAfter r)) := by
  obtain ⟨ready, -, -⟩ := st.opened_fresh r
  obtain ⟨-, blankAfter, lateAfter⟩ := st.opened_congr (st.setRegion r (st.opened r)) r (by simp)
  rw [h.settleRegion]
  cases active : (st.opened r).active with
  | some a =>
    rw [(h.setRegion _).prepareReady a (by rw [st.region_setRegion_same, active])
      (by rw [st.region_setRegion_same, ready]), blankAfter, lateAfter, st.region_setRegion_same, Store.settle, Store.setRegion_twice]
    simp [Store.settle]
  | none =>
    have bare := st.opened_active_none r active
    have kept : ({ st.opened r with ready := none } : RegionState) = st.opened r := by rw [← ready]
    have ring : (st.setRegion r (st.opened r)).ringAfter r = r.pages := by
      simp only [Store.ringAfter, st.region_setRegion_same, active]
    have page : (st.setRegion r (st.opened r)).page = st.page := by
      funext p
      simp [Store.page]
    have blank : (st.setRegion r (st.opened r)).nextBlank r = none := by
      rw [Store.nextBlank, ring, List.find?_eq_none]
      intro p hp
      simp [page, bare p hp]
    have oldest : (st.setRegion r (st.opened r)).oldestUsed r = none := by
      rw [Store.oldestUsed, ring, List.find?_eq_none]
      intro p hp
      have unlisted := (h.setRegion (st.opened r)).outOfUse p hp
      rw [page] at unlisted
      simp [Store.idlePage, unlisted, bare p hp]
    rw [Store.prepareReady, blank]
    simp only [Store.queueOldest_eq, oldest, Store.settle, Option.bind_none, kept]
    simp

/-! ### The scan (R172, R173) -/

/-- The inconsistent pages of an array, in page order (R172). -/
def Store.inconsistentPages (st : Store) : List Nat :=
  (List.range 16).filter fun p => !((st.page p).isBlank || (st.page p).used)

/-- The page that settling a region queues for erase, by the array's pages (R173). -/
def Store.lateOf (st : Store) (r : Region) : Option Nat := (st.opened r).active.bind (st.lateAfter r)

/-- The state in which the scan leaves a region, by the array's pages (R173). -/
def Store.settledRegion (st : Store) (r : Region) : RegionState :=
  { st.opened r with ready := (st.opened r).active.bind (st.blankAfter r) }

theorem Store.settled_congr (st t : Store) (r : Region) (pages : t.pages = st.pages) :
    t.lateOf r = st.lateOf r ∧ t.settledRegion r = st.settledRegion r := by
  obtain ⟨opened, blank, late⟩ := st.opened_congr t r pages
  exact ⟨by rw [Store.lateOf, opened, late, Store.lateOf],
    by rw [Store.settledRegion, opened, blank, Store.settledRegion]⟩

/-- A page that settling queues for erase is one of the region's. -/
theorem Store.lateOf_mem (st : Store) (r : Region) (p : Nat) (late : st.lateOf r = some p) : p ∈ r.pages := by
  obtain ⟨a, -, late⟩ := Option.bind_eq_some_iff.1 late
  rw [Store.lateAfter] at late
  split at late
  · exact (r.mem_ring a p (List.mem_of_find?_eq_some late)).1
  · cases late

/-- Settling a region leaves the others unsettled as they were. -/
theorem Store.Scanned.settle {st : Store} {r q : Region} (h : st.Scanned q) (ne : r ≠ q) (v : RegionState)
    (late : Option Nat) (mem : ∀ p, late = some p → p ∈ r.pages) : (st.settle r v late).Scanned q := by
  obtain ⟨erase, abandoned, leftOut, listed⟩ := h
  refine ⟨by simp [Store.settle, erase], by simp [Store.settle, abandoned], by simp [Store.settle, leftOut],
    fun p hp => ?_⟩
  have page : (st.settle r v late).page p = st.page p := by simp [Store.page, Store.settle]
  have other : p ∉ late.toList := fun hl => ne (r.eq_of_mem_pages q p (mem p (by simpa using hl)) hp)
  rw [page, ← listed p hp]
  simp [Store.settle, other]

/-- The scan settles the three regions from the array as it stands, after queuing the inconsistent pages. -/
theorem Store.scan_eq (pages : List Page) :
    (Store.cleared pages).scan =
      { Store.cleared pages with
        journal := (Store.cleared pages).settledRegion .journal
        shifts := (Store.cleared pages).settledRegion .shifts
        trips := (Store.cleared pages).settledRegion .trips
        eraseList := (Store.cleared pages).inconsistentPages ++ ((Store.cleared pages).lateOf .journal).toList
          ++ ((Store.cleared pages).lateOf .shifts).toList ++ ((Store.cleared pages).lateOf .trips).toList } := by
  generalize found : Store.cleared pages = st
  generalize listed : ({ st with eraseList := st.inconsistentPages } : Store) = t
  have start : st.scan = ((t.settleRegion .journal).settleRegion .shifts).settleRegion .trips := by
    have inconsistent : (allPages.filter fun p => decide ((st.page p).classify = .inconsistent)) =
        st.inconsistentPages :=
      List.filter_congr fun p _ => by
        rw [Bool.eq_iff_iff, decide_eq_true_iff, Page.classify_inconsistent, Bool.not_eq_true']
    rw [Store.scan, inconsistent, listed]
  have scanned : ∀ r, t.Scanned r := fun r => by
    rw [← listed, ← found]
    refine ⟨rfl, rfl, rfl, fun p hp => ?_⟩
    simp only [Store.inconsistentPages, List.mem_filter, List.mem_range, r.page_lt p hp, true_and, Bool.not_eq_true']
    rfl
  have settles : ∀ (u : Store) (r : Region), u.Scanned r → u.pages = st.pages →
      u.settleRegion r = u.settle r (st.settledRegion r) (st.lateOf r) := by
    intro u r h same
    obtain ⟨late, settled⟩ := st.settled_congr u r same
    rw [h.settleRegion_eq, ← late, ← settled]
    rfl
  have journal := settles t .journal (scanned .journal) (by rw [← listed])
  have shifts := settles _ .shifts ((scanned .shifts).settle (r := .journal) (by simp) (st.settledRegion .journal) _
    (st.lateOf_mem .journal)) (by rw [← listed]; rfl)
  have trips := settles _ .trips (((scanned .trips).settle (r := .journal) (by simp) (st.settledRegion .journal) _
    (st.lateOf_mem .journal)).settle (r := .shifts) (by simp) (st.settledRegion .shifts) _ (st.lateOf_mem .shifts))
    (by rw [← listed]; rfl)
  rw [start, journal, shifts, trips, ← listed]
  rfl

end Sys2Proof.Machine
end

section
/-! PROOFS. What the scan finds in the array (R172, R173). -/

namespace Sys2Proof.Machine

/-! ### What the scan finds (R172, R173) -/

/-- A page without a gap has its written slots before its blank ones. -/
theorem filter_written_append (l : List Slot) (noGap : l.Pairwise fun x y => x = .blank → y = .blank) :
    l.filter Slot.written ++ l.filter (fun x => !x.written) = l := by
  induction l with
  | nil => rfl
  | cons x xs ih =>
    obtain ⟨head, tail⟩ := List.pairwise_cons.1 noGap
    by_cases blank : x = .blank
    · have none : xs.filter Slot.written = [] := List.filter_eq_nil_iff.2 fun y hy => by
        simp [Slot.written, head y hy blank]
      have rest := ih tail
      rw [none, List.nil_append] at rest
      rw [List.filter_cons_of_neg (by simp [Slot.written, blank]), none, List.nil_append,
        List.filter_cons_of_pos (by simp [Slot.written, blank]), rest]
    · rw [List.filter_cons_of_pos (by simp [Slot.written, blank]),
        List.filter_cons_of_neg (by simp [Slot.written, blank]), List.cons_append, ih tail]

/-- The last slot of a used page that is not blank was left incomplete (R172). -/
theorem Page.interrupted_iff (g : Page) (used : g.used = true) :
    g.interrupted = true ↔ g.slots[(g.slots.filter fun x => decide (x ≠ .blank)).length - 1]? = some .incomplete := by
  obtain ⟨k, x, valid⟩ := g.exists_valid_of_used used
  have written : g.slots.filter Slot.written ≠ [] :=
    List.ne_nil_of_mem (List.mem_filter.2 ⟨valid, by simp [Slot.written]⟩)
  have noGap : g.slots.Pairwise fun x y => x = .blank → y = .blank := by
    rw [Page.used, Bool.and_eq_true, decide_eq_true_eq] at used
    exact used.2
  have last : (g.slots.filter Slot.written).getLast? = g.slots[(g.slots.filter Slot.written).length - 1]? := by
    have front : ∀ i < (g.slots.filter Slot.written).length, g.slots[i]? = (g.slots.filter Slot.written)[i]? := by
      intro i hi
      conv_lhs => rw [← filter_written_append g.slots noGap]
      exact List.getElem?_append_left hi
    rw [List.getLast?_eq_getElem?, front _ (Nat.sub_lt (List.length_pos_of_ne_nil written) one_pos)]
  change _ ↔ g.slots[(g.slots.filter Slot.written).length - 1]? = _
  rw [Page.interrupted, last]
  cases g.slots[(g.slots.filter Slot.written).length - 1]? <;> simp

/-- The next store sequence of a region without a valid slot (R173). -/
theorem Store.sequenceAfter_of_none (st : Store) (r : Region)
    (none : ∀ k x, ¬∃ p ∈ r.pages, Slot.valid k x ∈ (st.page p).slots) : st.sequenceAfter r = 0 := by
  rcases st.newestAmong_spec r.pages with ⟨e, -⟩ | ⟨k, x, -, holds, -⟩
  · rw [Store.sequenceAfter, Store.newestIn, e]
  · exact absurd holds (none k x)

/-- The next store sequence follows the highest valid one (R173). -/
theorem Store.sequenceAfter_of_highest (st : Store) (r : Region) (k : Nat) (x : StoredRecord)
    (holds : ∃ p ∈ r.pages, Slot.valid k x ∈ (st.page p).slots)
    (top : ∀ k' x', (∃ p ∈ r.pages, Slot.valid k' x' ∈ (st.page p).slots) → k' ≤ k) :
    st.sequenceAfter r = (k + 1) % 4294967296 := by
  obtain ⟨p, hp, hx⟩ := holds
  rcases st.newestAmong_spec r.pages with ⟨-, none⟩ | ⟨k', x', e, holds', top'⟩
  · exact absurd hx (none p hp k x)
  · rw [Store.sequenceAfter, Store.newestIn, e, Nat.le_antisymm (top k' x' holds') (top' p hp k x hx)]

/-- With no valid slot a region has no newest record (R173). -/
theorem Store.newestIn_of_none (st : Store) (r : Region)
    (none : ∀ k x, ¬∃ p ∈ r.pages, Slot.valid k x ∈ (st.page p).slots) : st.newestIn r = Option.none := by
  rcases st.newestAmong_spec r.pages with ⟨e, -⟩ | ⟨k, x, -, holds, -⟩
  · exact e
  · exact absurd holds (none k x)

/-- The newest record of a region is the one whose store sequence no other one reaches (R173). -/
theorem Store.newestIn_of_highest (st : Store) (r : Region) (k : Nat) (x : StoredRecord)
    (holds : ∃ p ∈ r.pages, Slot.valid k x ∈ (st.page p).slots)
    (top : ∀ k' x', (∃ p ∈ r.pages, Slot.valid k' x' ∈ (st.page p).slots) → (k', x') = (k, x) ∨ k' < k) :
    st.newestIn r = some (k, x) := by
  obtain ⟨p, hp, hx⟩ := holds
  rcases st.newestAmong_spec r.pages with ⟨-, none⟩ | ⟨k', x', e, holds', top'⟩
  · exact absurd hx (none p hp k x)
  · rw [Store.newestIn, e]
    rcases top k' x' holds' with same | lt
    · rw [same]
    · have := top' p hp k x hx
      omega

/-- `p` is the used page of the region that holds the highest store sequence of them, and it alone does (R173). -/
def Store.IsNewestPage (st : Store) (r : Region) (p : Nat) : Prop :=
  p ∈ r.pages ∧ (st.page p).used = true ∧ ∃ k x, Slot.valid k x ∈ (st.page p).slots
    ∧ ∀ p' ∈ r.pages, (st.page p').used = true → ∀ k' x', Slot.valid k' x' ∈ (st.page p').slots →
      k' < k ∨ (k' = k ∧ p' = p)

/-- With the page of the highest store sequence known, that page is opened, or the ready page where it is full (R173). -/
theorem Store.opened_of_newestPage (st : Store) (r : Region) (p : Nat) (h : st.IsNewestPage r p) :
    st.opened r =
      let slot := ((st.page p).slots.filter Slot.written).length
      match st.blankAfter r p with
      | none => ⟨some p, slot, none, st.sequenceAfter r, false⟩
      | some q =>
        if r.slots ≤ slot then ⟨some q, 0, none, st.sequenceAfter r, false⟩
        else ⟨some p, slot, none, st.sequenceAfter r, false⟩ := by
  obtain ⟨hp, used, k, x, hx, top⟩ := h
  have mem := (st.mem_pagesOfClass_used r p).2 ⟨hp, used⟩
  have newest : ∃ y, st.newestUsed r = some (k, y) := by
    rcases st.newestAmong_spec (st.pagesOfClass r .used) with ⟨-, none⟩ | ⟨k', y, e, ⟨p', hp', hy⟩, top'⟩
    · exact absurd hx (none p mem k x)
    · obtain ⟨hp', used'⟩ := (st.mem_pagesOfClass_used r p').1 hp'
      have le := top' p mem k x hx
      rcases top p' hp' used' k' y hy with lt | ⟨rfl, -⟩
      · omega
      · exact ⟨y, e⟩
  have holding : st.pageHolding r k = some p := by
    obtain ⟨y, newest⟩ := newest
    obtain ⟨p', e⟩ := st.pageHolding_isSome r k y newest
    obtain ⟨hp', used'⟩ := (st.mem_pagesOfClass_used r p').1 (List.mem_of_find?_eq_some e)
    have holds := List.find?_some e
    rw [List.any_eq_true] at holds
    obtain ⟨⟨k', z⟩, hz, eq⟩ := holds
    rw [mem_validRecords] at hz
    simp only [beq_iff_eq] at eq
    subst eq
    rcases top p' hp' used' _ z hz with lt | ⟨-, rfl⟩
    · omega
    · exact e
  obtain ⟨y, newest⟩ := newest
  simp only [Store.opened, newest, holding] <;> cases st.blankAfter r p <;> rfl

theorem Slot.isValid_eq : Slot.isValid = fun x : Slot => match x with
    | .valid _ _ => true
    | _ => false := by
  funext x
  cases x <;> rfl

/-- The findings of the scan (R172, R173). -/
theorem Store.findings_eq (st : Store) :
    st.findings.torn = min 255 (((List.range 16).filter fun p => (st.page p).used).map fun p =>
        ((st.page p).slots.filter fun x => decide (x = .torn)).length).sum
      ∧ (st.findings.interrupted = true ↔ ∃ p, p < 16 ∧ (st.page p).used = true ∧ (st.page p).interrupted = true) := by
  have used : st.usedPages = (List.range 16).filter fun p => (st.page p).used :=
    List.filter_congr fun p _ => by rw [Bool.eq_iff_iff, decide_eq_true_iff, Page.classify_used]
  refine ⟨by rw [Store.findings, used], ?_⟩
  rw [Store.findings, used, List.any_eq_true]
  simp [and_assoc]

/-! ### The regions as the scan leaves them (R157, R173) -/

theorem Store.scan_region (pages : List Page) (r : Region) :
    (Store.cleared pages).scan.region r = (Store.cleared pages).settledRegion r := by
  rw [Store.scan_eq]
  cases r <;> rfl

/-- A region without a used page: its first blank page is active and the next one ready, and nothing is queued. -/
theorem Store.settled_of_unused (st : Store) (r : Region) (unused : ∀ p ∈ r.pages, (st.page p).used = false) :
    st.lateOf r = none ∧ (st.settledRegion r).slot = 0
      ∧ (st.settledRegion r).active = r.pages.find? (fun p => (st.page p).isBlank)
      ∧ (st.settledRegion r).ready = (st.settledRegion r).active.bind (st.blankAfter r) := by
  have oldest : ∀ p, st.usedAfter r p = none := fun p => by
    rw [Store.usedAfter, List.find?_eq_none]
    exact fun q hq => by simp [unused q (r.mem_ring p q hq).1]
  have late : ∀ p, st.lateAfter r p = none := fun p => by rw [Store.lateAfter, oldest, ite_self]
  simp [Store.lateOf, Store.settledRegion, st.opened_of_unused r unused, late]

/-- A region whose newest page has room keeps it active (R173). -/
theorem Store.settled_of_room (st : Store) (r : Region) (p : Nat) (h : st.IsNewestPage r p)
    (room : ((st.page p).slots.filter Slot.written).length < r.slots) :
    (st.settledRegion r).active = some p
      ∧ (st.settledRegion r).slot = ((st.page p).slots.filter Slot.written).length
      ∧ (st.settledRegion r).ready = st.blankAfter r p ∧ st.lateOf r = st.lateAfter r p := by
  have opened : st.opened r =
      ⟨some p, ((st.page p).slots.filter Slot.written).length, none, st.sequenceAfter r, false⟩ := by
    rw [st.opened_of_newestPage r p h]
    cases st.blankAfter r p <;> simp [room]
  simp [Store.settledRegion, Store.lateOf, opened]

/-- A region whose newest page is full and has no blank page stands without an append point, its oldest page queued. -/
theorem Store.settled_of_stuck (st : Store) (r : Region) (p : Nat) (h : st.IsNewestPage r p)
    (none : st.blankAfter r p = none) :
    (st.settledRegion r).active = some p
      ∧ (st.settledRegion r).slot = ((st.page p).slots.filter Slot.written).length
      ∧ (st.settledRegion r).ready = Option.none ∧ st.lateOf r = st.usedAfter r p := by
  have opened : st.opened r =
      ⟨some p, ((st.page p).slots.filter Slot.written).length, Option.none, st.sequenceAfter r, false⟩ := by
    rw [st.opened_of_newestPage r p h, none]
  simp [Store.settledRegion, Store.lateOf, opened, none, Store.lateAfter]

/-- A region whose newest page is full goes on to the next blank one (R157, R173). -/
theorem Store.settled_of_full (st : Store) (r : Region) (p q : Nat) (h : st.IsNewestPage r p)
    (full : r.slots ≤ ((st.page p).slots.filter Slot.written).length) (next : st.blankAfter r p = some q) :
    (st.settledRegion r).active = some q ∧ (st.settledRegion r).slot = 0
      ∧ (st.settledRegion r).ready = st.blankAfter r q ∧ st.lateOf r = st.lateAfter r q := by
  have opened : st.opened r = ⟨some q, 0, none, st.sequenceAfter r, false⟩ := by
    rw [st.opened_of_newestPage r p h, next]
    simp [full]
  simp [Store.settledRegion, Store.lateOf, opened]

end Sys2Proof.Machine
end

section
/-! PROOFS. When START runs (R169, R186, R187), and station time during it (R18, R188). -/

namespace Sys2Proof.Machine

/-! ### When START runs (R169, R186, R187) -/

theorem exec_start_running (s : State) (i : StartInputs) (running : s.phase = .running) :
    exec (.start i) s = .next s := by
  simp [exec, execStart, running]

/-- The conditions under which a held part completes its START (R169, R186, R187). -/
theorem start_runs_iff (k : ResetCause) (i : StartInputs) :
    (resetReleased k i && startCompletes i) = true ↔
      i.rstHigh = true ∧ (k = .powerOn ∨ k = .supplyLow → 4000 < i.released)
        ∧ i.initAt ≤ i.recordAt ∧ i.recordAt ≤ i.endAt ∧ 3900 ≤ i.supply := by
  cases k <;> simp [resetReleased, startCompletes, and_assoc]

theorem exec_start_held (s : State) (i : StartInputs) (k : ResetCause) (held : s.phase = .inReset k) :
    exec (.start i) s = .next (if (resetReleased k i && startCompletes i) = true then s.runStart k i else s) := by
  simp only [exec, execStart, held]

/-! ### Station time during START (R18, R188) -/

/-- Advancing looks at no elapsed count. -/
theorem Timebase.advance_with_elapsed (tb : Timebase) (n : Nat) :
    ({ tb with elapsed := n } : Timebase).advance = { tb.advance with elapsed := n } := by
  cases tb
  simp only [Timebase.advance]

theorem Timebase.advanceBy_with_elapsed (tb : Timebase) (n k : Nat) :
    ({ tb with elapsed := n } : Timebase).advanceBy k = { tb.advanceBy k with elapsed := n } := by
  induction k with
  | zero => rfl
  | succ k ih => rw [Timebase.advanceBy, ih, Timebase.advance_with_elapsed, ← Timebase.advanceBy]

/-- Running on to the record and then to the end is running on to the end. -/
theorem Timebase.runTo_runTo (tb : Timebase) (m n : Nat) (le : tb.elapsed ≤ m) (le' : m ≤ n) :
    (tb.runTo m).runTo n = tb.runTo n := by
  have split : n - tb.elapsed = (m - tb.elapsed) + (n - m) := by omega
  rw [Timebase.runTo, Timebase.runTo, Timebase.runTo, Timebase.advanceBy_with_elapsed, split, Timebase.advanceBy_add]

theorem recoveredF_eq (found : Option (Nat × Checkpoint)) :
    recoveredF (found.map Prod.snd) =
      match found with
      | some (_, c) => max (-2516) (min 2516 c.f)
      | none => 0 := by
  rcases found with _ | ⟨k, c⟩ <;> rfl

/-- The timebase as initialised: A = F, Acc 0, and the seconds of the checkpoint (R18, R42). -/
theorem Timebase.initial_eq (ck : Option Checkpoint) (n : Nat) :
    Timebase.initial ck n =
      ⟨n, ⟨(ck.map (·.time.s)).getD 0, 0⟩, 0, 0, recoveredF ck, none, none, false, none⟩ := by
  have kept : clampInt (-3355) 3355 (recoveredF ck) = recoveredF ck :=
    clampInt_of_natAbs_le 3355 _ ((recoveredF_natAbs_le ck).trans (by decide))
  simp only [Timebase.initial, kept, Timebase.cleared]

/-- Station time `n` microseconds after an initialisation at second `sec` with the rate `f` (R3, R18). -/
def timeRunOn (sec : Nat) (f : Int) (n : Nat) : StationTime :=
  StationTime.ofInstant (min 4294967295999999 ((sec : Int) * 1000000 + n + (f * n).tdiv 16777216)).toNat

/-- Station time and Acc at a count of START (R3, R18, R188). -/
theorem Timebase.initial_runTo (ck : Option Checkpoint) (start n : Nat)
    (top : (ck.map (·.time.s)).getD 0 < 4294967296) :
    ((Timebase.initial ck start).runTo n).time =
        timeRunOn ((ck.map (·.time.s)).getD 0) (recoveredF ck) (n - start)
      ∧ ((Timebase.initial ck start).runTo n).acc = (recoveredF ck * (n - start : Nat)).tmod 16777216 := by
  have f := recoveredF_natAbs_le ck
  rw [Timebase.initial_eq]
  generalize recoveredF ck = f' at *
  generalize (ck.map (·.time.s)).getD 0 = sec at *
  generalize start' : (⟨start, ⟨sec, 0⟩, 0, 0, f', none, none, false, none⟩ : Timebase) = tb
  have inRange : tb.InRange := by
    rw [← start']
    exact ⟨f.trans (by decide), by simp, by simp, by simp⟩
  have below : tb.time.instant ≤ topInstant := by
    rw [← start']
    simp only [StationTime.instant, topInstant]
    omega
  obtain ⟨acc, time⟩ := tb.advanceBy_closed (n - start) (by rw [← start']; exact f) (by rw [← start']) below
  obtain ⟨-, -, -, u⟩ := inRange.advanceBy (n - start)
  obtain ⟨acc', -, time', -⟩ := tb.runTo_eq n
  have elapsed : tb.elapsed = start := by rw [← start']
  have at' : tb.time.instant = sec * 1000000 := by
    rw [← start', StationTime.instant, Nat.add_zero]
  have rate : tb.a = f' := by rw [← start']
  rw [elapsed] at acc' time'
  rw [at', rate] at time
  rw [rate] at acc
  refine ⟨?_, acc'.trans acc⟩
  have micros : (tb.advanceBy (n - start)).time.instant =
      (min 4294967295999999
        ((sec : Int) * 1000000 + (n - start : Nat) + (f' * (n - start : Nat)).tdiv 16777216)).toNat := by
    rw [← Int.toNat_natCast ((tb.advanceBy (n - start)).time.instant), time]
    have hi : ((topInstant : Nat) : Int) = 4294967295999999 := by simp [topInstant]
    simp only [hi, carry, Nat.cast_mul, Nat.cast_ofNat]
  rw [time', timeRunOn, ← micros, StationTime.ofInstant_instant _ u]

end Sys2Proof.Machine
end

section
/-! PROOFS. A completed START (R148, R150, R163, R169, R187, R188). -/

namespace Sys2Proof.Machine

/-! ### The store as START takes it up (R155, R164, R173) -/

/-- A scanned store takes writes: nothing queued, the image EMPTY, and no region stopped. -/
theorem Store.scan_accepts (pages : List Page) :
    (Store.cleared pages).scan.queue = [] ∧ (Store.cleared pages).scan.image = Image.empty
      ∧ (Store.cleared pages).scan.erase = none
      ∧ ∀ r, (Store.cleared pages).scan.regionStopped r = false := by
  have leftOut : (Store.cleared pages).scan.leftOut = [] := by
    rw [Store.scan_eq]
    rfl
  refine ⟨by rw [Store.scan_eq]; rfl, by rw [Store.scan_eq]; rfl, by rw [Store.scan_eq]; rfl, fun r => ?_⟩
  obtain ⟨-, -, stopped⟩ := (Store.cleared pages).opened_fresh r
  have usable : (Store.cleared pages).scan.usablePages r = r.pages := by
    simp [Store.usablePages, leftOut]
  have settled : ((Store.cleared pages).settledRegion r).stopped = false := stopped
  rw [Store.regionStopped, Store.scan_region, usable, settled]
  cases r <;> rfl

/-- A first record pushed to an empty log (R79, R82). -/
theorem TripLog.push_empty (n : Nat) (r : Record) : (TripLog.empty n).push r = ⟨[r], 0, (n + 1) % 65536⟩ := rfl

/-! ### A completed START (R187 to R189) -/

/-- The part at the end of START, before a supply below its warning is looked at (R187). -/
def State.started (s : State) (k : ResetCause) (i : StartInputs) : State :=
  ((s.initialise i).recordStart k i (Store.cleared s.store.pages).findings).begin i (foundCheckpoint s.store.pages)

theorem State.runStart_eq (s : State) (k : ResetCause) (i : StartInputs) :
    s.runStart k i =
      if i.supply < (s.started k i).cfg.warningMv then (s.started k i).takeWarning else s.started k i :=
  rfl

/-- The blocks that stand at their reset values at the end of START, and what the configuration and the straps gave
(R187, R189, R190, R192). -/
theorem State.started_blocks (s : State) (k : ResetCause) (i : StartInputs) :
    (s.started k i).phase = .running ∧ (s.started k i).pending = s.pending ∧ (s.started k i).out = s.out
      ∧ (s.started k i).cfg = loadConfiguration i.memory ∧ (s.started k i).console = i.cons
      ∧ (s.started k i).ownNumber = strapNumber i.straps
      ∧ (s.started k i).marks = MarkMonitor.cleared ∧ (s.started k i).peers = List.replicate 31 Peer.cleared
      ∧ (s.started k i).chA = LineController.cleared i.endAt ∧ (s.started k i).chB = LineController.cleared i.endAt
      ∧ (s.started k i).senderSeq = 0 ∧ (s.started k i).inputs = List.replicate 16 InputChannel.cleared
      ∧ (s.started k i).notices = [] ∧ (s.started k i).groups = List.replicate 7 Group.idle
      ∧ (s.started k i).supply = SupplyMonitor.normal ∧ (s.started k i).req = RequestHandler.cleared
      ∧ (s.started k i).lockLife = s.lockLife ∧ (s.started k i).lockService = s.lockService
      ∧ (s.started k i).tally =
          Tally.restored (loadConfiguration i.memory) s.lockLife s.lockService (foundCheckpoint s.store.pages) := by
  simp [State.started, State.begin, State.recordStart, State.initialise, State.clearVolatile, foundCheckpoint]

/-- Its timebase and agreement unit (R18, R42). -/
theorem State.started_tb (s : State) (k : ResetCause) (i : StartInputs) (le : i.initAt ≤ i.recordAt)
    (le' : i.recordAt ≤ i.endAt) :
    (s.started k i).tb = (Timebase.initial (foundCheckpoint s.store.pages) i.initAt).runTo i.endAt
      ∧ (s.started k i).agr = Agreement.free (recoveredF (foundCheckpoint s.store.pages)) := by
  rw [← Timebase.runTo_runTo _ i.recordAt i.endAt (by rw [Timebase.initial_eq]; exact le) le']
  simp [State.started, State.begin, State.recordStart, State.initialise, foundCheckpoint, State.clearVolatile]

/-- The configuration fault that START finds (R188, R191, R192). -/
theorem startConfigFault_eq (i : StartInputs) :
    startConfigFault i = decide ((loadConfiguration i.memory).status = .faulted ∨ i.straps.toNat = 31) :=
  (Bool.decide_or _ _).symm

/-- Its START record (R188). -/
def State.firstRecord (s : State) (k : ResetCause) (i : StartInputs) : Record :=
  { seq :=
      nextLogAtStart ((foundCheckpoint s.store.pages).map (·.nextLog)) (Store.cleared s.store.pages).findings.newest
    dating := ⟨((Timebase.initial (foundCheckpoint s.store.pages) i.initAt).runTo i.recordAt).time, 0, 3⟩
    body := startRecord k i (Store.cleared s.store.pages).findings }

theorem State.firstRecord_eq (s : State) (k : ResetCause) (i : StartInputs) :
    s.firstRecord k i =
      ⟨(s.firstRecord k i).seq, ⟨(s.firstRecord k i).dating.time, 0, 3⟩,
        .start k ((Store.cleared s.store.pages).findings.checkpoint.map Prod.fst)
          (Store.cleared s.store.pages).findings.torn (Store.cleared s.store.pages).findings.queued
          (Store.cleared s.store.pages).findings.interrupted
          (decide ((loadConfiguration i.memory).status = .clamped))
          (decide ((loadConfiguration i.memory).status = .faulted ∨ i.straps.toNat = 31))⟩ := by
  rw [State.firstRecord, startRecord, startConfigFault_eq]

/-- What the first four steps of START give the blocks that its record and its end build on (R18, R42, R81, R173,
R191). -/
theorem State.initialise_blocks (s : State) (i : StartInputs) :
    (s.initialise i).store = (Store.cleared s.store.pages).scan
      ∧ (s.initialise i).log = TripLog.empty (nextLogAtStart ((foundCheckpoint s.store.pages).map (·.nextLog))
          (Store.cleared s.store.pages).findings.newest)
      ∧ (s.initialise i).flags = { StickyFlags.clear with configFault := startConfigFault i }
      ∧ (s.initialise i).tb = Timebase.initial (foundCheckpoint s.store.pages) i.initAt
      ∧ (s.initialise i).agr = Agreement.free (recoveredF (foundCheckpoint s.store.pages)) := by
  simp only [State.initialise, State.clearVolatile, foundCheckpoint, and_self]

/-- What running on from the initialisation keeps of the timebase (R18). -/
theorem Timebase.initial_runTo_kept (ck : Option Checkpoint) (m n : Nat) :
    ((Timebase.initial ck m).runTo n).elapsed = n ∧ ((Timebase.initial ck m).runTo n).g = 0
      ∧ ((Timebase.initial ck m).runTo n).a = recoveredF ck ∧ ((Timebase.initial ck m).runTo n).hold = none
      ∧ ((Timebase.initial ck m).runTo n).secondsKnown = false ∧ ((Timebase.initial ck m).runTo n).secondDue = none
      ∧ ((Timebase.initial ck m).runTo n).pulseEnd = none := by
  obtain ⟨g, hold, pulse, known, due, -⟩ := (Timebase.initial ck m).advanceBy_kept (n - (Timebase.initial ck m).elapsed)
  have a := (Timebase.initial ck m).advanceBy_a (n - (Timebase.initial ck m).elapsed)
  rw [Timebase.runTo]
  generalize (Timebase.initial ck m).advanceBy (n - (Timebase.initial ck m).elapsed) = tb at *
  rw [Timebase.initial_eq] at *
  exact ⟨rfl, g, a, hold, known, due, pulse⟩

/-- No microsecond passes in running on to the count of the initialisation. -/
theorem Timebase.initial_runTo_self (ck : Option Checkpoint) (n : Nat) :
    (Timebase.initial ck n).runTo n = Timebase.initial ck n := by
  rw [Timebase.initial_eq, Timebase.runTo, Nat.sub_self]
  rfl

/-- Nor do Acc and station time move (R18). -/
theorem Timebase.initial_runTo_still (ck : Option Checkpoint) (m n : Nat) (same : m = n) :
    ((Timebase.initial ck m).runTo n).acc = 0
      ∧ ((Timebase.initial ck m).runTo n).time = ⟨(ck.map (·.time.s)).getD 0, 0⟩ := by
  rw [← same, Timebase.initial_runTo_self, Timebase.initial_eq]
  exact ⟨rfl, rfl⟩

/-- The next sequence number of the log where START finds a checkpoint's and an archive record's: the checkpoint's where
it lies 1 to 32767 after the number that follows the archive record (R81). -/
theorem nextLogAtStart_of_both (c n : Nat) (below : c < 65536) :
    nextLogAtStart (some c) (some n) =
      if 1 ≤ (c + 65536 - (n + 1) % 65536) % 65536 ∧ (c + 65536 - (n + 1) % 65536) % 65536 ≤ 32767 then c
      else (n + 1) % 65536 := by
  have ahead : ((n + 1) % 65536 + 65536 - c) % 65536 ≤ 32768
      ↔ ¬(1 ≤ (c + 65536 - (n + 1) % 65536) % 65536 ∧ (c + 65536 - (n + 1) % 65536) % 65536 ≤ 32767) := by
    omega
  simp only [nextLogAtStart, ahead, ite_not]

/-- The START record is appended to the log and the write queue (R79, R80, R188). -/
theorem State.recordStart_eq (s : State) (k : ResetCause) (i : StartInputs) :
    ((s.initialise i).recordStart k i (Store.cleared s.store.pages).findings).log =
        ⟨[s.firstRecord k i], 0, ((s.firstRecord k i).seq + 1) % 65536⟩
      ∧ ((s.initialise i).recordStart k i (Store.cleared s.store.pages).findings).flags =
          { StickyFlags.clear with configFault := startConfigFault i }
      ∧ ((s.initialise i).recordStart k i (Store.cleared s.store.pages).findings).store =
          { (Store.cleared s.store.pages).scan with queue := [Entry.fresh (.archive (s.firstRecord k i))] } := by
  obtain ⟨store, log, flags, tb, agr⟩ := s.initialise_blocks i
  generalize s.initialise i = u at *
  obtain ⟨queue, -, -, stopped⟩ := Store.scan_accepts s.store.pages
  have dating : (⟨(u.tb.runTo i.recordAt).time, (u.tb.runTo i.recordAt).g, u.agr.state.quality⟩ : Dating) =
      (s.firstRecord k i).dating := by
    rw [tb, agr, (Timebase.initial_runTo_kept _ _ _).2.1]
    rfl
  have appended : u.recordStart k i (Store.cleared s.store.pages).findings =
      State.append { u with tb := u.tb.runTo i.recordAt } (s.firstRecord k i).dating (s.firstRecord k i).body := by
    rw [← dating]
    rfl
  have record : (⟨u.log.next, (s.firstRecord k i).dating, (s.firstRecord k i).body⟩ : Record) = s.firstRecord k i := by
    rw [log]
    rfl
  have takes : (u.store.regionStopped .trips || u.store.queueFull) = false := by
    rw [store, stopped, Store.queueFull, queue]
    rfl
  rw [appended, State.append_log, State.append_flags, State.append_store]
  dsimp only
  rw [record, takes, flags, log, TripLog.push_empty, store, queue]
  exact ⟨rfl, rfl, rfl⟩

/-- What the end of START gives the shift unit and the store, and leaves of the log and the flags (R148, R163, R187). -/
theorem State.begin_eq (s : State) (i : StartInputs) (ck : Option Checkpoint) :
    (s.begin i ck).log = s.log ∧ (s.begin i ck).flags = s.flags
      ∧ (s.begin i ck).store = { s.store with timer := some (i.endAt + s.cfg.checkpointEvery * 1000000) }
      ∧ (s.begin i ck).shift =
          { ShiftUnit.atStart (s.tb.runTo i.endAt).time ck with
            current :=
              { (ShiftUnit.atStart (s.tb.runTo i.endAt).time ck).current with
                worst := max (ShiftUnit.atStart (s.tb.runTo i.endAt).time ck).current.worst s.quality
                uncertain := (ShiftUnit.atStart (s.tb.runTo i.endAt).time ck).current.uncertain
                  || decide (s.quality = 3) } } :=
  ⟨rfl, rfl, rfl, rfl⟩

/-- At the end of START the record stands alone in the log and the write queue, and the interval timer runs (R163,
R188). -/
theorem State.started_log (s : State) (k : ResetCause) (i : StartInputs) :
    (s.started k i).log = ⟨[s.firstRecord k i], 0, ((s.firstRecord k i).seq + 1) % 65536⟩
      ∧ (s.started k i).flags = { StickyFlags.clear with configFault := startConfigFault i }
      ∧ (s.started k i).store = { (Store.cleared s.store.pages).scan with
          queue := [Entry.fresh (.archive (s.firstRecord k i))]
          timer := some (i.endAt + (loadConfiguration i.memory).checkpointEvery * 1000000) } := by
  obtain ⟨log, flags, store⟩ := s.recordStart_eq k i
  have cfg : ((s.initialise i).recordStart k i (Store.cleared s.store.pages).findings).cfg =
      loadConfiguration i.memory := by
    simp [State.recordStart, State.initialise]
  rw [State.started]
  generalize (s.initialise i).recordStart k i (Store.cleared s.store.pages).findings = u at *
  obtain ⟨log', flags', store', -⟩ := u.begin_eq i (foundCheckpoint s.store.pages)
  refine ⟨log'.trans log, flags'.trans flags, store'.trans ?_⟩
  rw [store, cfg]

/-- The shift that is open at the end of START, its quality 3 (R148, R150). -/
theorem State.started_shift (s : State) (k : ResetCause) (i : StartInputs) :
    (s.started k i).shift =
      match foundCheckpoint s.store.pages with
      | some c => ⟨{ c.shift with worst := 3, uncertain := true }, .running, true, some c.time⟩
      | none => ⟨ShiftRecord.opening none ⟨(s.started k i).tb.time, 0, 3⟩ .powerUp none, .running, true, none⟩ := by
  have free : ((s.initialise i).recordStart k i (Store.cleared s.store.pages).findings).quality = 3 := by
    simp [State.recordStart, State.initialise, State.quality, Agreement.free, AgreementState.quality]
  have worst : ∀ q : Fin 4, max q 3 = 3 := by decide
  rw [State.started]
  generalize (s.initialise i).recordStart k i (Store.cleared s.store.pages).findings = u at *
  obtain ⟨-, -, -, shift⟩ := u.begin_eq i (foundCheckpoint s.store.pages)
  have tb : (u.begin i (foundCheckpoint s.store.pages)).tb = u.tb.runTo i.endAt := rfl
  rw [shift, tb, free]
  simp only [worst, decide_true, Bool.or_true]
  rcases foundCheckpoint s.store.pages with _ | c <;> rfl

/-! ### A supply below its warning at the end of START (R169, R170) -/

/-- With no service to fail, a warning fails none. -/
theorem State.failRead_of_none (s : State) (none : s.req.service = none) : s.failRead = s := by
  rw [State.failRead, none]

/-- A filled power-fail image with no entry joins a queue that has room (R161, R164). -/
theorem State.placeFilled_of_room (s : State) (filled : s.store.image.state = .filled)
    (powerFail : s.store.image.powerFail = true) (noImage : s.store.queue.any (·.kind.isImage) = false)
    (room : s.store.queueFull = false) : s.placeFilled = s.enqueue .powerFail := by
  simp [State.placeFilled, State.placeImage, Store.imageWaits, Image.entryKind, filled, powerFail, noImage, room]

/-- A power-fail checkpoint asked of an EMPTY image is filled and queued (R161, R164). -/
theorem State.requestCheckpoint_of_rest (s : State) (image : s.store.image = Image.empty)
    (accepts : s.store.regionStopped .journal = false) (noImage : s.store.queue.any (·.kind.isImage) = false)
    (room : s.store.queueFull = false) :
    s.requestCheckpoint true = (s.fillImage true).enqueue .powerFail := by
  have empty : s.store.image.state = .empty := by rw [image, Image.empty]
  rw [State.requestCheckpoint, accepts, empty]
  exact (s.fillImage true).placeFilled_of_room rfl rfl noImage room

/-- A supply warning over a store at rest: a power-fail checkpoint is filled and queued (R164, R169, R170). -/
theorem State.takeWarning_of_rest (s : State) (service : s.req.service = none) (erase : s.store.erase = none)
    (image : s.store.image = Image.empty) (accepts : s.store.regionStopped .journal = false)
    (noImage : s.store.queue.any (·.kind.isImage) = false) (room : s.store.queueFull = false) :
    s.takeWarning = { s with
      supply := ⟨.warning, s.tb.elapsed, s.supply.riseAt, none⟩
      store := { s.store with
        queue := s.store.queue ++ [Entry.fresh .powerFail]
        image := ⟨.filled, some s.snapshot, true, false, false⟩
        timer := some (s.tb.elapsed + s.cfg.checkpointEvery * 1000000) } } := by
  generalize warned : ({ s with
    supply := { s.supply with state := .warning, warnAt := s.tb.elapsed, holdEnd := none } } : State) = w
  have warn : w.warnStore = (w.fillImage true).enqueue .powerFail := by
    rw [State.warnStore, ← warned]
    simp only [erase]
    exact State.requestCheckpoint_of_rest _ image accepts noImage room
  have read : w.warnStore.failRead = w.warnStore :=
    State.failRead_of_none _ (by rw [warn, ← warned]; exact service)
  rw [State.takeWarning, warned, read, warn, ← warned]
  simp only [State.enqueue, State.fillImage, State.restartTimer, image, Image.empty, State.snapshot, State.quality]

/-- The store at the end of START over the array left by a reset, before a supply below its warning is looked at. -/
def State.startedStore (s : State) (k : ResetCause) (i : StartInputs) : Store :=
  { (Store.cleared s.store.pages).scan with
    queue := [Entry.fresh (.archive (s.firstRecord k i))]
    timer := some (i.endAt + (loadConfiguration i.memory).checkpointEvery * 1000000) }

/-- At its end START looks at the supply, and changes nothing but the supply monitor and the store (R169). -/
theorem State.runStart_supply (s : State) (k : ResetCause) (i : StartInputs) (le : i.initAt ≤ i.recordAt)
    (le' : i.recordAt ≤ i.endAt) :
    ∃ supply store, s.runStart k i = { s.started k i with supply := supply, store := store }
      ∧ ((loadConfiguration i.memory).warningMv ≤ i.supply →
        supply = SupplyMonitor.normal ∧ store = s.startedStore k i)
      ∧ (i.supply < (loadConfiguration i.memory).warningMv →
        supply = ⟨.warning, i.endAt, 0, none⟩
          ∧ store = { s.startedStore k i with
            queue := (s.startedStore k i).queue ++ [Entry.fresh .powerFail]
            image := ⟨.filled, some (s.started k i).snapshot, true, false, false⟩ }) := by
  obtain ⟨-, -, -, cfg, -, -, -, -, -, -, -, -, -, -, normal, req, -, -, -⟩ := s.started_blocks k i
  obtain ⟨tb, -⟩ := s.started_tb k i le le'
  obtain ⟨-, -, store⟩ := s.started_log k i
  obtain ⟨-, image, erase, accepts⟩ := Store.scan_accepts s.store.pages
  have elapsed : (s.started k i).tb.elapsed = i.endAt := by rw [tb, Timebase.runTo]
  rw [s.runStart_eq k i, cfg, State.startedStore]
  clear tb
  generalize (Store.cleared s.store.pages).scan = scanned at *
  generalize s.started k i = u at *
  rcases Nat.lt_or_ge i.supply (loadConfiguration i.memory).warningMv with low | high
  · have journal : u.store.regionStopped .journal = false := by
      rw [store]
      exact accepts .journal
    rw [if_pos low, u.takeWarning_of_rest (by rw [req]; rfl) (by rw [store]; exact erase)
      (by rw [store]; exact image) journal (by rw [store]; rfl) (by rw [store]; rfl)]
    refine ⟨_, _, rfl, fun high => absurd low (Nat.not_lt.2 high), fun _ => ⟨?_, ?_⟩⟩
    · rw [elapsed, normal]
      rfl
    · rw [elapsed, cfg, store]
  · rw [if_neg (Nat.not_lt.2 high)]
    exact ⟨_, _, rfl, fun _ => ⟨normal, store⟩, fun low => absurd low (Nat.not_lt.2 high)⟩

end Sys2Proof.Machine
end

section
/-! PROOFS. START as a whole (R169 to R173, R187 to R192). -/

namespace Sys2Proof.Machine

theorem Store.findings_queued (st : Store) : st.findings.queued = st.scan.eraseList.length := by
  rw [Store.findings]

/-- Settles O60: a held part's START by the facts about a completed START, the scan by the findings of each region, and
the configuration field by field. -/
theorem startBringsThePartUp : Obligations.StartBringsThePartUp := by
  refine ⟨?runs, ?scan, loadConfiguration_of_bad, rfl, ?defaults, ?loaded⟩
  case runs =>
    intro s i
    refine ⟨exec_start_running s i, fun why held => ?_⟩
    intro runs
    refine ⟨fun stays => ?_, fun all => ?_⟩
    · rw [exec_start_held s i why held, if_neg ((start_runs_iff why i).not.2 stays)]
    · intro cfg found fault f first ran
      refine ⟨s.runStart why i, by rw [exec_start_held s i why held, if_pos ((start_runs_iff why i).2 all)], ?_⟩
      obtain ⟨-, -, le, le', -⟩ := all
      obtain ⟨supply, store, completed, high, low⟩ := s.runStart_supply why i le le'
      obtain ⟨phase, pending, out, cfg', console, own, marks, peers, chA, chB, sender, inputs, notices, groups, -, req,
        life, service, tally⟩ := s.started_blocks why i
      obtain ⟨tb, agr⟩ := s.started_tb why i le le'
      obtain ⟨log, flags, -⟩ := s.started_log why i
      have shift := s.started_shift why i
      have fEq : recoveredF (foundCheckpoint s.store.pages) = f := recoveredF_eq found.checkpoint
      have firstEq : ((foundCheckpoint s.store.pages).map (·.time.s)).getD 0 = first.s := by
        simp only [first, foundCheckpoint, Option.map_map]
        rfl
      obtain ⟨elapsed, g, a, hold, known, due, pulse⟩ :=
        Timebase.initial_runTo_kept (foundCheckpoint s.store.pages) i.initAt i.endAt
      have time : ∀ n, first.s < 4294967296 →
          ((Timebase.initial (foundCheckpoint s.store.pages) i.initAt).runTo n).time = ran (n - i.initAt) := by
        intro n top
        rw [(Timebase.initial_runTo _ i.initAt n (firstEq.trans_lt top)).1, firstEq, fEq]
        rfl
      have still : ∀ n, i.initAt = n →
          ((Timebase.initial (foundCheckpoint s.store.pages) i.initAt).runTo n).acc = 0
            ∧ ((Timebase.initial (foundCheckpoint s.store.pages) i.initAt).runTo n).time = first := by
        intro n same
        rw [show first = ⟨first.s, 0⟩ from rfl, ← firstEq]
        exact Timebase.initial_runTo_still _ _ n same
      have startsNumber : (s.firstRecord why i).seq =
          nextLogAtStart ((found.checkpoint.map Prod.snd).map (·.nextLog)) found.newest := rfl
      have startsTime : (s.firstRecord why i).dating.time =
          ((Timebase.initial (foundCheckpoint s.store.pages) i.initAt).runTo i.recordAt).time := rfl
      rw [completed]
      generalize s.started why i = u at *
      refine ⟨phase, pending, out, cfg', console, own, flags.trans ?_, ?_⟩
      · rw [startConfigFault_eq]
      rw [tb]
      refine ⟨elapsed, g, a.trans fEq, hold, known, due, pulse, fun top => ⟨time _ top, ?_⟩, still _, ?_⟩
      · rw [(Timebase.initial_runTo _ i.initAt _ (firstEq.trans_lt top)).2, fEq]
      refine ⟨agr.trans (by rw [fEq]; rfl), marks, peers, chA, chB, sender, inputs, notices, groups, req, life, service,
        ⟨(s.firstRecord why i).seq, (s.firstRecord why i).dating.time, ?_⟩, ?_, ?_⟩
      · intro record' store'
        have recordEq : s.firstRecord why i = record' := s.firstRecord_eq why i
        have storeEq : s.startedStore why i = store' := by rw [State.startedStore, recordEq]; rfl
        refine ⟨fun same => startsTime.trans (still _ same).2, fun top => startsTime.trans (time _ top), log.trans ?_,
          fun above => ?_, fun below => ?_, fun k c hc below n hn => ?_, fun hc n hn => ?_, fun k c hc hn => ?_,
          fun hc hn => ?_⟩
        · rw [recordEq]
        · rw [← storeEq]
          exact high above
        · rw [← storeEq]
          exact low below
        · rw [startsNumber, hc, hn]
          exact nextLogAtStart_of_both c.nextLog n below
        · rw [startsNumber, hc, hn]
          rfl
        · rw [startsNumber, hc, hn]
          rfl
        · rw [startsNumber, hc, hn]
          rfl
      · intro k c hc
        have ck : foundCheckpoint s.store.pages = some c := congrArg (Option.map Prod.snd) hc
        rw [ck] at tally shift
        exact ⟨tally, shift⟩
      · intro hc
        have ck : foundCheckpoint s.store.pages = none := congrArg (Option.map Prod.snd) hc
        rw [ck] at tally shift
        refine ⟨tally, shift.trans ?_⟩
        rw [tb]
  case scan =>
    intro pages st found slots blank used filled ring holds highest
    have blankEq : blank = fun p => (st.page p).isBlank := funext fun p => (st.page p).isBlank_eq.symm
    have usedEq : used = fun p => (st.page p).used := funext fun p => by rw [Page.used, Slot.isValid_eq] <;> rfl
    have findsBlank : ∀ r p, (ring r p).find? blank = st.blankAfter r p := fun r p => by rw [blankEq]; rfl
    have findsUsed : ∀ r p, (ring r p).find? used = st.usedAfter r p := fun r p => by rw [usedEq]; rfl
    have region : ∀ r, st.scan.region r = st.settledRegion r := Store.scan_region pages
    refine ⟨⟨st.lateOf, ?_, fun r => ?_⟩, ?_, ?_, ?_, ?_, ?_, st.findings_queued, ?_⟩
    · rw [blankEq, usedEq, ← List.append_assoc, ← List.append_assoc]
      conv_lhs => rw [Store.scan_eq]
      rw [← region, ← region, ← region]
      rfl
    · intro now
      have nowEq : now = st.settledRegion r := region r
      obtain ⟨-, seq, stopped⟩ := st.opened_fresh r
      rw [nowEq]
      refine ⟨stopped, fun none => seq.trans (st.sequenceAfter_of_none r none), fun k x h top =>
        seq.trans (st.sequenceAfter_of_highest r k x h top), fun unused => ?_, fun p k x hp hu hx top => ?_⟩
      · rw [usedEq] at unused
        simp only [findsBlank]
        rw [blankEq]
        exact st.settled_of_unused r unused
      · intro next oldest
        have newest : st.IsNewestPage r p := by
          rw [usedEq] at hu top
          exact ⟨hp, hu, k, x, hx, top⟩
        simp only [next, oldest, findsBlank, findsUsed]
        refine ⟨fun room => st.settled_of_room r p newest room, fun full none => ?_,
          fun full q next => st.settled_of_full r p q newest full next⟩
        obtain ⟨active, slot, ready, late⟩ := st.settled_of_stuck r p newest none
        refine ⟨active, ?_, ready, late⟩
        rw [Store.appendPoint, region r, active, slot]
        exact if_neg (Nat.not_lt.2 full)
    · intro none
      simp only [found, Store.findings, st.newestIn_of_none .journal none]
    · intro k c h
      simp only [found, Store.findings, st.newestIn_of_highest .journal k _ h.1 h.2]
    · intro none
      simp only [found, Store.findings, st.newestIn_of_none .trips none]
    · intro k a h
      simp only [found, Store.findings, st.newestIn_of_highest .trips k _ h.1 h.2]
    · rw [usedEq]
      exact st.findings_eq.1
    · rw [usedEq, st.findings_eq.2]
      exact exists_congr fun p => and_congr_right fun _ => and_congr_right fun hu => (st.page p).interrupted_iff hu
  case defaults =>
    intro d
    obtain ⟨inputs, modes, mask⟩ := defaults_lists .faulted
    refine ⟨rfl, rfl, inputs, rfl, rfl, modes, rfl, rfl, rfl, rfl, rfl, rfl, rfl, rfl, rfl, rfl, rfl, rfl, rfl, rfl,
      rfl, rfl, rfl, rfl, rfl, rfl, rfl, rfl, rfl, rfl, rfl, rfl, rfl, rfl, rfl, rfl, mask⟩
  case loaded =>
    intro m len check b w bit clamp apart c lsh sound
    have cEq : c = loadedConfiguration m := loadConfiguration_of_good m len check
    clear_value c
    subst cEq
    have status := loadedConfiguration_status m
    have inRange : (∀ x ∈ rangedFields m, x.2.1 ≤ x.1 ∧ x.1 ≤ x.2.2) ↔ sound := rangedFields_inRange_iff m
    obtain ⟨allowed, nearest⟩ := nearestShifts_nearest (b 142)
    refine ⟨fun h => status.trans (if_pos (inRange.2 h)), fun h => status.trans (if_neg (mt inRange.1 h)), ?_⟩
    refine ⟨List.length_map .., fun i hi => ⟨_, InputClass.code_ofCode _, loadedConfiguration_inputs m i hi⟩, rfl,
      List.length_map .., fun i hi => ⟨_, loadedConfiguration_modeTable m i hi, Mode.code_ofCode _⟩, rfl, rfl, rfl, rfl,
      rfl, rfl, rfl, rfl, rfl, rfl, rfl, rfl, fun k hk => getLsbD_ofNat_of_lt _ _ k hk, rfl, rfl, rfl, rfl,
      fun k one seven => getLsbD_groupReject _ k one seven, rfl, rfl, rfl, loadedConfiguration_holdoverLimit m, rfl,
      rfl, allowed, nearest, rfl, rfl, rfl, rfl, warningThreshold_eq _, fun k hk => getLsbD_ofNat_of_lt _ _ k hk⟩

end Sys2Proof.Machine
end

section
/-! PROOFS. The queues' places (R24, R82, R89, R160, R175): what the operations of the log, the store's queue, the transmit
lists and the request queue leave of them. -/

namespace Sys2Proof.Machine

/-! ### The write queue (R160, R161, R164, R168) -/

/-- The bounds look at the six queues alone. -/
theorem State.Bounded.of_eq {s t : State} (h : s.Bounded) (log : t.log = s.log) (notices : t.notices = s.notices)
    (req : t.req = s.req) (chA : t.chA = s.chA) (chB : t.chB = s.chB) (store : t.store = s.store) : t.Bounded := by
  simpa [State.Bounded, log, notices, req, chA, chB, store] using h

/-- A store put in whose write queue is within its places. -/
theorem State.Bounded.withStore {s : State} (h : s.Bounded) {st : Store} (queue : st.queue.length ≤ 16) :
    State.Bounded { s with store := st } := by
  obtain ⟨log, notices, req, chA, chB, -⟩ := h
  exact ⟨log, notices, req, chA, chB, queue⟩

theorem State.Bounded.queue_le {s : State} (h : s.Bounded) : s.store.queue.length ≤ 16 := by
  obtain ⟨-, -, -, -, -, queue⟩ := h
  exact queue

/-- An entry is queued only where there is a place (R160). -/
theorem State.Bounded.enqueue {s : State} (h : s.Bounded) (k : EntryKind) (room : s.store.queue.length < 16) :
    (s.enqueue k).Bounded :=
  h.withStore (by simp only [List.length_append, List.length_singleton]; omega)

theorem State.Bounded.placeImage {s : State} (h : s.Bounded) : s.placeImage.Bounded := by
  have queue := s.placeImage_queue h.queue_le
  unfold State.placeImage at queue ⊢
  split
  · rw [if_pos ‹_›] at queue
    exact h.withStore queue
  · exact h

/-- Removing an element leaves a list no longer than it was. -/
theorem dropLastWhere_length_le {α : Type} (p : α → Bool) (l : List α) : (dropLastWhere p l).length ≤ l.length := by
  simpa [dropLastWhere] using List.length_eraseP_le (p := p) (l := l.reverse)

theorem State.Bounded.displaceNewest {s : State} (h : s.Bounded) : s.displaceNewest.Bounded := by
  have lost : s.loseArchive.Bounded := h
  refine lost.withStore ?_
  dsimp only
  split <;> exact (dropLastWhere_length_le _ _).trans h.queue_le

theorem State.Bounded.placeFilled {s : State} (h : s.Bounded) : s.placeFilled.Bounded := by
  unfold State.placeFilled
  split
  · exact h.displaceNewest.placeImage
  · exact h.placeImage

theorem State.Bounded.fillImage {s : State} (h : s.Bounded) (powerFail : Bool) : (s.fillImage powerFail).Bounded := h

theorem State.Bounded.requestCheckpoint {s : State} (h : s.Bounded) (powerFail : Bool) :
    (s.requestCheckpoint powerFail).Bounded := by
  unfold State.requestCheckpoint
  split
  · exact h
  · split
    case h_1 => exact (h.fillImage _).placeFilled
    case h_2 =>
      dsimp only
      split
      · refine State.Bounded.placeFilled ((h.fillImage _).withStore ?_)
        simpa using h.queue_le
      · exact h.fillImage _
    case h_3 => exact h

theorem State.Bounded.queueArchive {s : State} (h : s.Bounded) (r : Record) : (s.queueArchive r).Bounded := by
  unfold State.queueArchive
  split
  · exact h
  · rename_i open'
    exact h.enqueue _ (by simp_all [Store.queueFull])

/-- A shift record joins at a place that is free, or at one that a checkpoint has made (R161). -/
theorem State.Bounded.queueShift {s : State} (h : s.Bounded) (c : ClosedShift) : (s.queueShift c).Bounded := by
  unfold State.queueShift
  split
  · exact h
  · split
    · rename_i room
      exact h.enqueue _ (by simpa [Store.queueFull] using room)
    · split
      · rename_i yields
        obtain ⟨e, mem, gives⟩ := List.any_eq_true.1 yields
        have removed := List.length_eraseP_of_mem mem gives
        have places := h.queue_le
        have := List.length_pos_of_mem mem
        exact State.Bounded.enqueue (h.withStore (by dsimp only; omega)) _ (by dsimp only; omega)
      · exact h

theorem State.Bounded.dropEntry {s : State} (h : s.Bounded) (k : EntryKind) : (s.dropEntry k).Bounded := by
  unfold State.dropEntry
  split <;> exact h

theorem State.Bounded.dropEntries {s : State} (h : s.Bounded) (l : List Entry) :
    (l.foldl (fun u e => u.dropEntry e.kind) s).Bounded := by
  induction l generalizing s with
  | nil => exact h
  | cons e l ih => exact ih (h.dropEntry e.kind)

theorem State.Bounded.stopWrites {s : State} (h : s.Bounded) (r : Region) : (s.stopWrites r).Bounded := by
  have fewer : State.Bounded
      { s with store := { s.store with queue := s.store.queue.filter fun e => !decide (e.kind.region = r) } } :=
    h.withStore ((List.length_filter_le _ _).trans h.queue_le)
  have dropped := fewer.dropEntries (s.store.queue.filter fun e => decide (e.kind.region = r))
  unfold State.stopWrites
  refine State.Bounded.placeImage ?_
  split
  · exact dropped
  · exact dropped

/-! ### The log, the transmit lists and the requests (R24, R82, R83, R175) -/

theorem State.Bounded.append {s : State} (h : s.Bounded) (d : Dating) (b : RecordBody) : (s.append d b).Bounded := by
  obtain ⟨log, notices, req, chA, chB, queue⟩ := h
  have pushed : State.Bounded { s with
      log := s.log.push ⟨s.log.next, d, b⟩
      flags := { s.flags with logOverrun := s.flags.logOverrun || decide (256 ≤ s.log.records.length) } } :=
    ⟨(TripLog.push_length _ _ log).1, notices, req, chA, chB, queue⟩
  exact pushed.queueArchive _

theorem State.Bounded.appendNow {s : State} (h : s.Bounded) (b : RecordBody) : (s.appendNow b).Bounded := h.append _ b

theorem State.Bounded.send {s : State} (h : s.Bounded) (k : TelegramKind) (target : Nat) (p : List Byte) :
    (s.send k target p).Bounded := by
  obtain ⟨log, notices, req, chA, chB, queue⟩ := h
  exact ⟨log, notices, req, s.chA.offer_length _ _ chA, s.chB.offer_length _ _ chB, queue⟩

theorem State.Bounded.answer {s : State} (h : s.Bounded) (r : Request) (st : Status) (c : List Byte) :
    (s.answer r st c).Bounded := by
  have sent := h.send .answer r.sender
  unfold State.answer
  dsimp only
  split
  · exact sent _
  · exact sent _

theorem State.Bounded.setLine {s : State} (h : s.Bounded) (ch : Channel) {lc : LineController}
    (list : lc.list.length ≤ 8) : (s.setLine ch lc).Bounded := by
  obtain ⟨log, notices, req, chA, chB, queue⟩ := h
  cases ch
  · exact ⟨log, notices, req, list, chB, queue⟩
  · exact ⟨log, notices, req, chA, list, queue⟩

theorem State.Bounded.list_le {s : State} (h : s.Bounded) (ch : Channel) : (s.line ch).list.length ≤ 8 := by
  obtain ⟨-, -, -, chA, chB, -⟩ := h
  cases ch
  · exact chA
  · exact chB

theorem State.Bounded.popRequest {s : State} (h : s.Bounded) : s.popRequest.Bounded := by
  obtain ⟨log, notices, req, chA, chB, queue⟩ := h
  exact ⟨log, notices, (by simp [State.popRequest]; omega), chA, chB, queue⟩

theorem State.Bounded.enterRequest {s : State} (h : s.Bounded) (r : Request) : (s.enterRequest r).Bounded := by
  obtain ⟨log, notices, req, chA, chB, queue⟩ := h
  unfold State.enterRequest
  split
  · exact ⟨log, notices, (by simp only [List.length_append, List.length_singleton]; omega), chA, chB, queue⟩
  · exact ⟨log, notices, req, chA, chB, queue⟩

theorem State.Bounded.enterNotice {s : State} (h : s.Bounded) (n : Notice) : (s.enterNotice n).Bounded := by
  obtain ⟨log, notices, req, chA, chB, queue⟩ := h
  unfold State.enterNotice
  split
  · exact ⟨log, (by simp only [List.length_append, List.length_singleton]; omega), req, chA, chB, queue⟩
  · refine ⟨log, ?_, req, chA, chB, queue⟩
    simp only [List.length_append, List.length_tail, List.length_singleton]
    omega

/-- Serving a request keeps the bounds where its owner does. -/
theorem State.Bounded.serve {s : State} (h : s.Bounded) (code : Nat) (owner : State → Request → State)
    (owned : ∀ (u : State) (r : Request), u.Bounded → (owner u r).Bounded) : (s.serve code owner).Bounded := by
  rcases s.serve_cases code owner with e | ⟨r, e⟩ | ⟨r, e⟩ <;> rw [e]
  · exact h
  · exact h.popRequest.answer _ _ _
  · exact owned _ _ h.popRequest

theorem State.Bounded.failRead {s : State} (h : s.Bounded) : s.failRead.Bounded := by
  unfold State.failRead
  split
  · exact State.Bounded.answer (s := { s with req := { s.req with service := none } }) h _ _ _
  · exact h

theorem State.Bounded.endClearFlags {s : State} (h : s.Bounded) : s.endClearFlags.Bounded := by
  unfold State.endClearFlags
  split
  · exact State.Bounded.answer (s := { s with req := { s.req with service := none } }) h _ _ _
  · exact h

theorem State.Bounded.takeWarning {s : State} (h : s.Bounded) : s.takeWarning.Bounded := by
  unfold State.takeWarning State.warnStore
  refine State.Bounded.failRead (State.Bounded.requestCheckpoint ?_ true)
  split <;> exact h

end Sys2Proof.Machine
end

section
/-! PROOFS. No step lets a queue grow past its places (R24, R82, R89, R160, R175): the blocks that append, send and request
checkpoints, and then every command. -/

namespace Sys2Proof.Machine

/-! ### The groups, the inputs and the tallies -/

theorem State.Bounded.setGroup {s : State} (h : s.Bounded) (g : Nat) (x : Group) : (s.setGroup g x).Bounded :=
  h.of_eq (by simp) (by simp) (by simp) (by simp) (by simp) (by simp)

theorem State.Bounded.closeGroup {s : State} (h : s.Bounded) (g : Nat) : (s.closeGroup g).Bounded := by
  have closed := h.setGroup g ((s.group g).close s.holdEndNow)
  unfold State.closeGroup
  dsimp only
  split
  · exact closed
  · split
    · exact closed.appendNow _
    · exact closed.appendNow _

theorem State.Bounded.handMember {s : State} (h : s.Bounded) (g : Nat) (m : Member) : (s.handMember g m).Bounded := by
  have opens : (s.openGroup g m).Bounded := by
    unfold State.openGroup
    dsimp only
    split
    · exact (h.setGroup _ _).closeGroup _
    · exact h.setGroup _ _
  unfold State.handMember
  dsimp only
  split
  · split
    · exact h.appendNow _
    · split
      · exact h.appendNow _
      · exact h.setGroup _ _
  · exact h.appendNow _
  · exact opens

theorem State.Bounded.closeIfDue {s : State} (h : s.Bounded) (g : Nat) : (s.closeIfDue g).Bounded := by
  unfold State.closeIfDue
  split
  · exact h.closeGroup g
  · exact h

theorem State.Bounded.closeDue {s : State} (h : s.Bounded) (gs : List Nat) : (s.closeDue gs).Bounded := by
  induction gs generalizing s with
  | nil => exact h
  | cons g gs ih => exact ih (h.closeIfDue g)

theorem State.Bounded.reportInput {s : State} (h : s.Bounded) (k : InputKind) (i : Nat) (l : Bool) (d : Dating)
    (x : Bool) : (s.reportInput k i l d x).Bounded := by
  unfold State.reportInput
  dsimp only
  split
  · exact h.append _ _
  · exact (h.append _ _).send _ _ _

theorem State.Bounded.takeTrip {s : State} (h : s.Bounded) (i seq : Nat) (d : Dating) : (s.takeTrip i seq d).Bounded := by
  have counted : (s.modShift ShiftRecord.countTrip).Bounded := h
  unfold State.takeTrip
  dsimp only
  split
  · exact counted
  · exact counted.handMember _ _

theorem State.Bounded.inputChange {s : State} (h : s.Bounded) (i : Nat) (t : InputTest) (x : Bool) :
    (s.inputChange i t x).Bounded := by
  unfold State.inputChange
  dsimp only
  split
  · exact (h.reportInput ..).takeTrip ..
  · exact h.reportInput ..

theorem State.Bounded.inputEvent {s : State} (h : s.Bounded) (i : Nat) (c : InputChannel) (t : InputTest) :
    (s.inputEvent i c t).Bounded := by
  have linked : (s.associate i t).Bounded := by
    unfold State.associate
    split <;> exact h
  have set : ∀ c, ((s.associate i t).setInput i c).Bounded := fun _ => linked
  unfold State.inputEvent
  dsimp only
  split
  · exact set _
  · split
    · exact (set _).reportInput ..
    · exact (set _).inputChange ..

theorem State.Bounded.sampleInput {s : State} (h : s.Bounded) (lines : BitVec 16) (i : Nat) :
    (s.sampleInput lines i).Bounded := by
  unfold State.sampleInput
  dsimp only
  split
  · split
    · exact h
    · unfold State.inputQualifies
      split
      · exact h
      · exact h.inputEvent ..
  · exact h

theorem State.Bounded.sampleInputs {s : State} (h : s.Bounded) (lines : BitVec 16) (l : List Nat) :
    (l.foldl (fun t i => t.sampleInput lines i) s).Bounded := by
  induction l generalizing s with
  | nil => exact h
  | cons i l ih => exact ih (h.sampleInput lines i)

theorem State.Bounded.judgeService {s : State} (h : s.Bounded) : s.judgeService.Bounded := by
  unfold State.judgeService
  split
  · exact State.Bounded.appendNow (s := s.setServiceDue true) h _
  · exact h

theorem State.Bounded.creditTick {s : State} (h : s.Bounded) : s.creditTick.Bounded := by
  have credited : s.creditTallies.Bounded := h
  unfold State.creditTick
  split
  · exact credited.judgeService
  · exact credited

theorem State.Bounded.accept {s : State} (h : s.Bounded) (c : Candidate) : (s.accept c).Bounded := by
  have moved : (s.moveTallies c).Bounded := h
  have logged := moved.judgeService.appendNow (.modeChange s.tally.accepted c.mode c.onset (s.tripStop c))
  exact State.Bounded.requestCheckpoint (s := State.takeMode _ c.mode) logged false

theorem State.Bounded.qualifyCombination {s : State} (h : s.Bounded) (t : StatusTest) :
    (s.qualifyCombination t).Bounded := by
  unfold State.qualifyCombination
  split
  · split
    · exact h
    · exact State.Bounded.appendNow (s := (s.settleStatus t.comb).clearCandidate.setInvalidLogged true) h _
  · split
    · exact h
    · split
      · exact h
      · unfold State.formCandidate
        split
        · exact State.Bounded.accept (s := (s.settleStatus t.comb).setInvalidLogged false) h _
        · exact h

theorem State.Bounded.sampleStatus {s : State} (h : s.Bounded) (comb : Nat) : (s.sampleStatus comb).Bounded := by
  have begins : (s.beginStatusTest comb).Bounded := by
    unfold State.beginStatusTest
    split
    · exact h.qualifyCombination _
    · exact h
  unfold State.sampleStatus
  split
  · split
    · split
      · exact h.qualifyCombination _
      · exact h
    · split
      · exact h
      · exact begins
  · split
    · exact h
    · exact begins

/-! ### The shift unit, and steps and seconds of station time -/

theorem State.Bounded.closeShift {s : State} (h : s.Bounded) (r : ShiftRecord) (t : StationTime) (c : CloseCause)
    (n : ShiftRecord) : (s.closeShift r t c n).Bounded := by
  have queued := (h.appendNow (.shiftClose r.number c)).queueShift ⟨r, t, s.tb.g, c⟩
  exact State.Bounded.requestCheckpoint (s := State.zeroDs (State.openShift _ n)) queued false

theorem State.Bounded.evaluateDepth {s : State} (h : s.Bounded) (k : Nat) : (s.evaluateDepth k).Bounded := by
  induction k generalizing s with
  | zero => exact h
  | succ k ih =>
    unfold State.evaluateDepth
    repeat' split
    case h_1.isTrue => exact ih (h.closeShift ..)
    all_goals exact h

theorem State.Bounded.evaluate {s : State} (h : s.Bounded) : s.evaluate.Bounded := h.evaluateDepth 2

theorem State.Bounded.firstEvaluation {s : State} (h : s.Bounded) : s.firstEvaluation.Bounded := by
  have ended : s.endDeferral.Bounded := h
  unfold State.firstEvaluation
  dsimp only
  split
  case h_1 => exact State.Bounded.evaluate (s := s.endDeferral.modShift _) h
  case h_2 => exact ended.evaluate
  case h_3 => exact State.Bounded.evaluate (s := s.endDeferral.modShift _) h
  case h_4 =>
    split
    · exact State.Bounded.evaluate (s := (s.endDeferral.modShift _).setHandover _) h
    · exact (ended.closeShift ..).evaluate

theorem State.Bounded.takeHandover {s : State} (h : s.Bounded) (n : HandoverNotice) : (s.takeHandover n).Bounded := by
  have signOff : (s.takeSignOff n).Bounded := by
    unfold State.takeSignOff
    repeat' split
    all_goals exact h
  have takeOver : (s.takeTakeOver n).Bounded := by
    unfold State.takeTakeOver
    dsimp only
    repeat' split
    case isTrue.isFalse => exact (h.closeShift ..).evaluate
    all_goals exact h
  unfold State.takeHandover
  repeat' split
  · exact h
  · exact signOff
  · exact takeOver

theorem State.Bounded.tellQuality {s : State} (h : s.Bounded) (old : AgreementState) : (s.tellQuality old).Bounded := by
  unfold State.tellQuality
  split <;> exact h

theorem State.Bounded.tellLeftFree {s : State} (h : s.Bounded) (old : AgreementState) :
    (s.tellLeftFree old).Bounded := by
  unfold State.tellLeftFree
  split
  · exact h.firstEvaluation
  · exact h

theorem State.Bounded.queueSecond {s : State} (h : s.Bounded) : s.startPulse.queueBeacon.Bounded := by
  have pulsed : s.startPulse.Bounded := by
    unfold State.startPulse
    split <;> exact h
  exact pulsed.send _ _ _

theorem State.Bounded.step {s : State} (h : s.Bounded) (c : Int) (w : StepCause) (n : AgreementState) (gs : List Nat) :
    (State.step s c w n gs).Bounded := by
  have jumped : ((s.jump (stepTarget s.instant c) n).writeA s.agr.f).Bounded := h
  have logged := (jumped.closeDue gs).appendNow (.timeStep ((stepTarget s.instant c : Int) - s.instant) w)
  have stepped : (s.stepped c w n gs).Bounded :=
    State.Bounded.tellLeftFree (State.Bounded.tellQuality (s := State.countStep _ _) logged s.agr.state) s.agr.state
  rw [State.step_eq_stepped]
  split
  · exact stepped.queueSecond.evaluate
  · exact stepped

theorem State.Bounded.applyDecision {s : State} (h : s.Bounded) (d : Decision) (gs : List Nat) :
    (s.applyDecision d gs).Bounded := by
  have counts : (s.setCounts d).Bounded := h
  have enters : ∀ u : State, u.Bounded → (u.enterState d.state).Bounded := fun u hu =>
    State.Bounded.tellLeftFree (State.Bounded.tellQuality (s := u.setAgreement d.state) hu _) _
  unfold State.applyDecision
  dsimp only
  split
  case h_4 => exact counts.step ..
  all_goals exact enters _ counts

theorem State.Bounded.roundIfBoundary {s : State} (h : s.Bounded) (d : SecondDue) (gs : List Nat) :
    (s.roundIfBoundary d gs).Bounded := by
  unfold State.roundIfBoundary
  split
  · have held : (s.endHold.mapPeers Peer.takeStock).Bounded := h
    exact held.applyDecision _ gs
  · exact h

theorem State.Bounded.deliverSecond {s : State} (h : s.Bounded) (o : SecondOrder) : (s.deliverSecond o).Bounded := by
  unfold State.deliverSecond
  split
  · exact h
  · have queued := State.Bounded.queueSecond (s := s.takeSecond) h
    dsimp only
    split
    · exact queued.evaluate.roundIfBoundary _ _
    · exact (queued.roundIfBoundary _ _).evaluate

theorem State.Bounded.microsecond {s : State} (h : s.Bounded) (p : MicroPart) (o : SecondOrder) :
    (s.microsecond p o).Bounded := by
  have ticked : (s.endMicrosecond o).tick.Bounded := (h.deliverSecond o).endClearFlags
  cases p with
  | whole => exact ticked.deliverSecond o
  | advance => exact ticked
  | signal => exact h.deliverSecond o

/-! ### The bus -/

theorem State.Bounded.loseCopy {s : State} (h : s.Bounded) (ch : Channel) (c : Copy) : (s.loseCopy ch c).Bounded := by
  unfold State.loseCopy
  repeat' split
  case h_2.isFalse =>
    exact h.setLine (otherChannel ch) (lc := { s.line (otherChannel ch) with list := _ })
      (by simpa using h.list_le (otherChannel ch))
  all_goals exact h

theorem State.Bounded.route {s : State} (h : s.Bounded) (ch : Channel) (r : Received) (p : Stamp) :
    (s.route ch r p).Bounded := by
  have beacon : (s.takeBeacon ch r p).Bounded := by
    unfold State.takeBeacon
    dsimp only
    split <;> exact h
  have member : (s.offerMember r).Bounded := by
    unfold State.offerMember
    dsimp only
    split
    · exact h.handMember _ _
    · exact h
  have notice : ((s.offerMember r).offerNotice r).Bounded := by
    unfold State.offerNotice
    dsimp only
    split
    · exact member.enterNotice _
    · exact member
  unfold State.route
  repeat' split
  case h_1 => exact beacon
  case h_2 => exact notice
  case h_3 => exact h.takeHandover _
  case h_4.isTrue => exact h.enterRequest _
  all_goals exact h

theorem State.Bounded.receive {s : State} (h : s.Bounded) (ch : Channel) (r : Received) (p : Stamp) :
    (s.receive ch r p).Bounded := by
  unfold State.receive
  dsimp only
  split
  · exact State.Bounded.route (s := s.setPeer _ _) h ch r p
  · split <;> exact h

/-! ### The record store -/

@[simp] theorem Store.setRegion_queue (st : Store) (r : Region) (v : RegionState) :
    (st.setRegion r v).queue = st.queue := by
  cases r <;> rfl

@[simp] theorem Store.setSlot_queue (st : Store) (p i : Nat) (x : Slot) : (st.setSlot p i x).queue = st.queue := rfl

@[simp] theorem Store.prepareReady_queue (st : Store) (r : Region) : (st.prepareReady r).queue = st.queue := by
  unfold Store.prepareReady
  split
  · simp
  · rw [Store.queueOldest_eq]

@[simp] theorem Store.pageChange_queue (st : Store) (r : Region) : (st.pageChange r).queue = st.queue := by
  unfold Store.pageChange
  split <;> simp

@[simp] theorem Store.moveAppendPoint_queue (st : Store) (r : Region) : (st.moveAppendPoint r).queue = st.queue := by
  unfold Store.moveAppendPoint
  dsimp only
  split <;> simp

@[simp] theorem Store.completeErase_queue (st : Store) (p : Nat) : (st.completeErase p).queue = st.queue := by
  unfold Store.completeErase
  dsimp only
  split
  · simp
  · split <;> simp

@[simp] theorem Store.beginRecord_queue_length (st : Store) (i : Nat) (e : Entry) (page slot : Nat) :
    (st.beginRecord i e page slot).queue.length = st.queue.length := by
  simp [Store.beginRecord]

theorem State.Bounded.endImageWrite {s : State} (h : s.Bounded) : s.endImageWrite.Bounded := by
  have emptied : State.Bounded { s with store := { s.store with image := Image.empty } } := h
  unfold State.endImageWrite
  dsimp only
  split
  · exact emptied.requestCheckpoint _
  · exact emptied

/-- The store once a record is programmed whole (R158): its slot valid, its entry gone, the append point moved. -/
def Store.recordDone (st : Store) (p : Programming) (i : Nat) (e : Entry) : Store :=
  let filled := match st.contentOf e with
    | some c => st.setSlot p.page p.slot (.valid p.seq c)
    | none => st
  Store.moveAppendPoint { filled with queue := filled.queue.eraseIdx i, programming := none } p.region

@[simp] theorem Store.recordDone_queue (st : Store) (p : Programming) (i : Nat) (e : Entry) :
    (st.recordDone p i e).queue = st.queue.eraseIdx i := by
  unfold Store.recordDone
  dsimp only
  split <;> simp

theorem State.recordWritten_eq (s : State) (p : Programming) (i : Nat) (e : Entry) :
    s.recordWritten p i e =
      (if e.kind.isImage then State.endImageWrite { s with store := s.store.recordDone p i e }
        else { s with store := s.store.recordDone p i e }).placeImage :=
  rfl

theorem State.Bounded.recordWritten {s : State} (h : s.Bounded) (p : Programming) (i : Nat) (e : Entry) :
    (s.recordWritten p i e).Bounded := by
  have done : State.Bounded { s with store := s.store.recordDone p i e } :=
    h.withStore (by simpa using (List.length_eraseIdx_le _ _).trans h.queue_le)
  rw [State.recordWritten_eq]
  refine State.Bounded.placeImage ?_
  split
  · exact done.endImageWrite
  · exact done

theorem State.Bounded.setStoreFlag {s : State} (h : s.Bounded) (f : StoreFault) : (s.setStoreFlag f).Bounded :=
  h.of_eq (by simp) (by simp) (by simp) (by simp) (by simp) (by simp)

theorem State.Bounded.recordFailed {s : State} (h : s.Bounded) (p : Programming) (i : Nat) (e : Entry) :
    (s.recordFailed p i e).Bounded := by
  unfold State.recordFailed
  dsimp only
  split
  · refine (State.Bounded.appendNow (State.Bounded.setStoreFlag (h.withStore ?_) _) _).stopWrites _
    simpa using h.queue_le
  · exact h.withStore (by simpa using h.queue_le)

theorem State.Bounded.failErase {s : State} (h : s.Bounded) (p : Nat) : (s.failErase p).Bounded := by
  have leftOut : State.Bounded { s with store := { s.store with erase := none, leftOut := s.store.leftOut ++ [p] } } := h
  have logged := (leftOut.setStoreFlag .erase).appendNow (.storeFault (regionOfPage p) .erase p)
  unfold State.failErase
  dsimp only
  split
  · exact logged.stopWrites _
  · split
    · refine logged.withStore ?_
      rw [Store.queueOldest_eq]
      exact logged.queue_le
    · exact logged

/-! ### Requests (R86, R93, R108, R127 to R129, R183 to R185) -/

theorem State.Bounded.beginRead {s : State} (h : s.Bounded) (r : Request) : (s.beginRead r).Bounded := by
  unfold State.beginRead
  split
  · exact h
  · exact h.answer _ _ _

theorem State.Bounded.serveFetchLog {s : State} (h : s.Bounded) (r : Request) : (s.serveFetchLog r).Bounded := by
  have removed : ∀ n, State.Bounded { s with log := s.log.remove n } := by
    obtain ⟨log, notices, req, chA, chB, queue⟩ := h
    exact fun n => ⟨by simp [TripLog.remove]; omega, notices, req, chA, chB, queue⟩
  unfold State.serveFetchLog
  dsimp only
  split
  · exact h.answer _ _ _
  · exact (removed _).answer _ _ _

theorem State.Bounded.serveFetchNotices {s : State} (h : s.Bounded) (r : Request) :
    (s.serveFetchNotices r).Bounded := by
  have removed : ∀ n, State.Bounded { s with notices := s.notices.drop n } := by
    obtain ⟨log, notices, req, chA, chB, queue⟩ := h
    exact fun n => ⟨log, by simp; omega, req, chA, chB, queue⟩
  unfold State.serveFetchNotices
  dsimp only
  split
  · exact h.answer _ _ _
  · exact (removed _).answer _ _ _

theorem State.Bounded.serveReadShift {s : State} (h : s.Bounded) (r : Request) : (s.serveReadShift r).Bounded := by
  unfold State.serveReadShift
  split
  · exact h.answer _ _ _
  · exact h.beginRead r

theorem State.Bounded.serveAckGroup {s : State} (h : s.Bounded) (r : Request) : (s.serveAckGroup r).Bounded := by
  unfold State.serveAckGroup
  split
  · exact h.answer _ _ _
  · exact h.answer _ _ _
  · exact (h.setGroup _ _).answer _ _ _

theorem State.Bounded.preset {s : State} (h : s.Bounded) (target : TallyTarget) (value : Nat) :
    (s.preset target value).Bounded := by
  have logged := State.Bounded.appendNow (s := s.setTally value target) h
    (.preset target (s.tally.value target) (min value tallyTop))
  unfold State.preset
  dsimp only
  split
  · refine State.Bounded.requestCheckpoint ?_ false
    unfold State.judgePreset
    split
    · exact logged.judgeService
    · exact logged
  · exact logged.requestCheckpoint false

theorem State.Bounded.servePreset {s : State} (h : s.Bounded) (r : Request) : (s.servePreset r).Bounded := by
  unfold State.servePreset
  dsimp only
  split
  · exact h.answer _ _ _
  · split
    · exact h.answer _ _ _
    · split
      · exact State.Bounded.answer (s := s.setProtectionFault) h _ _ _
      · exact (h.preset _ _).answer _ _ _

theorem State.Bounded.protect {s : State} (h : s.Bounded) (set : TallySet) (on : Bool) (action : ProtectAction) :
    (s.protect set on action).Bounded :=
  (State.Bounded.appendNow (s := s.setProtect on set) h _).requestCheckpoint false

theorem State.Bounded.serveProtect {s : State} (h : s.Bounded) (r : Request) : (s.serveProtect r).Bounded := by
  unfold State.serveProtect
  dsimp only
  split
  · exact h.answer _ _ _
  · split
    · exact (h.protect _ _ _).answer _ _ _
    · split
      · exact h.answer _ _ _
      · exact (h.protect _ _ _).answer _ _ _

theorem State.Bounded.serveLockDown {s : State} (h : s.Bounded) (r : Request) : (s.serveLockDown r).Bounded := by
  have locked : ∀ set, (s.lock set).Bounded := fun set => by cases set <;> exact h
  unfold State.serveLockDown
  dsimp only
  split
  · exact h.answer _ _ _
  · exact ((locked _).protect _ _ _).answer _ _ _

theorem State.Bounded.serveSetTime {s : State} (h : s.Bounded) (gs : List Nat) (r : Request) :
    (s.serveSetTime gs r).Bounded := by
  have known : s.knowSeconds.Bounded := h
  unfold State.serveSetTime
  split
  · exact (known.step ..).answer _ _ _
  · exact h.answer _ _ _

/-! ### Resets and START (R186, R187) -/

theorem State.enterReset_bounded (s : State) (k : ResetCause) : (s.enterReset k).Bounded := by
  simp [State.Bounded, State.enterReset, State.clearVolatile, TripLog.empty, RequestHandler.cleared,
    LineController.cleared, Store.cleared]

theorem State.initialise_bounded (s : State) (i : StartInputs) : (s.initialise i).Bounded := by
  obtain ⟨queue, -⟩ := Store.scan_accepts s.store.pages
  simp [State.Bounded, State.initialise, State.clearVolatile, TripLog.empty, RequestHandler.cleared,
    LineController.cleared, queue]

theorem State.Bounded.recordStart {s : State} (h : s.Bounded) (k : ResetCause) (i : StartInputs) (f : ScanFindings) :
    (s.recordStart k i f).Bounded :=
  State.Bounded.appendNow (s := { s with tb := s.tb.runTo i.recordAt }) h _

theorem State.Bounded.begin {s : State} (h : s.Bounded) (i : StartInputs) (ck : Option Checkpoint) :
    (s.begin i ck).Bounded := by
  obtain ⟨log, notices, req, -, -, queue⟩ := h
  exact ⟨log, notices, req, Nat.zero_le 8, Nat.zero_le 8, queue⟩

theorem State.runStart_bounded (s : State) (k : ResetCause) (i : StartInputs) : (s.runStart k i).Bounded := by
  have started : (s.started k i).Bounded := ((s.initialise_bounded i).recordStart k i _).begin i _
  rw [State.runStart_eq]
  split
  · exact started.takeWarning
  · exact started

/-! ### Every command -/

/-- A command on a channel that leaves its list no longer. -/
theorem State.Bounded.setLine_le {s : State} (h : s.Bounded) (ch : Channel) {lc : LineController}
    (list : lc.list.length ≤ (s.line ch).list.length) : (s.setLine ch lc).Bounded :=
  h.setLine ch (list.trans (h.list_le ch))

/-- Every command keeps the bounds. -/
theorem exec_bounded (c : Instr) (s t : State) (h : s.Bounded) (e : exec c s = .next t) : t.Bounded := by
  cases c with
  | elapsedMicrosecond p o =>
    obtain rfl := Host.Outcome.next.inj e
    split
    · exact h.microsecond p o
    · exact h
  | channelQuiet ch | channelActivity ch | timingMark ch =>
    obtain rfl := Host.Outcome.next.inj e
    split
    · exact h.setLine_le ch (le_refl _)
    · exact h
  | deferralEnd ch =>
    obtain rfl := Host.Outcome.next.inj e
    split
    · exact h.setLine_le ch (by simp [LineController.beginSend])
    · exact h
  | beaconStamp ch =>
    obtain rfl := Host.Outcome.next.inj e
    split
    · split
      · exact h.setLine_le ch (by simp)
      · exact h
    · exact h
  | collision ch =>
    obtain rfl := Host.Outcome.next.inj e
    split
    · dsimp only
      split
      · split
        · exact (h.setLine_le ch (List.length_eraseIdx_le _ _)).loseCopy ch _
        · exact h.setLine_le ch (by simp [LineController.collide])
      · exact h
    · exact h
  | sendingComplete ch =>
    obtain rfl := Host.Outcome.next.inj e
    split
    · dsimp only
      split
      · split
        · exact h.setLine_le ch (List.length_eraseIdx_le _ _)
        · exact h
      · exact h
    · exact h
  | reception ch data odd =>
    obtain rfl := Host.Outcome.next.inj e
    split
    · have ended : (s.setLine ch { (s.line ch).active s.tb.elapsed with stamp := none }).Bounded :=
        h.setLine_le ch (le_refl _)
      dsimp only
      split
      · exact ended.setLine_le ch (le_refl _)
      · split
        · exact ended
        · exact ended.receive ch _ _
    · exact h
  | consoleRequest target payload =>
    obtain rfl := Host.Outcome.next.inj e
    split
    · split
      · exact h.enterRequest _
      · split
        · exact (h.send _ _ _).enterRequest _
        · exact h.send _ _ _
    · exact h
  | consoleHandoverNotice payload =>
    obtain rfl := Host.Outcome.next.inj e
    split
    · exact (h.send _ _ _).takeHandover _
    · exact h
  | inputSample lines order =>
    obtain rfl := Host.Outcome.next.inj e
    split
    · exact h.sampleInputs lines _
    · exact h
  | chatterEnd i =>
    obtain rfl := Host.Outcome.next.inj e
    split
    · exact State.Bounded.reportInput (s := s.setInput i _) h ..
    · exact h
  | groupClose g =>
    obtain rfl := Host.Outcome.next.inj e
    split
    · exact h.closeIfDue g
    · exact h
  | groupHoldEnd g =>
    obtain rfl := Host.Outcome.next.inj e
    split
    · exact h.setGroup g _
    · exact h
  | statusSample lines =>
    obtain rfl := Host.Outcome.next.inj e
    split
    · exact h.sampleStatus _
    · exact h
  | dwellEnd =>
    obtain rfl := Host.Outcome.next.inj e
    split
    · split
      · exact h.accept _
      · exact h
    · exact h
  | elapsedMillisecondTick =>
    obtain rfl := Host.Outcome.next.inj e
    split
    · exact h.creditTick
    · exact h
  | checkpointIntervalExpiry =>
    obtain rfl := Host.Outcome.next.inj e
    split
    · exact h.requestCheckpoint false
    · exact h
  | storeWriteBegin =>
    obtain rfl := Host.Outcome.next.inj e
    split
    · exact h.withStore (by simpa using h.queue_le)
    · exact h
  | storeWriteEnd verified =>
    obtain rfl := Host.Outcome.next.inj e
    split
    · split
      · exact h.recordWritten ..
      · exact h.recordFailed ..
    · exact h
  | eraseComplete =>
    obtain rfl := Host.Outcome.next.inj e
    split
    · split
      · exact h.withStore (by simpa using h.queue_le)
      · exact h
    · exact h
  | eraseFail =>
    obtain rfl := Host.Outcome.next.inj e
    split
    · split
      · exact h.failErase _
      · exact h
    · exact h
  | storeRead =>
    obtain rfl := Host.Outcome.next.inj e
    split
    · split
      · exact State.Bounded.answer (s := { s with req := { s.req with service := none } }) h ..
      · exact h
    · exact h
  | supplyWarning =>
    obtain rfl := Host.Outcome.next.inj e
    split
    · exact h.takeWarning
    · exact h
  | powerDip =>
    obtain rfl := Host.Outcome.next.inj e
    split
    · exact State.Bounded.appendNow (s := { s with supply := _, store := s.store.requeueAbandoned }) h _
    · exact h
  | status | readTime | readPeers | readGroup | readTallies =>
    obtain rfl := Host.Outcome.next.inj e
    exact h.serve _ _ fun u r hu => hu.answer ..
  | readArchive => obtain rfl := Host.Outcome.next.inj e; exact h.serve _ _ fun u r hu => hu.beginRead r
  | fetchLog => obtain rfl := Host.Outcome.next.inj e; exact h.serve _ _ fun u r hu => hu.serveFetchLog r
  | fetchNotices => obtain rfl := Host.Outcome.next.inj e; exact h.serve _ _ fun u r hu => hu.serveFetchNotices r
  | ackGroup => obtain rfl := Host.Outcome.next.inj e; exact h.serve _ _ fun u r hu => hu.serveAckGroup r
  | readShift => obtain rfl := Host.Outcome.next.inj e; exact h.serve _ _ fun u r hu => hu.serveReadShift r
  | presetTally => obtain rfl := Host.Outcome.next.inj e; exact h.serve _ _ fun u r hu => hu.servePreset r
  | protectTally => obtain rfl := Host.Outcome.next.inj e; exact h.serve _ _ fun u r hu => hu.serveProtect r
  | lockDownTally => obtain rfl := Host.Outcome.next.inj e; exact h.serve _ _ fun u r hu => hu.serveLockDown r
  | setTime gs => obtain rfl := Host.Outcome.next.inj e; exact h.serve _ _ fun u r hu => hu.serveSetTime gs r
  | clearFlags =>
    obtain rfl := Host.Outcome.next.inj e
    split
    · exact h.endClearFlags
    · refine h.serve _ _ fun u r hu => ?_
      have queue : (u.clearFlags r).store.queue = u.store.queue := by
        unfold State.clearFlags
        dsimp only
        split <;> rfl
      exact State.Bounded.withStore (st := (u.clearFlags r).store) hu (queue ▸ hu.queue_le)
  | restart => obtain rfl := Host.Outcome.next.inj e; exact h.serve _ _ fun u r hu => hu.answer r .ok []
  | unknownRequest =>
    obtain rfl := Host.Outcome.next.inj e
    split
    · split
      · exact h
      · exact h.popRequest.answer ..
    · exact h
  | powerOn => obtain rfl := Host.Outcome.next.inj e; exact s.enterReset_bounded _
  | resetLine => obtain rfl := Host.Outcome.next.inj e; exact s.enterReset_bounded _
  | supplyReset =>
    obtain rfl := Host.Outcome.next.inj e
    split
    · exact s.enterReset_bounded _
    · exact h
  | restartReset =>
    obtain rfl := Host.Outcome.next.inj e
    split
    · split
      · exact s.enterReset_bounded _
      · exact h
    · exact h
  | start i =>
    obtain rfl := Host.Outcome.next.inj e
    split
    · split
      · exact s.runStart_bounded _ i
      · exact h
    · exact h
  | secondMarkPulseEnd | mark | markTimeout | chatterWindowEnd | eraseBegin | eraseSuspend | eraseResume
  | supplyRise | supplyHoldFall =>
    obtain rfl := Host.Outcome.next.inj e
    repeat' split
    all_goals exact h

/-- Settles O48: every command keeps the bounds, and a step executes the front command. -/
theorem queuesStayBounded : Obligations.QueuesStayBounded := by
  intro s t h e
  unfold step at e
  split at e
  · obtain rfl := Host.Outcome.next.inj e
    exact h
  · rename_i c rest _
    exact exec_bounded c (s.withPending rest) t h e

end Sys2Proof.Machine
end

section
/-! PROOFS. Medium access and sending (R20, R22, R24, R26, R27, R34): what each command of a channel's medium does, said once, and
the statements about them. -/

namespace Sys2Proof.Machine

/-! ### Running commands and lists -/

theorem State.isRunning_of {s : State} (running : s.phase = .running) : s.isRunning = true := by
  simp [State.isRunning, running]

/-- A list changed at a place that holds `x`. -/
theorem modifyAt_of_getElem? {α : Type} (f : α → α) {l : List α} {i : Nat} {x : α} (h : l[i]? = some x) :
    modifyAt f l i = l.set i (f x) := by
  rw [modifyAt_eq_set f l i x, List.getD_eq_getElem?_getD, h, Option.getD_some]

/-! ### The channel's events (R20, R22, R26) -/

theorem LineController.canQuiet_iff (lc : LineController) (now : Nat) :
    lc.canQuiet now = true ↔
      lc.quiet = false ∧ lc.sendStart = none ∧ lc.stamp = none ∧ lc.lastActivity + 16 ≤ now := by
  simp [LineController.canQuiet, and_assoc]

theorem exec_channelQuiet_of (s : State) (ch : Channel) (running : s.phase = .running)
    (can : (s.line ch).canQuiet s.tb.elapsed = true) :
    exec (.channelQuiet ch) s = .next (s.setLine ch ((s.line ch).becomeQuiet s.tb.elapsed)) := by
  simp [exec, execChannelQuiet, s.isRunning_of running, can]

theorem LineController.becomeQuiet_eq (lc : LineController) (now : Nat) :
    lc.becomeQuiet now = { lc with quiet := true, deferral := if lc.list = [] then none else some now } := by
  simp [LineController.becomeQuiet]

theorem exec_channelActivity_running (s : State) (ch : Channel) (running : s.phase = .running) :
    exec (.channelActivity ch) s = .next (s.setLine ch ((s.line ch).active s.tb.elapsed)) := by
  simp [exec, execChannelActivity, s.isRunning_of running]

theorem exec_timingMark_of (s : State) (ch : Channel) (running : s.phase = .running)
    (silent : (s.line ch).sendStart = none) :
    exec (.timingMark ch) s =
      .next (s.setLine ch { (s.line ch).active s.tb.elapsed with stamp := some ⟨s.tb.time, s.tb.g⟩ }) := by
  simp [exec, execTimingMark, s.isRunning_of running, silent]

theorem exec_beaconStamp_of (s : State) (ch : Channel) (i t : Nat) (c : Copy) (running : s.phase = .running)
    (sends : (s.line ch).sends i c t) (beacon : c.kind = .beacon) (unstamped : c.payload = [])
    (due : t + 15 ≤ s.tb.elapsed) :
    exec (.beaconStamp ch) s = .next (s.setLine ch
      { s.line ch with list := (s.line ch).list.set i { c with payload := s.beaconPayload } }) := by
  obtain ⟨sendingAt, place⟩ := sends
  simp [exec, execBeaconStamp, s.isRunning_of running, sendingAt, place, beacon, unstamped, due,
    modifyAt_of_getElem? _ place]

/-- A BEACON's payload in the layout of R36. -/
theorem State.beaconPayload_eq (s : State) :
    s.beaconPayload = beBytes 1 s.tb.g ++ beBytes 1 s.agr.state.code
      ++ beBytes 2 (bitsNat [s.tb.secondsKnown, s.alm, s.logHigh, s.flags.configFault, s.flags.duplicateStation])
      ++ beBytes 4 s.tb.time.s ++ beBytes 4 s.tb.time.u := by
  simp only [State.beaconPayload, State.beaconFlags, StationTime.bytes, List.append_assoc]

/-- Settles O16: each command of a channel's medium by its equation. -/
theorem channelEventsTakeEffect : Obligations.ChannelEventsTakeEffect := by
  intro s ch running
  refine ⟨fun busy silent unheard still => ?_, exec_channelActivity_running s ch running,
    exec_timingMark_of s ch running, fun i c t sends beacon unstamped due => ?_⟩
  · rw [exec_channelQuiet_of s ch running ((LineController.canQuiet_iff ..).2 ⟨busy, silent, unheard, still⟩),
      LineController.becomeQuiet_eq]
  · rw [exec_beaconStamp_of s ch i t c running sends beacon unstamped due, State.beaconPayload_eq]

/-! ### The head and its deferral (R24, R26) -/

theorem oldestOfClass_of_none (k : Nat) (l : List Copy) (none : ∀ x ∈ l, k < x.kind.mediumClass) :
    oldestOfClass k l = Option.none := by
  rw [oldestOfClass, List.findIdx?_eq_none_iff]
  intro x mem
  have := none x mem
  simp
  omega

theorem oldestOfClass_of_first (l : List Copy) (i : Nat) (c : Copy) (place : l[i]? = some c)
    (first : ∀ j x, j < i → l[j]? = some x → c.kind.mediumClass < x.kind.mediumClass) :
    oldestOfClass c.kind.mediumClass l = some i := by
  obtain ⟨lt, at'⟩ := List.getElem?_eq_some_iff.1 place
  rw [oldestOfClass, List.findIdx?_eq_some_iff_getElem]
  refine ⟨lt, by simp [at'], fun j hj => ?_⟩
  have := first j l[j] hj (List.getElem?_eq_getElem _)
  simp
  omega

/-- The head is the oldest copy of the lowest class present (R24). -/
theorem headIndex_eq (l : List Copy) (i : Nat) (c : Copy) (place : l[i]? = some c)
    (lowest : ∀ x ∈ l, c.kind.mediumClass ≤ x.kind.mediumClass)
    (first : ∀ j x, j < i → l[j]? = some x → c.kind.mediumClass < x.kind.mediumClass) : headIndex l = some i := by
  have oldest := oldestOfClass_of_first l i c place first
  have lower : ∀ k, k < c.kind.mediumClass → oldestOfClass k l = none := fun k hk =>
    oldestOfClass_of_none k l fun x mem => hk.trans_le (lowest x mem)
  have classes : c.kind.mediumClass < 4 := by cases c.kind <;> decide
  generalize c.kind.mediumClass = k at oldest lower classes
  unfold headIndex
  match k, classes with
  | 0, _ => simp [oldest]
  | 1, _ => simp [oldest, lower]
  | 2, _ => simp [oldest, lower]
  | 3, _ => simp [oldest, lower]

/-- The head is due once its deferral has run its length on a quiet channel (R26). -/
theorem LineController.dueHead_eq (lc : LineController) (own now i d : Nat) (c : Copy) (quiet : lc.quiet = true)
    (deferral : lc.deferral = some d) (head : headIndex lc.list = some i) (place : lc.list[i]? = some c) :
    lc.dueHead own now = if d + (256 * c.kind.mediumClass + 8 * own) ≤ now then some i else none := by
  simp only [LineController.dueHead, quiet, deferral, head, place, deferralLength]
  rfl

theorem exec_deferralEnd_running (s : State) (ch : Channel) (running : s.phase = .running) :
    exec (.deferralEnd ch) s = .next (match (s.line ch).dueHead s.ownNumber s.tb.elapsed with
      | some i => s.setLine ch ((s.line ch).beginSend i s.tb.elapsed)
      | none => s) := by
  simp only [exec, execDeferralEnd, s.isRunning_of running]
  cases (s.line ch).dueHead s.ownNumber s.tb.elapsed <;> rfl

/-- Settles O17: the head by its class and place, due or not by its deferral. -/
theorem deferralEndSendsTheHead : Obligations.DeferralEndSendsTheHead := by
  intro s ch i d c running lc quiet deferral place lowest first
  have head := headIndex_eq lc.list i c place lowest first
  have due := lc.dueHead_eq s.ownNumber s.tb.elapsed i d c quiet deferral head place
  rw [exec_deferralEnd_running s ch running, due]
  constructor
  · intro ended
    rw [if_pos ended]
    dsimp only [LineController.beginSend]
    rw [modifyAt_of_getElem? _ place]
    rfl
  · intro ahead
    rw [if_neg (by omega)]

/-! ### Collisions and completed sendings (R27, R34) -/

/-- A count one higher, written with its top first. -/
theorem satInc_eq (top n : Nat) : satInc top n = min top (n + 1) := Nat.min_comm _ _

/-- What a collision leaves of its line controller, with the list given (R27, R34). -/
theorem LineController.collide_eq (lc : LineController) (now : Nat) (list : List Copy) :
    lc.collide now list = { lc with
      list := list, quiet := false, deferral := none, lastActivity := now, sendStart := none,
      collisions := min 65535 (lc.collisions + 1) } := by
  simp [LineController.collide, LineController.active, satInc_eq]

theorem exec_collision_first (s : State) (ch : Channel) (i t : Nat) (c : Copy) (running : s.phase = .running)
    (sends : (s.line ch).sends i c t) (fresh : c.retried = false) :
    exec (.collision ch) s =
      .next (s.setLine ch ((s.line ch).collide s.tb.elapsed ((s.line ch).list.set i c.takenBack))) := by
  obtain ⟨sendingAt, place⟩ := sends
  simp [exec, execCollision, s.isRunning_of running, sendingAt, place, fresh, modifyAt_of_getElem? _ place]

theorem exec_collision_second (s : State) (ch : Channel) (i t : Nat) (c : Copy) (running : s.phase = .running)
    (sends : (s.line ch).sends i c t) (retried : c.retried = true) :
    exec (.collision ch) s = .next
      ((s.setLine ch ((s.line ch).collide s.tb.elapsed ((s.line ch).list.eraseIdx i))).loseCopy ch c) := by
  obtain ⟨sendingAt, place⟩ := sends
  simp [exec, execCollision, s.isRunning_of running, sendingAt, place, retried]

theorem State.loseCopy_other (s : State) (ch : Channel) (c : Copy) (notNotice : c.kind ≠ .tripNotice)
    (notAnswer : c.kind ≠ .answer) : s.loseCopy ch c = s := by
  unfold State.loseCopy
  split
  · exact absurd ‹_› notNotice
  · exact absurd ‹_› notAnswer
  · rfl

theorem State.loseCopy_notice (s : State) (ch : Channel) (c : Copy) (notice : c.kind = .tripNotice) :
    s.loseCopy ch c = { s with flags := { s.flags with noticeLoss := true } } := by
  simp [State.loseCopy, notice]

theorem State.loseCopy_counted (s : State) (ch : Channel) (c : Copy) (answer : c.kind = .answer)
    (counted : c.lossCounted = true) : s.loseCopy ch c = s := by
  simp [State.loseCopy, answer, counted]

/-- What losing an ANSWER not yet counted does: its other copies marked, and the loss counted (R27). -/
theorem State.loseCopy_answer (s : State) (ch : Channel) (c : Copy) (answer : c.kind = .answer)
    (uncounted : c.lossCounted = false) :
    s.loseCopy ch c =
      let other := s.line (otherChannel ch)
      let marked := s.setLine (otherChannel ch) { other with
        list := other.list.map fun x => if x.kind = .answer ∧ x.seq = c.seq then { x with lossCounted := true } else x }
      { marked with req := { marked.req with lostAnswers := min 65535 (marked.req.lostAnswers + 1) } } := by
  simp [State.loseCopy, answer, uncounted, satInc_eq]

theorem exec_sendingComplete_of (s : State) (ch : Channel) (i t : Nat) (c : Copy) (running : s.phase = .running)
    (sends : (s.line ch).sends i c t) (driven : t + c.bitTimes ≤ s.tb.elapsed)
    (stamped : ¬(c.kind = .beacon ∧ c.payload = [])) :
    exec (.sendingComplete ch) s = .next
      ((s.setLine ch { (s.line ch).active s.tb.elapsed with
          list := (s.line ch).list.eraseIdx i, sendStart := none }).emit (.sent ch (c.frame s.ownNumber))) := by
  obtain ⟨sendingAt, place⟩ := sends
  simp only [exec, execSendingComplete, s.isRunning_of running, sendingAt, place]
  rw [if_pos ⟨driven, stamped⟩]

theorem Copy.bitTimes_of_beacon (c : Copy) (beacon : c.kind = .beacon) : c.bitTimes = 176 := by
  simp [Copy.bitTimes, beacon]

theorem Copy.bitTimes_of_other (c : Copy) (other : c.kind ≠ .beacon) :
    c.bitTimes = 16 + 8 * (8 + c.payload.length) := by
  simp [Copy.bitTimes, other]

/-- Settles O18: the first collision, the second by the copy's kind, and the completion by its length. -/
theorem sendingEndsByCollisionOrCompletion : Obligations.SendingEndsByCollisionOrCompletion := by
  intro s ch i t c running sends lc stopped hit gone back
  have second := exec_collision_second s ch i t c running sends
  have goneEq : s.setLine ch (lc.collide s.tb.elapsed (lc.list.eraseIdx i)) = gone := by
    rw [LineController.collide_eq]
  rw [goneEq] at second
  have complete := exec_sendingComplete_of s ch i t c running sends
  refine ⟨fun fresh => ?_, fun retried => ?_, fun other driven => ?_,
    fun beacon stamped driven => ?_⟩
  · rw [exec_collision_first s ch i t c running sends fresh, LineController.collide_eq]
    rfl
  · rw [second retried]
    refine ⟨fun notNotice notAnswer => ?_, fun notice => ?_, fun answer counted => ?_, fun answer uncounted => ?_⟩
    · rw [State.loseCopy_other _ _ _ notNotice notAnswer]
    · rw [State.loseCopy_notice _ _ _ notice]
    · rw [State.loseCopy_counted _ _ _ answer counted]
    · rw [State.loseCopy_answer _ _ _ answer uncounted]
      dsimp only [gone]
      rw [State.line_setLine_other]
  · exact complete (by rw [c.bitTimes_of_other other]; omega) fun h => other h.1
  · exact complete (by rw [c.bitTimes_of_beacon beacon]; omega) fun h => stamped h.2

end Sys2Proof.Machine
end

section
/-! PROOFS. Telegrams as bytes (R28, R36) and the checking of a reception (R28, R29, R34, R35). -/

namespace Sys2Proof.Machine

/-! ### Fields that stand in a list of bytes (R36) -/

/-- A field of `n` bytes reads as it was written wherever it stands. -/
theorem fieldAt_of_eq {l : List Byte} (pre post : List Byte) {i n v : Nat} (eq : l = pre ++ beBytes n v ++ post)
    (place : pre.length = i) (fits : v < 256 ^ n) : fieldAt l i n = v := by
  rw [eq, ← place, fieldAt_append, Nat.mod_eq_of_lt fits]

/-- A byte reads as it was written wherever it stands. -/
theorem byteAt_of_eq {l : List Byte} (pre post : List Byte) {i v : Nat} (eq : l = pre ++ beBytes 1 v ++ post)
    (place : pre.length = i) (fits : v < 256) : byteAt l i = v := by
  have single : beBytes 1 v = [BitVec.ofNat 8 v] := rfl
  simp [byteAt, eq, ← place, single, List.getD_eq_getElem?_getD, Nat.mod_eq_of_lt fits]

/-! ### The payload lengths (R28) -/

/-- A payload length that the kind does not allow (R28, sixth item), up to the length that R28 allows any kind. -/
def LengthRefused (kind : Nat) (payload : List Byte) : Prop :=
  (kind = 1 ∧ payload.length ≠ 12) ∨ (kind = 2 ∧ payload.length ≠ 18)
    ∨ (kind = 3 ∧ ¬(payload.length = 15 ∨ (payload.length = 23 ∧ byteAt payload 0 ≠ 1)))
    ∨ (kind = 4 ∧ payload.length < 2) ∨ (kind = 5 ∧ payload.length < 3)

theorem payloadLengthAllowed_iff (kind : Nat) (payload : List Byte) (short : payload.length ≤ 48) :
    payloadLengthAllowed kind payload = true ↔ ¬LengthRefused kind payload := by
  unfold payloadLengthAllowed LengthRefused
  dsimp only
  split
  case h_6 => simp_all
  all_goals simp [short] <;> omega

/-! ### A telegram is received as it was sent (R28, R36) -/

theorem Copy.content_length (own : Nat) (c : Copy) : (c.content own).length = 6 + c.payload.length := by
  simp only [Copy.content, List.length_append, beBytes_length]

/-- The fields that a receiver reads in the bytes of a telegram. -/
theorem Copy.frame_fields (own : Nat) (c : Copy) (station : own < 256) (target : c.target < 256)
    (seq : c.seq < 65536) (short : c.payload.length < 256) :
    byteAt (c.frame own) 0 = c.kind.code ∧ byteAt (c.frame own) 1 = own ∧ byteAt (c.frame own) 2 = c.target
      ∧ byteAt (c.frame own) 3 = c.payload.length ∧ fieldAt (c.frame own) 4 2 = c.seq
      ∧ ((c.frame own).drop 6).take c.payload.length = c.payload
      ∧ (c.frame own).take ((c.frame own).length - 2) = c.content own
      ∧ fieldAt (c.frame own) (6 + c.payload.length) 2 = (crc (c.content own)).toNat := by
  have parts : c.frame own = beBytes 1 c.kind.code ++ (beBytes 1 own ++ (beBytes 1 c.target
      ++ (beBytes 1 c.payload.length ++ (beBytes 2 c.seq ++ (c.payload ++ beBytes 2 (crc (c.content own)).toNat))))) := by
    simp only [Copy.frame, Copy.content, List.append_assoc]
  have kind : c.kind.code < 256 := by cases c.kind <;> decide
  have header : (beBytes 1 c.kind.code ++ beBytes 1 own ++ beBytes 1 c.target ++ beBytes 1 c.payload.length
      ++ beBytes 2 c.seq).length = 6 := by simp
  refine ⟨byteAt_of_eq [] _ parts rfl kind, ?_, ?_, ?_, ?_, ?_, ?_, ?_⟩
  · exact byteAt_of_eq (beBytes 1 c.kind.code) _ (by simp only [parts]; rfl) rfl station
  · exact byteAt_of_eq (beBytes 1 c.kind.code ++ beBytes 1 own) _ (by simp only [parts, List.append_assoc]; rfl) rfl target
  · exact byteAt_of_eq (beBytes 1 c.kind.code ++ beBytes 1 own ++ beBytes 1 c.target) _
      (by simp only [parts, List.append_assoc]; rfl) rfl short
  · exact fieldAt_of_eq (beBytes 1 c.kind.code ++ beBytes 1 own ++ beBytes 1 c.target ++ beBytes 1 c.payload.length) _
      (by simp only [parts, List.append_assoc]; rfl) rfl seq
  · rw [Copy.frame, Copy.content, List.append_assoc, List.drop_left' header]
    exact List.take_left
  · rw [Copy.frame_length, Copy.frame]
    exact List.take_left' (by rw [Copy.content_length]; omega)
  · exact fieldAt_of_eq (c.content own) [] (by rw [Copy.frame, List.append_nil]) (c.content_length own)
      (crc (c.content own)).isLt

/-- Settles O19: every field of a telegram as its receiver reads it, and the length its kind allows. -/
theorem sentTelegramIsReceivedWhole : Obligations.SentTelegramIsReceivedWhole := by
  intro own c station target seq lengths
  have short : c.payload.length ≤ 48 := by cases kind : c.kind <;> simp only [kind] at lengths <;> omega
  have allowed : payloadLengthAllowed c.kind.code c.payload = true := by
    rw [payloadLengthAllowed_iff _ _ short, LengthRefused]
    cases kind : c.kind <;> simp only [kind] at lengths <;> simp [TelegramKind.code] <;> omega
  obtain ⟨hkind, hown, htarget, hlen, hseq, hpayload, hbody, hcheck⟩ :=
    c.frame_fields own (by omega) (by omega) seq (by omega)
  have length := c.frame_length own
  unfold checkReception
  simp only [hkind, hown, htarget, hlen, hseq, hpayload, hbody, hcheck]
  rw [if_pos ⟨trivial, by omega, short, length, trivial, station, target, allowed⟩]

/-! ### A reception that fails a check (R28, R29, R34, R35) -/

/-- The conditions on which R28 discards a reception. -/
def ReceptionBad (data : List Byte) (odd : Nat) : Prop :=
  odd ≠ 0 ∨ data.length < 8 ∨ 48 < byteAt data 3 ∨ data.length ≠ 8 + byteAt data 3
    ∨ fieldAt data (6 + byteAt data 3) 2 ≠ (crc (data.take (6 + byteAt data 3))).toNat ∨ 30 < byteAt data 1
    ∨ 31 < byteAt data 2 ∨ LengthRefused (byteAt data 0) ((data.drop 6).take (byteAt data 3))

/-- The telegram that a reception spells. -/
def receivedOf (data : List Byte) : Received :=
  ⟨byteAt data 0, byteAt data 1, byteAt data 2, fieldAt data 4 2, (data.drop 6).take (byteAt data 3)⟩

/-- A reception is discarded when one of R28's conditions holds, and is otherwise the telegram its bytes spell. -/
theorem checkReception_eq (data : List Byte) (odd : Nat) :
    (ReceptionBad data odd → checkReception data odd = none)
      ∧ (¬ReceptionBad data odd → checkReception data odd = some (receivedOf data)) := by
  have payload : byteAt data 3 ≤ 48 → ((data.drop 6).take (byteAt data 3)).length ≤ 48 := fun le =>
    (List.length_take_le _ _).trans le
  have body : data.length = 8 + byteAt data 3 → data.length - 2 = 6 + byteAt data 3 := by omega
  unfold checkReception
  dsimp only
  constructor
  · rintro bad
    rw [if_neg]
    rintro ⟨whole, eight, short, length, check, sender, target, allowed⟩
    rw [body length] at check
    rw [payloadLengthAllowed_iff _ _ (payload short)] at allowed
    rcases bad with h | h | h | h | h | h | h | h
    · exact h whole
    · omega
    · omega
    · exact h length
    · exact h check
    · omega
    · omega
    · exact allowed h
  · intro good
    simp only [ReceptionBad, not_or, not_not, not_lt] at good
    obtain ⟨whole, eight, short, length, check, sender, target, allowed⟩ := good
    rw [if_pos]
    · rfl
    · rw [body length]
      exact ⟨whole, eight, short, length, check, sender, target,
        (payloadLengthAllowed_iff _ _ (payload short)).2 allowed⟩

/-- The end of a reception is activity on its channel, and its stamp is taken (R20, R26). -/
def State.receptionEnded (s : State) (ch : Channel) : State :=
  s.setLine ch { s.line ch with quiet := false, deferral := none, lastActivity := s.tb.elapsed, stamp := none }

/-- A reception begun by its timing mark that fails a check is counted on its channel (R28, R34, R35). -/
theorem exec_reception_discarded (s : State) (ch : Channel) (data : List Byte) (odd : Nat) (p : Stamp)
    (running : s.phase = .running) (stamp : (s.line ch).stamp = some p) (bad : checkReception data odd = none) :
    exec (.reception ch data odd) s =
      .next ((s.receptionEnded ch).setLine ch ((s.receptionEnded ch).line ch).countError) := by
  simp only [exec, execReception, s.isRunning_of running, stamp, bad]
  rfl

/-- One that names the own number as its sender sets DUPLICATE_STATION (R29). -/
theorem exec_reception_own (s : State) (ch : Channel) (data : List Byte) (odd : Nat) (p : Stamp) (r : Received)
    (running : s.phase = .running) (stamp : (s.line ch).stamp = some p) (good : checkReception data odd = some r)
    (own : r.sender = s.ownNumber) :
    exec (.reception ch data odd) s =
      .next { s.receptionEnded ch with flags := { s.flags with duplicateStation := true } } := by
  simp only [exec, execReception, s.isRunning_of running, stamp, good, own, if_true]
  cases ch <;> rfl

/-- Any other goes to the duplicate window of its sender (R30). -/
theorem exec_reception_received (s : State) (ch : Channel) (data : List Byte) (odd : Nat) (p : Stamp) (r : Received)
    (running : s.phase = .running) (stamp : (s.line ch).stamp = some p) (good : checkReception data odd = some r)
    (other : r.sender ≠ s.ownNumber) :
    exec (.reception ch data odd) s = .next ((s.receptionEnded ch).receive ch r p) := by
  simp only [exec, execReception, s.isRunning_of running, stamp, good, if_neg other]
  rfl

theorem State.setLine_setLine (s : State) (ch : Channel) (a b : LineController) :
    (s.setLine ch a).setLine ch b = s.setLine ch b := by
  cases ch <;> rfl

/-- Settles O20: the conditions of R28, and the own number among those that pass. -/
theorem badReceptionIsDiscarded : Obligations.BadReceptionIsDiscarded := by
  intro s ch data odd p running stamp n payload ended bad
  obtain ⟨discards, passes⟩ := checkReception_eq data odd
  have same : bad ↔ ReceptionBad data odd := by
    by_cases length : data.length = 8 + n
    · have taken : (payload.take n).length = n := by
        rw [List.length_take, List.length_drop, length]
        omega
      have first : n = 23 → byteAt (payload.take n) 0 = byteAt payload 0 := by
        intro long
        simp [byteAt, List.getD_eq_getElem?_getD, long]
      simp only [bad, ReceptionBad, LengthRefused]
      rw [show byteAt data 3 = n from rfl, show (data.drop 6).take n = payload.take n from rfl, taken]
      by_cases long : n = 23
      · rw [first long]
      · simp [long]
    · simp only [bad, ReceptionBad, ne_eq, show byteAt data 3 = n from rfl, length, not_false_eq_true, true_or, or_true]
  refine ⟨fun h => ?_, fun good own => ?_⟩
  · rw [exec_reception_discarded s ch data odd p running stamp (discards (same.1 h))]
    simp only [State.receptionEnded, State.setLine_setLine, State.line_setLine, LineController.countError, satInc_eq]
    rfl
  · exact exec_reception_own s ch data odd p _ running stamp (passes (mt same.2 good)) own

end Sys2Proof.Machine
end

section
/-! PROOFS. The duplicate window (R30, R31), the routing of an accepted telegram (R32), and that every later copy of it has no
effect (R33). -/

namespace Sys2Proof.Machine

/-! ### The duplicate window (R30, R31) -/

/-- How far a sequence lies past the window's highest, modulo 65536 (R30). -/
def Window.ahead (w : Window) (seq : Nat) : Nat := (seq + 65536 - w.h) % 65536

/-- The window with a sequence behind its highest recorded too (R31). -/
def Window.record (w : Window) (seq : Nat) : Window :=
  { w with recorded := w.recorded ||| (1#16 <<< (65535 - w.ahead seq)) }

theorem judgeWindow_eq (w : Window) (seq : Nat) :
    judgeWindow (some w) seq =
      if w.ahead seq = 0 then (false, some w, false)
      else if w.ahead seq ≤ 32767 then (true, some (w.slide seq (w.ahead seq)), false)
      else if w.ahead seq ≤ 65519 then (true, some ⟨seq, 0⟩, true)
      else if w.recorded.getLsbD (65535 - w.ahead seq) then (false, some w, false)
      else (true, some (w.record seq), false) :=
  rfl

theorem judgeWindow_highest (w : Window) (seq : Nat) (d : w.ahead seq = 0) :
    judgeWindow (some w) seq = (false, some w, false) := by
  rw [judgeWindow_eq, if_pos d]

theorem judgeWindow_slide (w : Window) (seq : Nat) (pos : 1 ≤ w.ahead seq) (le : w.ahead seq ≤ 32767) :
    judgeWindow (some w) seq = (true, some (w.slide seq (w.ahead seq)), false) := by
  rw [judgeWindow_eq, if_neg (by omega), if_pos le]

theorem judgeWindow_restart (w : Window) (seq : Nat) (ge : 32768 ≤ w.ahead seq) (le : w.ahead seq ≤ 65519) :
    judgeWindow (some w) seq = (true, some ⟨seq, 0⟩, true) := by
  rw [judgeWindow_eq, if_neg (by omega), if_neg (by omega), if_pos le]

theorem judgeWindow_recorded (w : Window) (seq : Nat) (ge : 65520 ≤ w.ahead seq)
    (seen : w.recorded.getLsbD (65535 - w.ahead seq) = true) : judgeWindow (some w) seq = (false, some w, false) := by
  rw [judgeWindow_eq, if_neg (by omega), if_neg (by omega), if_neg (by omega), if_pos seen]

theorem judgeWindow_unrecorded (w : Window) (seq : Nat) (ge : 65520 ≤ w.ahead seq)
    (unseen : w.recorded.getLsbD (65535 - w.ahead seq) = false) :
    judgeWindow (some w) seq = (true, some (w.record seq), false) := by
  rw [judgeWindow_eq, if_neg (by omega), if_neg (by omega), if_neg (by omega), if_neg (by simp [unseen])]

/-- What the window makes of a sequence: one of five, by its distance (R30, R31). -/
theorem judgeWindow_cases (w : Window) (seq : Nat) :
    (w.ahead seq = 0 ∧ judgeWindow (some w) seq = (false, some w, false))
      ∨ (1 ≤ w.ahead seq ∧ w.ahead seq ≤ 32767
          ∧ judgeWindow (some w) seq = (true, some (w.slide seq (w.ahead seq)), false))
      ∨ (32768 ≤ w.ahead seq ∧ w.ahead seq ≤ 65519 ∧ judgeWindow (some w) seq = (true, some ⟨seq, 0⟩, true))
      ∨ (65520 ≤ w.ahead seq ∧ w.recorded.getLsbD (65535 - w.ahead seq) = true
          ∧ judgeWindow (some w) seq = (false, some w, false))
      ∨ (65520 ≤ w.ahead seq ∧ w.recorded.getLsbD (65535 - w.ahead seq) = false
          ∧ judgeWindow (some w) seq = (true, some (w.record seq), false)) := by
  rcases Nat.lt_or_ge (w.ahead seq) 32768 with near | ge
  · rcases Nat.eq_zero_or_pos (w.ahead seq) with zero | pos
    · exact .inl ⟨zero, judgeWindow_highest w seq zero⟩
    · exact .inr (.inl ⟨pos, by omega, judgeWindow_slide w seq pos (by omega)⟩)
  · rcases Nat.lt_or_ge (w.ahead seq) 65520 with far | behind
    · exact .inr (.inr (.inl ⟨ge, by omega, judgeWindow_restart w seq ge (by omega)⟩))
    · cases bit : w.recorded.getLsbD (65535 - w.ahead seq)
      · exact .inr (.inr (.inr (.inr ⟨behind, rfl, judgeWindow_unrecorded w seq behind bit⟩)))
      · exact .inr (.inr (.inr (.inl ⟨behind, rfl, judgeWindow_recorded w seq behind bit⟩)))

/-- What a window has recorded after it slides by `d` (R31): the old highest, `d` back, and what it had recorded. -/
theorem Window.slide_recorded (w : Window) (seq d k : Nat) (pos : 1 ≤ d) (one : 1 ≤ k) (sixteen : k ≤ 16) :
    (w.slide seq d).recorded.getLsbD (k - 1) = true ↔ k = d ∨ (d < k ∧ w.recorded.getLsbD (k - d - 1) = true) := by
  have back : k - 1 - d = k - d - 1 := by omega
  simp only [Window.slide, BitVec.getLsbD_or, BitVec.getLsbD_shiftLeft, BitVec.getLsbD_one, back, Bool.or_eq_true,
    Bool.and_eq_true, decide_eq_true_eq, Bool.not_eq_true', decide_eq_false_iff_not]
  constructor
  · rintro (⟨⟨-, past⟩, seen⟩ | ⟨⟨-, past⟩, -, zero⟩)
    · exact .inr ⟨by omega, seen⟩
    · exact .inl (by omega)
  · rintro (rfl | ⟨past, seen⟩)
    · exact .inr ⟨⟨by omega, by omega⟩, by decide, by omega⟩
    · exact .inl ⟨⟨by omega, by omega⟩, seen⟩

/-- What a window has recorded with a sequence behind its highest: that one too, and what it had. -/
theorem Window.record_recorded (w : Window) (seq k : Nat) (ge : 65520 ≤ w.ahead seq) :
    (w.record seq).recorded.getLsbD k = true ↔ w.recorded.getLsbD k = true ∨ k = 65535 - w.ahead seq := by
  simp only [Window.record, BitVec.getLsbD_or, BitVec.getLsbD_shiftLeft, BitVec.getLsbD_one, Bool.or_eq_true,
    Bool.and_eq_true, decide_eq_true_eq, Bool.not_eq_true', decide_eq_false_iff_not]
  refine or_congr_right ⟨?_, ?_⟩
  · rintro ⟨⟨-, past⟩, -, zero⟩
    omega
  · rintro rfl
    exact ⟨⟨by omega, by omega⟩, by decide, by omega⟩

/-- Settles O21: each range of the distance by its equation, and what the window has recorded bit by bit. -/
theorem duplicateWindowJudges : Obligations.DuplicateWindowJudges := by
  intro w seq hw hseq d
  refine ⟨rfl, judgeWindow_highest w seq, fun pos le => ?_, judgeWindow_restart w seq, judgeWindow_recorded w seq,
    fun ge unseen => ?_⟩
  · exact ⟨_, judgeWindow_slide w seq pos le, rfl, fun k one sixteen => w.slide_recorded seq d k pos one sixteen⟩
  · refine ⟨_, judgeWindow_unrecorded w seq ge unseen, rfl, (w.record_recorded seq _ ge).2 (.inr rfl),
      fun k other => ?_⟩
    exact Bool.eq_iff_iff.2 ((w.record_recorded seq k ge).trans (or_iff_left other))

/-! ### What the window rejects (R30, R33) -/

/-- How far a sequence lies behind the window's highest, modulo 65536. -/
def Window.behind (w : Window) (seq : Nat) : Nat := (w.h + 65536 - seq) % 65536

theorem Window.behind_eq (w : Window) (seq : Nat) (hw : w.h < 65536) (hseq : seq < 65536) :
    w.ahead seq < 65536 ∧ (w.ahead seq = 0 → w.behind seq = 0)
      ∧ (1 ≤ w.ahead seq → w.behind seq = 65536 - w.ahead seq) := by
  unfold Window.behind Window.ahead
  omega

/-- The window rejects its highest and what it has recorded of the 16 sequences behind it. -/
theorem judgeWindow_rejects_iff (w : Window) (seq : Nat) (hw : w.h < 65536) (hseq : seq < 65536) :
    (judgeWindow (some w) seq).1 = false ↔
      w.behind seq = 0 ∨ (w.behind seq ≤ 16 ∧ w.recorded.getLsbD (w.behind seq - 1) = true) := by
  obtain ⟨lt, zero, pos⟩ := w.behind_eq seq hw hseq
  have bit : 1 ≤ w.ahead seq → w.behind seq - 1 = 65535 - w.ahead seq := by omega
  rcases judgeWindow_cases w seq with ⟨d, e⟩ | ⟨d, d', e⟩ | ⟨d, d', e⟩ | ⟨d, seen, e⟩ | ⟨d, unseen, e⟩ <;> rw [e]
  · simp [zero d]
  · simp
    omega
  · simp
    omega
  · simp [bit (by omega), seen]
    omega
  · simp [bit (by omega), unseen]
    omega

/-- A rejected sequence changes nothing of the window. -/
theorem judgeWindow_of_rejected (w : Window) (seq : Nat) (rejected : (judgeWindow (some w) seq).1 = false) :
    judgeWindow (some w) seq = (false, some w, false) := by
  rcases judgeWindow_cases w seq with ⟨-, e⟩ | ⟨-, -, e⟩ | ⟨-, -, e⟩ | ⟨-, -, e⟩ | ⟨-, -, e⟩
  · exact e
  · simp [e] at rejected
  · simp [e] at rejected
  · exact e
  · simp [e] at rejected

/-- A sequence judged is rejected from then on (R30). -/
theorem judgeWindow_then_rejects (o : Option Window) (seq : Nat) (hseq : seq < 65536)
    (bound : ∀ w, o = some w → w.h < 65536) :
    ∃ v, (judgeWindow o seq).2.1 = some v ∧ v.h < 65536 ∧ (judgeWindow (some v) seq).1 = false := by
  have fresh : ∀ r, (judgeWindow (some ⟨seq, r⟩) seq).1 = false := fun r =>
    (judgeWindow_rejects_iff _ _ hseq hseq).2 (.inl (by simp [Window.behind]))
  cases o with
  | none => exact ⟨_, rfl, hseq, fresh 0⟩
  | some w =>
    have hw := bound w rfl
    rcases judgeWindow_cases w seq with ⟨-, e⟩ | ⟨-, -, e⟩ | ⟨-, -, e⟩ | ⟨-, -, e⟩ | ⟨d, -, e⟩
    · exact ⟨w, by rw [e], hw, by rw [e]⟩
    · exact ⟨w.slide seq (w.ahead seq), by rw [e], hseq, fresh _⟩
    · exact ⟨⟨seq, 0⟩, by rw [e], hseq, fresh 0⟩
    · exact ⟨w, by rw [e], hw, by rw [e]⟩
    · refine ⟨w.record seq, by rw [e], hw, (judgeWindow_rejects_iff (w.record seq) seq hw hseq).2 (.inr ?_)⟩
      obtain ⟨lt, -, pos⟩ := w.behind_eq seq hw hseq
      have behind : (w.record seq).behind seq = 65536 - w.ahead seq := pos (by omega)
      rw [behind, w.record_recorded seq _ d]
      exact ⟨by omega, .inr (by omega)⟩

/-- A rejected sequence stays rejected while the window's highest lies at most 16 past it (R30, R31). -/
theorem judgeWindow_keeps_rejecting (w v : Window) (seq m : Nat) (b : Bool) (hw : w.h < 65536) (hseq : seq < 65536)
    (hm : m < 65536) (rejected : (judgeWindow (some w) seq).1 = false)
    (judged : judgeWindow (some w) m = (b, some v, false)) (near : v.behind seq ≤ 16) :
    (judgeWindow (some v) seq).1 = false := by
  have back := (judgeWindow_rejects_iff w seq hw hseq).1 rejected
  have window : ∀ u c, judgeWindow (some w) m = (c, some u, false) → v = u := fun u c e => by simp_all
  rcases judgeWindow_cases w m with ⟨-, e⟩ | ⟨pos, le, e⟩ | ⟨-, -, e⟩ | ⟨-, -, e⟩ | ⟨d, -, e⟩
  · obtain rfl := window _ _ e
    exact rejected
  · obtain rfl := window _ _ e
    have slid : (w.slide m (w.ahead m)).behind seq = w.behind seq + w.ahead m := by
      have far : w.behind seq ≤ 16 := by omega
      have highest : (w.slide m (w.ahead m)).h = m := rfl
      unfold Window.behind Window.ahead at *
      omega
    rw [slid] at near
    rw [judgeWindow_rejects_iff (w.slide m (w.ahead m)) seq hm hseq, slid,
      Window.slide_recorded w m (w.ahead m) _ pos (by omega) near]
    by_cases highest : w.behind seq = 0
    · exact .inr ⟨near, .inl (by omega)⟩
    · obtain ⟨-, seen⟩ := back.resolve_left highest
      exact .inr ⟨near, .inr ⟨by omega, by rw [Nat.add_sub_cancel]; exact seen⟩⟩
  · simp [e] at judged
  · obtain rfl := window _ _ e
    exact rejected
  · obtain rfl := window _ _ e
    exact (judgeWindow_rejects_iff (w.record m) seq hw hseq).2
      (back.imp id fun ⟨le, seen⟩ => ⟨le, (w.record_recorded m _ d).2 (.inl seen)⟩)

end Sys2Proof.Machine
end

section
/-! PROOFS. An accepted telegram's routing (R32), a duplicate's (R33), and what the console computer hands over (R23, R175). -/

namespace Sys2Proof.Machine

/-! ### The HANDOVER NOTICE's layout (R36) -/

/-- The payload of a HANDOVER NOTICE in its form of 15 bytes (R36). -/
def handoverBytes (action number crew : Nat) (time : StationTime) : List Byte :=
  beBytes 1 action ++ beBytes 4 number ++ beBytes 2 crew ++ beBytes 4 time.s ++ beBytes 4 time.u

theorem handoverBytes_length (action number crew : Nat) (time : StationTime) :
    (handoverBytes action number crew time).length = 15 := by
  simp [handoverBytes]

/-- The fields of the 15 bytes, whatever follows them. -/
theorem handoverBytes_fields (action number crew : Nat) (time : StationTime) (rest : List Byte) (ha : action < 256)
    (hn : number < 4294967296) (hc : crew < 65536) (hs : time.s < 4294967296) (hu : time.u < 4294967296) :
    let p := handoverBytes action number crew time ++ rest
    byteAt p 0 = action ∧ fieldAt p 1 4 = number ∧ fieldAt p 5 2 = crew ∧ fieldAt p 7 4 = time.s
      ∧ fieldAt p 11 4 = time.u := by
  refine ⟨byteAt_of_eq [] _ (by simp only [handoverBytes, List.append_assoc]; rfl) rfl ha,
    fieldAt_of_eq (beBytes 1 action) _ (by simp only [handoverBytes, List.append_assoc]; rfl) rfl hn,
    fieldAt_of_eq (beBytes 1 action ++ beBytes 4 number) _ (by simp only [handoverBytes, List.append_assoc]; rfl) rfl hc,
    fieldAt_of_eq (beBytes 1 action ++ beBytes 4 number ++ beBytes 2 crew) _
      (by simp only [handoverBytes, List.append_assoc]; rfl) rfl hs,
    fieldAt_of_eq (beBytes 1 action ++ beBytes 4 number ++ beBytes 2 crew ++ beBytes 4 time.s) _
      (by simp only [handoverBytes, List.append_assoc]; rfl) rfl hu⟩

/-- A notice of 15 bytes carries no sign-off time. -/
theorem HandoverNotice.ofBytes_short (action number crew : Nat) (time : StationTime) (ha : action < 256)
    (hn : number < 4294967296) (hc : crew < 65536) (hs : time.s < 4294967296) (hu : time.u < 4294967296) :
    HandoverNotice.ofBytes (handoverBytes action number crew time) = ⟨action, number, crew, time, none⟩ := by
  obtain ⟨fa, fn, fc, fs, fu⟩ := handoverBytes_fields action number crew time [] ha hn hc hs hu
  simp only [List.append_nil] at fa fn fc fs fu
  simp [HandoverNotice.ofBytes, fa, fn, fc, fs, fu, handoverBytes_length]

/-- A notice of 23 bytes carries the sign-off time that follows, absent with every bit set (log entry 37). -/
theorem HandoverNotice.ofBytes_long (action number crew : Nat) (time off : StationTime) (ha : action < 256)
    (hn : number < 4294967296) (hc : crew < 65536) (hs : time.s < 4294967296) (hu : time.u < 4294967296)
    (os : off.s < 4294967296) (ou : off.u < 4294967296) :
    HandoverNotice.ofBytes (handoverBytes action number crew time ++ (beBytes 4 off.s ++ beBytes 4 off.u)) =
      ⟨action, number, crew, time, if off.s = 4294967295 ∧ off.u = 4294967295 then none else some off⟩ := by
  obtain ⟨fa, fn, fc, fs, fu⟩ :=
    handoverBytes_fields action number crew time (beBytes 4 off.s ++ beBytes 4 off.u) ha hn hc hs hu
  have fos : fieldAt (handoverBytes action number crew time ++ (beBytes 4 off.s ++ beBytes 4 off.u)) 15 4 = off.s :=
    fieldAt_of_eq _ _ (List.append_assoc ..).symm (handoverBytes_length ..) os
  have fou : fieldAt (handoverBytes action number crew time ++ (beBytes 4 off.s ++ beBytes 4 off.u)) 19 4 = off.u :=
    fieldAt_of_eq (handoverBytes action number crew time ++ beBytes 4 off.s) []
      (by simp only [List.append_assoc, List.append_nil]) (by simp [handoverBytes_length]) ou
  simp only [HandoverNotice.ofBytes, fa, fn, fc, fs, fu, fos, fou, List.length_append, handoverBytes_length,
    beBytes_length]
  by_cases absent : off.s = 4294967295 ∧ off.u = 4294967295
  · simp [absent]
  · simp only [absent]
    simp

/-! ### Routing (R32, R33) -/

/-- A peer's entry after a sequence is judged: its window, and its restart count where the sender has restarted (R30). -/
def Peer.judged (e : Peer) (seq : Nat) : Peer :=
  { e with
    window := (judgeWindow e.window seq).2.1
    restarts := if (judgeWindow e.window seq).2.2 = true then min 255 (e.restarts + 1) else e.restarts }

/-- A telegram that the window accepts is routed, its sender's entry kept (R32). -/
theorem State.receive_accepted (s : State) (ch : Channel) (r : Received) (p : Stamp)
    (accepted : (judgeWindow (s.peer r.sender).window r.seq).1 = true) :
    s.receive ch r p = (s.setPeer r.sender ((s.peer r.sender).judged r.seq)).route ch r p := by
  simp only [State.receive, accepted, if_true, Peer.judged, satInc_eq]

theorem State.setPeer_self (s : State) (n : Nat) : s.setPeer n (s.peer n) = s := by
  have same : s.peers.set n (s.peer n) = s.peers := by
    rw [State.peer, List.getD_eq_getElem?_getD]
    by_cases lt : n < s.peers.length
    · simp [lt]
    · rw [List.set_eq_of_length_le (by omega)]
  simp [State.setPeer, same]

theorem Peer.judged_of_rejected (e : Peer) (seq : Nat) (rejected : (judgeWindow e.window seq).1 = false) :
    e.judged seq = e := by
  cases window : e.window with
  | none => simp [window, judgeWindow] at rejected
  | some w =>
    rw [window] at rejected
    have judged := judgeWindow_of_rejected w seq rejected
    simp only [Peer.judged, window, judged]
    rw [← window]
    rfl

/-- A duplicate changes nothing, but for a BEACON, which marks its channel (R33). -/
theorem State.receive_rejected (s : State) (ch : Channel) (r : Received) (p : Stamp)
    (rejected : (judgeWindow (s.peer r.sender).window r.seq).1 = false) :
    s.receive ch r p =
      if r.kind = 1 then s.setPeer r.sender ((s.peer r.sender).markChannel ch) else s := by
  have kept : s.setPeer r.sender ((s.peer r.sender).judged r.seq) = s := by
    rw [Peer.judged_of_rejected _ _ rejected, State.setPeer_self]
  have judged : s.receive ch r p =
      if r.kind = 1 then
        (s.setPeer r.sender ((s.peer r.sender).judged r.seq)).setPeer r.sender
          (((s.setPeer r.sender ((s.peer r.sender).judged r.seq)).peer r.sender).markChannel ch)
      else s.setPeer r.sender ((s.peer r.sender).judged r.seq) := by
    simp only [State.receive, rejected, Peer.judged, satInc_eq]
    rfl
  rw [judged, kept]

theorem Peer.markChannel_eq (e : Peer) (ch : Channel) :
    e.markChannel ch = { e with
      heardA := if ch = .a then true else e.heardA
      heardB := if ch = .b then true else e.heardB } := by
  cases ch <;> rfl

theorem State.receptionEnded_peer (s : State) (ch : Channel) (n : Nat) : (s.receptionEnded ch).peer n = s.peer n := by
  cases ch <;> rfl

/-- A copy that the window rejects does no more than end its reception, and mark a BEACON's channel (R33). -/
theorem exec_reception_rejected (s : State) (ch : Channel) (data : List Byte) (p : Stamp) (r : Received)
    (running : s.phase = .running) (stamp : (s.line ch).stamp = some p) (good : checkReception data 0 = some r)
    (other : r.sender ≠ s.ownNumber) (rejected : (judgeWindow (s.peer r.sender).window r.seq).1 = false) :
    exec (.reception ch data 0) s = .next (if r.kind = 1 then
        { s.receptionEnded ch with peers := s.peers.set r.sender { s.peer r.sender with
            heardA := if ch = .a then true else (s.peer r.sender).heardA
            heardB := if ch = .b then true else (s.peer r.sender).heardB } }
      else s.receptionEnded ch) := by
  rw [exec_reception_received s ch data 0 p r running stamp good other,
    State.receive_rejected _ ch r p (by rw [State.receptionEnded_peer]; exact rejected), State.receptionEnded_peer,
    Peer.markChannel_eq]
  cases ch <;> rfl

theorem State.route_beacon (s : State) (ch : Channel) (r : Received) (p : Stamp) (kind : r.kind = 1) :
    s.route ch r p = s.takeBeacon ch r p := by
  simp only [State.route, kind]

theorem State.route_tripNotice (s : State) (ch : Channel) (r : Received) (p : Stamp) (kind : r.kind = 2) :
    s.route ch r p = (s.offerMember r).offerNotice r := by
  simp only [State.route, kind]

theorem State.route_handoverNotice (s : State) (ch : Channel) (r : Received) (p : Stamp) (kind : r.kind = 3) :
    s.route ch r p = s.takeHandover (HandoverNotice.ofBytes r.payload) := by
  simp only [State.route, kind]

theorem State.route_request (s : State) (ch : Channel) (r : Received) (p : Stamp) (kind : r.kind = 4) :
    s.route ch r p = if r.target = s.ownNumber ∨ r.target = 31 then s.enterRequest ⟨r.sender, r.payload⟩ else s := by
  simp only [State.route, kind]

theorem State.route_answer (s : State) (ch : Channel) (r : Received) (p : Stamp) (kind : r.kind = 5) :
    s.route ch r p =
      if r.target = s.ownNumber ∧ s.console = true then s.emit (.ctxAnswer r.sender r.payload) else s := by
  simp only [State.route, kind]

theorem State.route_unknown (s : State) (ch : Channel) (r : Received) (p : Stamp) (kind : r.kind = 0 ∨ 6 ≤ r.kind) :
    s.route ch r p = s := by
  unfold State.route
  split
  case h_6 => rfl
  all_goals omega

/-- Settles O22: the two forms of the notice, the kinds of an accepted telegram, and a duplicate. -/
theorem acceptedTelegramIsRouted : Obligations.AcceptedTelegramIsRouted := by
  refine ⟨fun action number crew time off ha hn hc hs hu os ou => ?_, fun s ch data p r running stamp good other => ?_⟩
  · exact ⟨HandoverNotice.ofBytes_short _ _ _ _ ha hn hc hs hu, handoverBytes_length _ _ _ _,
      HandoverNotice.ofBytes_long _ _ _ _ _ ha hn hc hs hu os ou⟩
  · intro e j heard e' t
    refine ⟨fun accepted => ?_, fun rejected kind => ?_, fun rejected kind => ?_⟩
    · have routed : exec (.reception ch data 0) s = .next (t.route ch r p) := by
        rw [exec_reception_received s ch data 0 p r running stamp good other,
          State.receive_accepted _ ch r p (by rw [State.receptionEnded_peer]; exact accepted),
          State.receptionEnded_peer]
        rfl
      have own : t.ownNumber = s.ownNumber := by cases ch <;> rfl
      have console : t.console = s.console := by cases ch <;> rfl
      rw [routed]
      refine ⟨fun kind => ?_, fun kind => ?_, fun kind => ?_, fun kind target => ?_, fun kind target con => ?_,
        fun kind target => ?_, fun kind target => ?_, fun kind => ?_⟩
      · rw [t.route_beacon ch r p kind]
      · rw [t.route_tripNotice ch r p kind]
      · rw [t.route_handoverNotice ch r p kind]
      · rw [t.route_request ch r p kind, own, if_pos target]
      · rw [t.route_answer ch r p kind, own, console, if_pos ⟨target, con⟩]
      · rw [t.route_request ch r p kind, own, if_neg target]
      · rw [t.route_answer ch r p kind, own, console, if_neg target]
      · rw [t.route_unknown ch r p kind]
    · rw [exec_reception_rejected s ch data p r running stamp good other rejected, if_neg kind]
      rfl
    · rw [exec_reception_rejected s ch data p r running stamp good other rejected, if_pos kind]
      rfl

/-! ### Every later copy (R30, R33) -/

/-- An entry put in reads back where the table has its place; every other stands. -/
theorem State.peer_setPeer (s : State) (m n : Nat) (e : Peer) :
    (s.setPeer m e).peer n = if n = m ∧ m < s.peers.length then e else s.peer n := by
  simp only [State.peer, State.setPeer, List.getD_eq_getElem?_getD, List.getElem?_set]
  by_cases same : m = n
  · subst same
    by_cases lt : m < s.peers.length <;> simp [lt]
  · simp [same, Ne.symm same]

/-- An accepted BEACON leaves the window of its sender's entry alone (R39, R40). -/
theorem Peer.takeBeacon_window (e : Peer) (payload : List Byte) (stamp : Stamp) (g delay : Nat) :
    (e.takeBeacon payload stamp g delay).window = e.window := by
  unfold Peer.takeBeacon
  dsimp only
  split <;> rfl

theorem Peer.markChannel_window (e : Peer) (ch : Channel) : (e.markChannel ch).window = e.window := by
  cases ch <;> rfl

/-- Routing a telegram leaves every window as the judging left it. -/
theorem State.route_window (s : State) (ch : Channel) (r : Received) (p : Stamp) (n : Nat) :
    ((s.route ch r p).peer n).window = (s.peer n).window := by
  by_cases beacon : r.kind = 1
  · have table : (s.takeBeacon ch r p).peers = (s.setPeer r.sender
        (((s.peer r.sender).markChannel ch).takeBeacon r.payload p s.tb.g s.cfg.lineDelay)).peers := by
      unfold State.takeBeacon
      dsimp only
      split <;> rfl
    rw [State.route_beacon _ _ _ _ beacon, State.peer, table, ← State.peer, State.peer_setPeer]
    split
    · rename_i same
      rw [Peer.takeBeacon_window, Peer.markChannel_window, same.1]
    · rfl
  · have kept : (s.route ch r p).peers = s.peers := by
      unfold State.route
      repeat' split
      case h_1 => exact absurd ‹_› beacon
      all_goals simp
    rw [State.peer, kept, ← State.peer]

/-- A telegram judged leaves the window that the judging gives (R30). -/
theorem State.receive_window (s : State) (ch : Channel) (r : Received) (p : Stamp) (known : r.sender < s.peers.length) :
    ((s.receive ch r p).peer r.sender).window = (judgeWindow (s.peer r.sender).window r.seq).2.1 := by
  cases verdict : (judgeWindow (s.peer r.sender).window r.seq).1 with
  | true =>
    rw [State.receive_accepted s ch r p verdict, State.route_window, State.peer_setPeer, if_pos ⟨rfl, known⟩]
    rfl
  | false =>
    have judged : (judgeWindow (s.peer r.sender).window r.seq).2.1 = (s.peer r.sender).window :=
      congrArg Peer.window (Peer.judged_of_rejected _ _ verdict)
    rw [State.receive_rejected s ch r p verdict, judged]
    split
    · rw [State.peer_setPeer, if_pos ⟨rfl, known⟩, Peer.markChannel_window]
    · rfl

/-- What R28 leaves of a reception's sender and sequence. -/
theorem checkReception_bounds (data : List Byte) (odd : Nat) (r : Received) (good : checkReception data odd = some r) :
    r.sender ≤ 30 ∧ r.seq < 65536 := by
  obtain ⟨discards, passes⟩ := checkReception_eq data odd
  by_cases bad : ReceptionBad data odd
  · simp [discards bad] at good
  · obtain rfl : receivedOf data = r := Option.some.inj ((passes bad).symm.trans good)
    simp only [ReceptionBad, not_or] at bad
    obtain ⟨-, -, -, -, -, sender, -⟩ := bad
    exact ⟨not_lt.1 sender, fieldAt_lt data 4 2⟩

/-- A reception on one channel leaves the other as it was. -/
theorem State.receive_line_other (s : State) (first ch : Channel) (r : Received) (p : Stamp) (other : ch ≠ first) :
    ((s.receptionEnded first).receive first r p).line ch = s.line ch := by
  cases first <;> cases ch <;> simp_all [State.line, State.receptionEnded]

/-- Settles O23: the window rejects what it has judged and goes on rejecting it, and a copy it rejects has no effect. -/
theorem secondCopyHasNoEffect : Obligations.SecondCopyHasNoEffect := by
  unfold Obligations.SecondCopyHasNoEffect
  intro rejects ended
  have dead : ∀ (u : State) (ch : Channel) (data : List Byte) (q : Stamp) (r : Received) (w : Window),
      u.phase = .running → (u.line ch).stamp = some q → checkReception data 0 = some r → r.sender ≠ u.ownNumber →
      (u.peer r.sender).window = some w → rejects w r.seq → exec (.reception ch data 0) u = .next (ended u ch r) :=
    fun u ch data q r w running stamp good other window rejected =>
      exec_reception_rejected u ch data q r running stamp good other (by rw [window]; exact rejected)
  refine ⟨fun s t first data p r running peers bound stamp good other first' => ?_,
    fun w v seq m b hw hseq hm => judgeWindow_keeps_rejecting w v seq m b hw hseq hm, dead⟩
  rw [exec_reception_received s first data 0 p r running stamp good other] at first'
  obtain rfl := Host.Outcome.next.inj first'
  obtain ⟨sender, seq⟩ := checkReception_bounds data 0 r good
  have window := (s.receptionEnded first).receive_window first r p
    (by cases first <;> simpa [State.receptionEnded, peers] using by omega)
  rw [State.receptionEnded_peer] at window
  obtain ⟨v, judged, hv, rejected⟩ := judgeWindow_then_rejects _ r.seq seq bound
  rw [judged] at window
  refine ⟨fun ch q ne heard => ?_, v, window, hv, rejected⟩
  refine dead _ ch data q r v ?_ ?_ good ?_ window rejected
  · simpa [State.receptionEnded] using running
  · rw [s.receive_line_other first ch r p ne]
    exact heard
  · simpa [State.receptionEnded] using other

/-! ### The console computer (R23, R175) -/

theorem exec_consoleRequest_at (s : State) (target : Nat) (payload : List Byte) (running : s.phase = .running)
    (console : s.console = true) :
    exec (.consoleRequest target payload) s = .next
      (if target = s.ownNumber then s.enterRequest ⟨s.ownNumber, payload⟩
      else if target = 31 then (s.send .request target payload).enterRequest ⟨s.ownNumber, payload⟩
      else s.send .request target payload) := by
  simp [exec, execConsoleRequest, s.isRunning_of running, console]

/-- Settles O26: the room of the request queue, and each target at a console station and at another. -/
theorem consoleComputerHandsOver : Obligations.ConsoleComputerHandsOver := by
  refine ⟨fun s r => ⟨fun room => ?_, fun full => ?_⟩, fun s target payload running => ⟨fun console => ?_, fun off => ?_⟩⟩
  · rw [State.enterRequest, if_pos room]
  · rw [State.enterRequest, if_neg (by omega), satInc_eq]
  · rw [exec_consoleRequest_at s target payload running console]
    refine ⟨fun own => ?_, fun all own => ?_, fun notOwn notAll => ?_, ?_⟩
    · rw [if_pos own]
    · rw [if_neg (by omega), if_pos all, all]
    · rw [if_neg notOwn, if_neg notAll]
    · simp [exec, execConsoleHandoverNotice, s.isRunning_of running, console]
  · constructor
    · simp [exec, execConsoleRequest, off]
    · simp [exec, execConsoleHandoverNotice, off]

end Sys2Proof.Machine
end

section
/-! PROOFS. Queuing a telegram to both transmit lists (R21, R25, R26) and the ANSWER (R177). -/

namespace Sys2Proof.Machine

/-- A list takes a copy where it has room, and a BEACON where one is pending (R25). -/
theorem LineController.takes_iff (lc : LineController) (k : TelegramKind) :
    lc.takes k = true ↔
      lc.list.length < 8 ∨ (k = .beacon ∧ ∃ x ∈ lc.list, x.kind = .beacon ∧ x.sending = false) := by
  simp only [LineController.takes, Copy.pendingBeacon, Bool.or_eq_true, Bool.and_eq_true, decide_eq_true_eq,
    List.any_eq_true, Bool.not_eq_true']
  exact or_comm

/-- A copy that a list takes stands at its newest place, and a deferral starts where none is counted on a quiet channel
(R24, R25, R26; log entry 39). -/
theorem LineController.offer_of_takes (lc : LineController) (now : Nat) (c : Copy) (takes : lc.takes c.kind = true) :
    lc.offer now c = { lc with
      list := (if c.kind = .beacon then lc.list.filter (fun x => x.kind ≠ .beacon ∨ x.sending = true) else lc.list) ++ [c]
      deferral := if lc.quiet = true ∧ lc.deferral = none then some now else lc.deferral } := by
  have pending : (fun x : Copy => !x.pendingBeacon) = fun x => decide (x.kind ≠ .beacon ∨ x.sending = true) := by
    funext x
    cases sending : x.sending <;> simp [Copy.pendingBeacon, sending]
  simp [LineController.offer, takes, LineController.enter, pending]

theorem LineController.offer_of_full (lc : LineController) (now : Nat) (c : Copy) (full : lc.takes c.kind = false) :
    lc.offer now c = lc := by
  simp [LineController.offer, full]

/-- The loss of a copy that a list does not take (R25): a TRIP NOTICE sets NOTICE_LOSS, an ANSWER is counted once. -/
def State.loseQueued (s : State) (k : TelegramKind) : State :=
  match k with
  | .tripNotice => { s with flags := { s.flags with noticeLoss := true } }
  | .answer => { s with req := { s.req with lostAnswers := min 65535 (s.req.lostAnswers + 1) } }
  | _ => s

/-- The state with the next sender sequence taken and the copy offered to both lists (R21). -/
def State.offerBoth (s : State) (c : Copy) : State :=
  { s with
    senderSeq := (s.senderSeq + 1) % 65536
    chA := s.chA.offer s.tb.elapsed c
    chB := s.chB.offer s.tb.elapsed c }

/-- A telegram that both lists take loses no copy. -/
theorem State.send_of_taken (s : State) (k : TelegramKind) (target : Nat) (payload : List Byte)
    (a : s.chA.takes k = true) (b : s.chB.takes k = true) :
    s.send k target payload = s.offerBoth ⟨k, target, s.senderSeq, payload, false, false, false⟩ := by
  simp [State.send, a, b, State.offerBoth]

/-- A telegram that a list does not take loses that copy, the other being marked as counted for an ANSWER. -/
theorem State.send_of_lost (s : State) (k : TelegramKind) (target : Nat) (payload : List Byte)
    (lost : s.chA.takes k = false ∨ s.chB.takes k = false) :
    s.send k target payload =
      (s.offerBoth ⟨k, target, s.senderSeq, payload, false, false, decide (k = .answer)⟩).loseQueued k := by
  have drop : (!s.chA.takes k || !s.chB.takes k) = true := by
    rcases lost with h | h <;> simp [h]
  simp only [State.send, drop, Bool.true_and]
  cases k <;> simp [State.offerBoth, State.loseQueued, satInc_eq]

/-- Settles O27: each list takes or drops its own copy, and the ANSWER by the station that asked. -/
theorem telegramIsQueuedToBothLists : Obligations.TelegramIsQueuedToBothLists := by
  refine ⟨fun s k target payload => ?_, fun s r st content => ?_⟩
  · intro c other fits joined taken lost
    have takes : ∀ lc : LineController, lc.takes k = true ↔ fits lc := fun lc => lc.takes_iff k
    have full : ∀ lc : LineController, ¬fits lc → lc.takes k = false := fun lc h =>
      Bool.eq_false_iff.2 (mt (takes lc).1 h)
    have joins : ∀ lc x, x.kind = k → fits lc → lc.offer s.tb.elapsed x = joined lc x := by
      rintro lc x rfl h
      exact lc.offer_of_takes _ x ((takes lc).2 h)
    have stays : ∀ lc x, x.kind = k → ¬fits lc → lc.offer s.tb.elapsed x = lc := by
      rintro lc x rfl h
      exact lc.offer_of_full _ x (full lc h)
    have loses : ∀ a b, (taken a b).loseQueued k = lost (taken a b) := by
      intro a b
      simp only [lost, State.loseQueued]
      cases k <;> rfl
    refine ⟨fun a b => ?_, fun a b => ?_, fun a b => ?_, fun a b => ?_⟩
    · rw [s.send_of_taken k target payload ((takes _).2 a) ((takes _).2 b), State.offerBoth, joins _ _ rfl a,
        joins _ _ rfl b]
    · rw [s.send_of_lost k target payload (.inr (full _ b)), State.offerBoth, joins _ _ rfl a, stays _ _ rfl b]
      exact loses _ _
    · rw [s.send_of_lost k target payload (.inl (full _ a)), State.offerBoth, stays _ _ rfl a, joins _ _ rfl b]
      exact loses _ _
    · rw [s.send_of_lost k target payload (.inl (full _ a)), State.offerBoth, stays _ _ rfl a, stays _ _ rfl b]
      exact loses _ _
  · refine ⟨fun far => ?_, fun own => ?_⟩
    · rw [State.answer, if_neg far]
    · rw [State.answer, if_pos own]

end Sys2Proof.Machine
end

section
/-! PROOFS. What a qualified change reports (R63 to R70, R76, R87, R96), and a sample with one enabled input (R61, R68). -/

namespace Sys2Proof.Machine

/-! ### The order of a sample (R68) -/

theorem nodup_eraseDups (l : List Nat) : l.eraseDups.Nodup := by
  match l with
  | [] => exact List.nodup_nil
  | a :: l =>
    have shorter : (l.filter fun b => !b == a).length ≤ l.length := List.length_filter_le _ _
    rw [List.eraseDups_cons, List.nodup_cons]
    refine ⟨fun mem => ?_, nodup_eraseDups _⟩
    simpa using (List.mem_filter.1 (List.mem_eraseDups.1 mem)).2
termination_by l.length

/-- Each of the 16 inputs is taken once in a sample. -/
theorem sampleOrder_nodup (order : List Nat) : (sampleOrder order).Nodup :=
  (nodup_eraseDups _).append (List.nodup_range.filter _) fun i named rest => by
    simp only [List.mem_filter, List.contains_eq_mem, Bool.not_eq_true', decide_eq_false_iff_not] at rest
    exact rest.2 named

theorem mem_sampleOrder (order : List Nat) (i : Nat) (lt : i < 16) : i ∈ sampleOrder order := by
  by_cases named : i ∈ (order.filter (· < 16)).eraseDups
  · exact List.mem_append_left _ named
  · exact List.mem_append_right _ (List.mem_filter.2 ⟨List.mem_range.2 lt, by
      simpa only [List.contains_eq_mem, Bool.not_eq_true', decide_eq_false_iff_not] using named⟩)

/-! ### A sample with one enabled input (R61) -/

theorem State.sampleInput_disabled (s : State) (lines : BitVec 16) (i : Nat)
    (off : (s.inputConfig i).enabled = false) : s.sampleInput lines i = s := by
  simp [State.sampleInput, off]

theorem State.sampleInputs_disabled (s : State) (lines : BitVec 16) (l : List Nat)
    (off : ∀ i ∈ l, (s.inputConfig i).enabled = false) : l.foldl (fun t i => t.sampleInput lines i) s = s := by
  induction l with
  | nil => rfl
  | cons i l ih =>
    rw [List.foldl_cons, s.sampleInput_disabled lines i (off i (by simp))]
    exact ih fun j mem => off j (by simp [mem])

/-- Where only one input is enabled, a sample is that input's turn, whatever the order. -/
theorem exec_inputSample_only (s : State) (lines : BitVec 16) (order : List Nat) (i : Nat) (running : s.phase = .running)
    (grid : s.tb.elapsed % 250 = 0) (only : s.onlyInput i) :
    exec (.inputSample lines order) s = .next (s.sampleInput lines i) := by
  obtain ⟨-, lt, -, others⟩ := only
  obtain ⟨before, rest, split⟩ := List.append_of_mem (mem_sampleOrder order i lt)
  have once := sampleOrder_nodup order
  rw [split, List.nodup_middle, List.nodup_cons, List.mem_append, not_or] at once
  obtain ⟨⟨notBefore, notRest⟩, -⟩ := once
  have fold : (sampleOrder order).foldl (fun t j => t.sampleInput lines j) s = s.sampleInput lines i := by
    rw [split, List.foldl_append, List.foldl_cons,
      s.sampleInputs_disabled lines before fun j mem => others j fun same => notBefore (same ▸ mem),
      State.sampleInputs_disabled _ lines rest fun j mem => ?_]
    simpa [State.inputConfig] using others j fun same => notRest (same ▸ mem)
  simp [exec, execInputSample, s.isRunning_of running, grid, fold]

/-! ### The turn of an input (R62 to R67) -/

/-- A change qualifies at the sample that comes q × 500 µs after its onset (R62, R63). -/
theorem InputChannel.sample_qualifies (c : InputChannel) (q : Nat) (u t : InputTest) (same : t.level = u.level)
    (test : c.qual = some u) (due : u.elapsed + q * 500 ≤ t.elapsed) :
    c.sample q t = ({ c with qual := none }, some u) := by
  simp only [InputChannel.sample, test]
  rw [if_pos same, if_pos due]

/-- With q = 0 a change qualifies at its onset sample (R63). -/
theorem InputChannel.sample_at_once (c : InputChannel) (t : InputTest) (idle : c.qual = none)
    (changed : c.recorded ≠ some t.level) : c.sample 0 t = ({ c with qual := none }, some t) := by
  simp only [InputChannel.sample, idle]
  rw [if_neg changed]
  rfl

/-- The channel of an input after an event that does not bring the count to the limit (R66, R70). -/
def State.countedInput (s : State) (i : Nat) (u : InputTest) : InputChannel :=
  { s.input i with
    qual := none
    recorded := some u.level
    events := min 31 ((s.input i).events + 1)
    windowEnd := if (s.input i).events = 0 then some s.chatterHorizon else (s.input i).windowEnd }

/-- An event in NORMAL below the limit is counted and handled by the class matrix (R66, R67, R69, R70). -/
theorem State.sampleInput_event (s : State) (lines : BitVec 16) (i : Nat) (u : InputTest) (old : Bool)
    (enabled : (s.inputConfig i).enabled = true)
    (qualifies : (s.input i).sample (s.inputConfig i).q
        ⟨(s.inputConfig i).logical (lines.getLsbD i), s.tb.elapsed, s.dating⟩ =
      ({ s.input i with qual := none }, some u))
    (recorded : (s.input i).recorded = some old) (normal : (s.input i).chatter = false)
    (below : (s.input i).events + 1 < s.cfg.chatterLimit) :
    s.sampleInput lines i =
      ((s.associate i u).setInput i (s.countedInput i u)).inputChange i u (decide (u.dating.g ≠ s.tb.g)) := by
  simp only [State.sampleInput, enabled, if_true, qualifies, State.inputQualifies, recorded, State.inputEvent, normal]
  rw [if_neg (by simp), if_neg (by omega)]
  simp only [State.countedInput, InputChannel.countEvent, satInc_eq, normal]

/-- An event that is no active-going change of an UNIT_TRIP leaves no trip association (R69). -/
theorem State.associate_none (s : State) (i : Nat) (u : InputTest)
    (not : ¬(u.level = true ∧ (s.inputConfig i).cls = .unitTrip)) : s.associate i u = s := by
  simp only [State.associate, Bool.and_eq_true, decide_eq_true_eq]
  rw [if_neg not]

theorem State.associate_some (s : State) (i : Nat) (u : InputTest) (active : u.level = true)
    (trip : (s.inputConfig i).cls = .unitTrip) : s.associate i u = s.setAssociation u.elapsed := by
  simp [State.associate, active, trip]

/-! ### The class matrix (R67, R87, R96) -/

/-- The record of a qualified change and its TRIP NOTICE (R76, R87). -/
def State.changeTold (s : State) (i : Nat) (u : InputTest) (crossed : Bool) : State :=
  let k := s.inputConfig i
  (s.append u.dating (.input .change i u.level k.cls k.group crossed)).send .tripNotice 31
    (tripNoticeBytes s.log.next u.dating .change i u.level k.cls k.group crossed)

theorem State.inputChange_indication (s : State) (i : Nat) (u : InputTest) (crossed : Bool)
    (cls : (s.inputConfig i).cls = .indication) :
    s.inputChange i u crossed =
      s.append u.dating (.input .change i u.level (s.inputConfig i).cls (s.inputConfig i).group crossed) := by
  simp [State.inputChange, State.reportInput, cls]

theorem State.inputChange_inactive (s : State) (i : Nat) (u : InputTest) (crossed : Bool)
    (cls : (s.inputConfig i).cls ≠ .indication) (inactive : u.level = false) :
    s.inputChange i u crossed = s.changeTold i u crossed := by
  simp [State.inputChange, State.reportInput, State.changeTold, cls, inactive]

theorem State.inputChange_active (s : State) (i : Nat) (u : InputTest) (crossed : Bool)
    (cls : (s.inputConfig i).cls ≠ .indication) (active : u.level = true) :
    s.inputChange i u crossed = (s.changeTold i u crossed).takeTrip i s.log.next u.dating := by
  simp [State.inputChange, State.reportInput, State.changeTold, cls, active]

/-- The local trip of an active-going change, and its member where the input has a group (R67, R96). -/
theorem State.takeTrip_eq (s : State) (i seq : Nat) (d : Dating) :
    s.takeTrip i seq d =
      let counted := s.modShift fun r => { r with localTrips := min 16777215 (r.localTrips + 1) }
      if (s.inputConfig i).group = 0 then counted
      else counted.handMember (s.inputConfig i).group ⟨s.ownNumber, i, seq, d⟩ := by
  have count : ShiftRecord.countTrip = fun r => { r with localTrips := min 16777215 (r.localTrips + 1) } := by
    funext r
    simp only [ShiftRecord.countTrip, countTop, satInc_eq]
  simp only [State.takeTrip, count]

/-! ### The TRIP NOTICE's layout (R36, R87) -/

theorem InputKind.code_eq (k : InputKind) :
    k.code = match k with
      | .change => 2
      | .chatterStart => 3
      | .chatterEnd => 4 := by
  cases k <;> rfl

theorem InputClass.code_eq (c : InputClass) :
    c.code = match c with
      | .indication => 0
      | .protection => 1
      | .unitTrip => 2 := by
  cases c <;> rfl

theorem toNat_eq_ite (b : Bool) : b.toNat = if b = true then 1 else 0 := by
  cases b <;> rfl

/-- Settles O29: the notice's layout, and each class and direction by what it leaves at the input's turn. -/
theorem qualifiedChangeIsReported : Obligations.QualifiedChangeIsReported := by
  refine ⟨fun seq d kind i level cls g crossed => ?_, fun s i lines order u old running grid enabled => ?_⟩
  · refine ⟨by simp [tripNoticeBytes, StationTime.bytes], ?_⟩
    simp only [tripNoticeBytes, StationTime.bytes, toNat_eq_ite, InputKind.code_eq, InputClass.code_eq,
      List.append_assoc] <;> rfl
  · intro c k onset level qualified recorded normal below crossed counted held linked logged told trip member leaves
    have sampled : c.sample k.q ⟨k.logical (lines.getLsbD i), s.tb.elapsed, s.dating⟩ =
        ({ c with qual := none }, some u) := by
      rcases qualified with ⟨test, due⟩ | ⟨idle, zero, rfl, changed⟩
      · exact c.sample_qualifies _ u _ level.symm test due
      · rw [zero]
        exact c.sample_at_once _ idle (by rw [recorded]; exact fun same => changed (Option.some.inj same))
    have turn := s.sampleInput_event lines i u old enabled sampled recorded normal below
    have leave : ∀ t, s.sampleInput lines i = t → leaves t := by
      rintro t rfl
      exact ⟨rfl, fun only => exec_inputSample_only s lines order i running grid only⟩
    have unlinked : ¬(u.level = true ∧ k.cls = .unitTrip) → s.sampleInput lines i = held.inputChange i u crossed := by
      intro not
      rw [turn, s.associate_none i u not]
      rfl
    have withLink : u.level = true → k.cls = .unitTrip → s.sampleInput lines i = linked.inputChange i u crossed := by
      intro active cls
      rw [turn, s.associate_some i u active cls]
      rfl
    have tripOf : ∀ t : State, t.cfg = s.cfg → t.ownNumber = s.ownNumber → t.log = s.log → k.cls ≠ .indication →
        u.level = true → t.inputChange i u crossed =
          if k.group = 0 then trip (t.changeTold i u crossed)
          else (trip (t.changeTold i u crossed)).handMember k.group member := by
      intro t cfg own log cls active
      have conf : t.inputConfig i = k := by simp only [State.inputConfig, cfg, k]
      have conf' : (t.changeTold i u crossed).inputConfig i = k := by simp [State.inputConfig, State.changeTold, cfg, k]
      have own' : (t.changeTold i u crossed).ownNumber = s.ownNumber := by simp [State.changeTold, own]
      rw [t.inputChange_active i u crossed (by rw [conf]; exact cls) active, State.takeTrip_eq]
      dsimp only
      rw [conf', own', log]
    refine ⟨fun cls => leave _ ?_, fun cls inactive => leave _ ?_, fun cls active group => leave _ ?_,
      fun cls active group => leave _ ?_, fun cls active group => leave _ ?_, fun cls active group => leave _ ?_⟩
    · rw [unlinked (by simp [cls])]
      exact held.inputChange_indication i u crossed cls
    · rw [unlinked (by simp [inactive])]
      exact held.inputChange_inactive i u crossed cls inactive
    · rw [unlinked (by simp [cls]), tripOf held rfl rfl rfl (by simp [cls]) active, if_pos group]
      rfl
    · rw [unlinked (by simp [cls]), tripOf held rfl rfl rfl (by simp [cls]) active, if_neg group]
      rfl
    · rw [withLink active cls, tripOf linked rfl rfl rfl (by simp [cls]) active, if_pos group]
      rfl
    · rw [withLink active cls, tripOf linked rfl rfl rfl (by simp [cls]) active, if_neg group]
      rfl

end Sys2Proof.Machine
end

section
/-! PROOFS. The layouts in which requests are answered (R36, R37, R153): numbers, flags and optional fields as bytes, trip log
records and the parts of a shift record. -/

namespace Sys2Proof.Machine

/-! ### Numbers, flags and optional fields as bytes (R36) -/

/-- A number is sent most significant byte first. -/
theorem byteAt_beBytes (n v i : Nat) (lt : i < n) : byteAt (beBytes n v) i = v / 256 ^ (n - 1 - i) % 256 := by
  induction n generalizing v with
  | zero => omega
  | succ n ih =>
    rcases Nat.lt_or_eq_of_le (Nat.lt_succ_iff.1 lt) with below | rfl
    · have front : byteAt (beBytes (n + 1) v) i = byteAt (beBytes n (v / 256)) i := by
        simp [byteAt, beBytes, List.getD_eq_getElem?_getD, List.getElem?_append_left, below]
      have place : n + 1 - 1 - i = n - 1 - i + 1 := by omega
      rw [front, ih (v / 256) below, place, Nat.pow_succ', Nat.div_div_eq_div_mul]
    · simp [byteAt, beBytes, List.getD_eq_getElem?_getD]

theorem beInt_eight (v : Int) : beInt 8 v = beBytes 8 (v % 18446744073709551616).toNat := rfl

theorem beInt_four (v : Int) : beInt 4 v = beBytes 4 (v % 4294967296).toNat := rfl

theorem optBytes_eq (n : Nat) (v : Option Nat) :
    optBytes n v = match v with
      | some k => beBytes n k
      | none => List.replicate n 255 := by
  cases v <;> rfl

theorem optTimeBytes_eq (v : Option StationTime) :
    optTimeBytes v = match v with
      | some t => beBytes 4 t.s ++ beBytes 4 t.u
      | none => List.replicate 8 255 := by
  cases v <;> rfl

/-- A flag's part of a byte of flags: its bit's value where it is set. -/
def bitValue (b : Bool) (k : Nat) : Nat := if b = true then k else 0

theorem toNat_eq_bitValue (b : Bool) : b.toNat = bitValue b 1 := by
  cases b <;> rfl

theorem two_mul_bitValue (b : Bool) (k : Nat) : 2 * bitValue b k = bitValue b (2 * k) := by
  cases b <;> rfl

/-- Flags as a number, each with its bit's value. -/
theorem bitsNat_cons (b : Bool) (bs : List Bool) : bitsNat (b :: bs) = bitValue b 1 + 2 * bitsNat bs := by
  rw [← toNat_eq_bitValue]
  rfl

theorem bitsNat_nil : bitsNat [] = 0 := rfl

theorem bitsNat_three (a b c : Bool) : bitsNat [a, b, c] = bitValue a 1 + bitValue b 2 + bitValue c 4 := by
  simp only [bitsNat_cons, bitsNat_nil, Nat.mul_add, two_mul_bitValue, Nat.reduceMul]
  omega

theorem bitsNat_four (a b c d : Bool) :
    bitsNat [a, b, c, d] = bitValue a 1 + bitValue b 2 + bitValue c 4 + bitValue d 8 := by
  simp only [bitsNat_cons, bitsNat_nil, Nat.mul_add, two_mul_bitValue, Nat.reduceMul]
  omega

theorem bitsNat_six (a b c d e f : Bool) :
    bitsNat [a, b, c, d, e, f] =
      bitValue a 1 + bitValue b 2 + bitValue c 4 + bitValue d 8 + bitValue e 16 + bitValue f 32 := by
  simp only [bitsNat_cons, bitsNat_nil, Nat.mul_add, two_mul_bitValue, Nat.reduceMul]
  omega

theorem StationTime.bytes_length (t : StationTime) : t.bytes.length = 8 := by
  simp [StationTime.bytes]

theorem beInt_length (n : Nat) (v : Int) : (beInt n v).length = n := beBytes_length _ _

theorem optBytes_length (n : Nat) (v : Option Nat) : (optBytes n v).length = n := by
  cases v <;> simp [optBytes]

/-! ### Trip log records (R37) -/

/-- A record's 13 common bytes and the fields of its kind. -/
theorem Record.bytes_of_body (x : Record) (code length : Nat) (fields : List Byte) (kind : x.body.code = code)
    (body : x.body.bytes = fields) (total : 13 + x.body.bytes.length = length) :
    x.bytes.length = length ∧ x.bytes = beBytes 2 x.seq ++ beBytes 1 code
      ++ (beBytes 4 x.dating.time.s ++ beBytes 4 x.dating.time.u) ++ beBytes 1 x.dating.g
      ++ beBytes 1 x.dating.quality.val ++ fields := by
  subst kind body
  refine ⟨?_, rfl⟩
  simp only [Record.bytes, List.length_append, beBytes_length, StationTime.bytes_length]
  omega

/-- How long the fields of each kind are (R37). -/
theorem RecordBody.bytes_length (b : RecordBody) :
    b.bytes.length = match b with
      | .start .. => 8
      | .input .. => 5
      | .timeStep .. => 9
      | .modeChange .. => 11
      | .invalidCombination .. => 1
      | .groupClose .. => 16
      | .groupStray .. => 14
      | .shiftClose .. => 5
      | .preset .. => 14
      | .protect .. => 2
      | .serviceDue .. => 6
      | .powerDip .. => 5
      | .storeFault .. => 3 := by
  cases b with
  | preset target => cases target <;> simp [RecordBody.bytes, TallyTarget.bytes]
  | _ => simp [RecordBody.bytes, optBytes_length, beInt_length, StationTime.bytes_length]

end Sys2Proof.Machine
end

section
/-! PROOFS. O56: FETCH LOG and FETCH NOTICES remove what they return, records in the layout of R37 (R86, R93). -/

namespace Sys2Proof.Machine

/-- The request served next, of the command's own code and passing the checks of R178, is handed to its owner. -/
theorem State.serve_of {s : State} {r : Request} {code : Nat} (owner : State → Request → State) (served : s.servesNext r)
    (ok : r.acceptable = true) (asked : r.code = code) : s.serve code owner = owner s.popRequest r := by
  subst asked
  exact s.serve_acceptable r owner served ok

/-- A request command's outcome, as what the owner leaves. -/
theorem State.next_serve_of {s : State} {r : Request} {code : Nat} (owner : State → Request → State)
    (served : s.servesNext r) (ok : r.acceptable = true) (asked : r.code = code) :
    (Host.Outcome.next (s.serve code owner) : Host.Outcome State Fault Refusal) = .next (owner s.popRequest r) :=
  congrArg _ (State.serve_of owner served ok asked)

/-! ### The codes of a record's fields (R36, R37) -/

theorem ResetCause.code_eq (c : ResetCause) :
    c.code = match c with
      | .powerOn => 1
      | .resetLine => 2
      | .supplyLow => 3
      | .restart => 4 := by
  cases c <;> rfl

theorem StepCause.code_eq (c : StepCause) :
    c.code = match c with
      | .join => 1
      | .agree => 2
      | .set => 3
      | .anchor => 4 := by
  cases c <;> rfl

theorem Mode.code_eq (m : Mode) :
    m.code = match m with
      | .standstill => 0
      | .spin => 1
      | .generating => 2
      | .condensing => 3
      | .pumpStart => 4
      | .pumping => 5
      | .isolated => 6 := by
  cases m <;> rfl

theorem StrayReason.code_eq (w : StrayReason) :
    w.code = match w with
      | .beforeWindow => 1
      | .afterWindow => 2
      | .afterClose => 3 := by
  cases w <;> rfl

theorem CloseCause.code_eq (c : CloseCause) :
    c.code = match c with
      | .takeover => 1
      | .forced => 2
      | .powerGap => 3 := by
  cases c <;> rfl

theorem TallySet.code_eq (set : TallySet) :
    set.code = match set with
      | .lifetime => 0
      | .service => 1 := by
  cases set <;> rfl

theorem ProtectAction.code_eq (a : ProtectAction) :
    a.code = match a with
      | .off => 0
      | .on => 1
      | .lockDown => 2 := by
  cases a <;> rfl

theorem Region.code_eq (r : Region) :
    r.code = match r with
      | .journal => 0
      | .shifts => 1
      | .trips => 2 := by
  cases r <;> rfl

theorem StoreFault.code_eq (f : StoreFault) :
    f.code = match f with
      | .program => 1
      | .erase => 2 := by
  cases f <;> rfl

/-! ### What the two fetches take (R86, R93) -/

/-- The oldest record alone is taken where one is asked for or there is no other. -/
theorem recordsFetched_one (x : Record) (rest : List Record) (count : Nat) (one : count = 1 ∨ rest = []) :
    recordsFetched (x :: rest) count = [x] := by
  cases rest with
  | nil => rfl
  | cons y more => simp_all [recordsFetched]

/-- Of two asked for, the second is taken where both fit in 42 bytes. -/
theorem recordsFetched_two (x y : Record) (more : List Record) :
    recordsFetched (x :: y :: more) 2 = if x.bytes.length + y.bytes.length ≤ 42 then [x, y] else [x] := by
  simp [recordsFetched]

/-- FETCH LOG that takes records: they leave the log at its oldest end and are answered with the fill left. -/
theorem State.serveFetchLog_of_taken (s : State) (r : Request) (taken left : List Record)
    (fetched : recordsFetched s.log.records (byteAt r.params 0) = taken) (nonempty : taken ≠ [])
    (rest : s.log.records.drop taken.length = left) :
    s.serveFetchLog r = State.answer
      { s with log := { s.log with records := left, get := (s.log.get + taken.length) % 256 } } r .ok
      (beBytes 1 taken.length ++ beBytes 2 left.length ++ taken.flatMap Record.bytes) := by
  subst fetched rest
  exact if_neg nonempty

/-- FETCH NOTICES that takes notices: they leave the queue at its oldest end and are answered with their senders. -/
theorem State.serveFetchNotices_of_taken (s : State) (r : Request) (count : Nat) (taken : List Notice)
    (asked : byteAt r.params 0 = count) (fetched : s.notices.take count = taken) (nonempty : taken ≠ []) :
    s.serveFetchNotices r = State.answer { s with notices := s.notices.drop count } r .ok
      (beBytes 1 taken.length ++ taken.flatMap fun n => beBytes 1 n.sender ++ n.payload) := by
  subst asked fetched
  exact if_neg nonempty

/-- The count of an acceptable FETCH NOTICES is 1 or 2 (R178, R181). -/
theorem Request.fetchNotices_count {r : Request} (ok : r.acceptable = true) (code : r.code = 6) :
    byteAt r.params 0 = 1 ∨ byteAt r.params 0 = 2 := by
  simpa [Request.acceptable, code, parametersInRange] using (Bool.and_eq_true_iff.1 ok).2

/-- Settles O56: each kind of record by its fields and length, each fetch by how many entries there are and are asked for. -/
theorem fetchesRemoveWhatTheyReturn : Obligations.FetchesRemoveWhatTheyReturn := by
  unfold Obligations.FetchesRemoveWhatTheyReturn
  refine ⟨?layout, ?fetches⟩
  case layout =>
    rintro ⟨seq, dating, body⟩ bit mode time absent form
    cases body with
    | start cause restored torn queued interrupted clamped faulted =>
      refine Record.bytes_of_body _ 1 21 _ rfl ?_ (by simp [RecordBody.bytes_length])
      simp only [RecordBody.bytes, bitsNat_three, ResetCause.code_eq, optBytes_eq] <;> rfl
    | input kind line level cls group stepCrossed =>
      refine Record.bytes_of_body _ _ 18 _ (InputKind.code_eq kind) ?_ (by simp [RecordBody.bytes_length])
      simp only [RecordBody.bytes, toNat_eq_bitValue, InputClass.code_eq] <;> rfl
    | timeStep amount cause =>
      refine Record.bytes_of_body _ 5 22 _ rfl ?_ (by simp [RecordBody.bytes_length])
      simp only [RecordBody.bytes, beInt_eight, StepCause.code_eq] <;> rfl
    | modeChange old new onset tripStop =>
      refine Record.bytes_of_body _ 6 24 _ rfl ?_ (by simp [RecordBody.bytes_length])
      simp only [RecordBody.bytes, toNat_eq_bitValue, Mode.code_eq] <;> rfl
    | invalidCombination comb => exact Record.bytes_of_body _ 7 14 _ rfl rfl (by simp [RecordBody.bytes_length])
    | groupClose group first members overflow =>
      exact Record.bytes_of_body _ 8 29 _ rfl rfl (by simp [RecordBody.bytes_length])
    | groupStray group reason station line logSeq t =>
      refine Record.bytes_of_body _ 9 27 _ rfl ?_ (by simp [RecordBody.bytes_length])
      simp only [RecordBody.bytes, StrayReason.code_eq] <;> rfl
    | shiftClose number cause =>
      refine Record.bytes_of_body _ 10 18 _ rfl ?_ (by simp [RecordBody.bytes_length])
      simp only [RecordBody.bytes, optBytes_eq, CloseCause.code_eq] <;> rfl
    | preset target old new =>
      cases target with
      | mode m =>
        refine Record.bytes_of_body _ 11 27 _ rfl ?_ (by simp [RecordBody.bytes_length])
        simp only [RecordBody.bytes, TallyTarget.bytes, Mode.code_eq] <;> rfl
      | service => exact Record.bytes_of_body _ 11 27 _ rfl rfl (by simp [RecordBody.bytes_length])
    | protect set action =>
      refine Record.bytes_of_body _ 12 15 _ rfl ?_ (by simp [RecordBody.bytes_length])
      simp only [RecordBody.bytes, TallySet.code_eq, ProtectAction.code_eq] <;> rfl
    | serviceDue service => exact Record.bytes_of_body _ 13 19 _ rfl rfl (by simp [RecordBody.bytes_length])
    | powerDip ms eraseAbandoned =>
      refine Record.bytes_of_body _ 14 18 _ rfl ?_ (by simp [RecordBody.bytes_length])
      simp only [RecordBody.bytes, toNat_eq_bitValue] <;> rfl
    | storeFault region fault page =>
      refine Record.bytes_of_body _ 15 16 _ rfl ?_ (by simp [RecordBody.bytes_length])
      simp only [RecordBody.bytes, Region.code_eq, StoreFault.code_eq] <;> rfl
  case fetches =>
    intro s r served ok u count logAfter
    refine ⟨fun code => ?log, fun code => ?notices⟩
    case log =>
      have run : exec .fetchLog s = .next (u.serveFetchLog r) :=
        State.next_serve_of State.serveFetchLog served ok code
      rw [run]
      refine ⟨fun empty => ?_, fun a rest held => ⟨fun one => ?_, fun b more second two => ⟨fun fits => ?_, fun large => ?_⟩⟩⟩
      · have log : u.log.records = [] := empty
        simp [State.serveFetchLog, log, recordsFetched]
      · rw [u.serveFetchLog_of_taken r [a] rest _ (by simp) (by simp [u, held])]
        · simp
          rfl
        · rw [← recordsFetched_one a rest count one, ← held]
          rfl
      · subst second
        rw [u.serveFetchLog_of_taken r [a, b] more _ (by simp) (by simp [u, held])]
        · simp
          rfl
        · have both := recordsFetched_two a b more
          rw [if_pos fits, ← held, ← two] at both
          exact both
      · subst second
        rw [u.serveFetchLog_of_taken r [a] (b :: more) _ (by simp) (by simp [u, held])]
        · simp
          rfl
        · have alone := recordsFetched_two a b more
          rw [if_neg (by omega), ← held, ← two] at alone
          exact alone
    case notices =>
      have run : exec .fetchNotices s = .next (u.serveFetchNotices r) :=
        State.next_serve_of State.serveFetchNotices served ok code
      have counts : count = 1 ∨ count = 2 := Request.fetchNotices_count ok code
      rw [run]
      refine ⟨fun empty => ?_, fun a rest held => ⟨fun one => ?_, fun b more second two => ?_⟩⟩
      · have queue : u.notices = [] := empty
        simp [State.serveFetchNotices, queue]
      · have taken : u.notices.take count = [a] ∧ u.notices.drop count = rest := by
          rcases counts with c | c <;> rcases one with o | o <;> simp_all [u]
        rw [u.serveFetchNotices_of_taken r count [a] rfl taken.1 (by simp), taken.2]
        simp
      · subst second
        rw [u.serveFetchNotices_of_taken r 2 [a, b] two (by simp [u, held]) (by simp)]
        simp [u, held]

end Sys2Proof.Machine
end

section
/-! PROOFS. O55: the requests that read, the alarm causes and ALM (R109, R132, R179, R180, R193, R194). -/

namespace Sys2Proof.Machine

/-! ### The layouts of a member, a peer entry and the contents (R36) -/

theorem Member.bytes_eq (m : Member) : m.bytes = beBytes 1 m.station ++ beBytes 1 m.input ++ beBytes 2 m.logSeq
    ++ beBytes 4 m.dating.time.s ++ beBytes 4 m.dating.time.u ++ beBytes 1 m.dating.g
    ++ beBytes 1 m.dating.quality.val := by
  simp [Member.bytes, StationTime.bytes]

theorem Member.bytes_length (m : Member) : m.bytes.length = 14 := by
  simp [Member.bytes, StationTime.bytes_length]

theorem Peer.bytes_length (p : Peer) (n : Nat) : (p.bytes n).length = 12 := by
  simp [Peer.bytes, beInt_length, optBytes_length]

theorem Peer.bytes_eq (p : Peer) (n : Nat) :
    p.bytes n = beBytes 1 n ++ beBytes 1 (p.state.toNat % 128 + bitValue p.present 128)
      ++ beBytes 1 (p.statusFlags.toNat % 256)
      ++ beBytes 4 ((max (-2147483647) (min 2147483647 p.offset)) % 4294967296).toNat
      ++ beBytes 1 (bitValue p.far 1 + bitValue p.heard 2 + bitValue p.heardA 4 + bitValue p.heardB 8)
      ++ beBytes 1 p.missed ++ optBytes 2 (p.window.map (·.h)) ++ beBytes 1 p.restarts := by
  have present : 128 * p.present.toNat = bitValue p.present 128 := by cases p.present <;> rfl
  rw [Peer.bytes, present, bitsNat_four, beInt_four]
  rfl

/-- The own station's entry: its number, and every other field at its reset value. -/
theorem State.peerBytes_own (s : State) :
    s.peerBytes s.ownNumber = beBytes 1 s.ownNumber ++ [0, 0, 0, 0, 0, 0, 0, 0, 255, 255, 0] := by
  have reset : Peer.cleared.bytes s.ownNumber = beBytes 1 s.ownNumber ++ [0, 0, 0, 0, 0, 0, 0, 0, 255, 255, 0] := by
    simp only [Peer.bytes, List.append_assoc]
    rfl
  rw [State.peerBytes, if_pos rfl, reset]

theorem State.peerBytes_other (s : State) (n : Nat) (other : n ≠ s.ownNumber) : s.peerBytes n = (s.peer n).bytes n := by
  rw [State.peerBytes, if_neg other]
  rfl

theorem State.statusContent_length (s : State) : s.statusContent.length = 34 := by
  simp [State.statusContent, StationTime.bytes_length]

theorem State.timeContent_length (s : State) : s.timeContent.length = 14 := by
  simp [State.timeContent, StationTime.bytes_length, beInt_length]

/-- The stations of READ PEERS, those past 30 left out. -/
theorem peersAsked_eq (first count : Nat) :
    peersAsked first count = (List.range count).filterMap fun k => if first + k ≤ 30 then some (first + k) else none := by
  unfold peersAsked
  induction List.range count with
  | nil => rfl
  | cons k ks ih => by_cases last : first + k ≤ 30 <;> simp_all

/-! ### The alarm causes and ALM (R193, R194) -/

/-- Quality 3 is that of FREE and JOINING. -/
theorem State.quality_three (s : State) : s.quality = 3 ↔ s.agr.state = .free ∨ s.agr.state = .joining := by
  cases state : s.agr.state <;> simp [State.quality, state, AgreementState.quality]

/-- Two numbers have a set bit in common where their conjunction is not 0. -/
theorem and_ne_zero_iff (m n : Nat) : m &&& n ≠ 0 ↔ ∃ k, m.testBit k = true ∧ n.testBit k = true := by
  constructor
  · intro nonzero
    by_contra none
    refine nonzero (Nat.zero_of_testBit_eq_false fun k => ?_)
    rw [Nat.testBit_and, Bool.and_eq_false_iff]
    by_contra both
    exact none ⟨k, by simpa using both⟩
  · rintro ⟨k, left, right⟩ zero
    have bit := congrArg (·.testBit k) zero
    simp [left, right] at bit

/-- A running part asserts ALM where a present cause has its mask bit set. -/
theorem State.alm_running (s : State) (running : s.phase = .running) :
    s.alm = true ↔ ∃ k, s.alarmCauses[k]? = some true ∧ s.cfg.alarmMask.getLsbD k = true := by
  have cause (k : Nat) : (bitsNat s.alarmCauses).testBit k = true ↔ s.alarmCauses[k]? = some true := by
    rw [bitsNat_testBit, List.getD_eq_getElem?_getD]
    cases s.alarmCauses[k]? <;> simp
  calc s.alm = true ↔ bitsNat s.alarmCauses &&& s.cfg.alarmMask.toNat ≠ 0 := by simp [State.alm, running]
    _ ↔ _ := and_ne_zero_iff _ _
    _ ↔ _ := exists_congr fun k => and_congr (cause k) Iff.rfl

theorem State.alarmCauses_eq (s : State) :
    s.alarmCauses = [s.flags.logOverrun, s.flags.noticeOverrun, s.flags.noticeLoss, s.flags.archiveLoss,
      s.flags.programFault, s.flags.eraseFault, s.flags.protectionFault, s.flags.duplicateStation, s.flags.configFault,
      decide (s.cfg.logCritical ≤ s.log.records.length), decide (s.cfg.noticeCritical ≤ s.notices.length),
      decide (∃ c ∈ s.inputs, c.chatter = true), s.tally.serviceDue,
      decide (s.agr.state = .free ∨ s.agr.state = .joining), s.chA.degraded || s.chB.degraded] := by
  have chatter : s.inputs.any (·.chatter) = decide (∃ c ∈ s.inputs, c.chatter = true) := by
    rw [Bool.eq_iff_iff, List.any_eq_true, decide_eq_true_iff]
  have quality : decide (s.quality = 3) = decide (s.agr.state = .free ∨ s.agr.state = .joining) :=
    decide_eq_decide.2 s.quality_three
  rw [State.alarmCauses, chatter, quality]
  rfl

/-- Settles O55: each layout by its lemma, and each request by the content its owner answers with. -/
theorem readingRequestsAreAnswered : Obligations.ReadingRequestsAreAnswered := by
  unfold Obligations.ReadingRequestsAreAnswered
  refine ⟨fun n v i => ⟨beBytes_length n v, byteAt_beBytes n v i⟩, fun m => ⟨m.bytes_eq, m.bytes_length⟩,
    fun s n => ⟨?own, ?other⟩, fun s => ⟨s.alarmCauses_eq, s.alm_running, ?inReset⟩, ?requests⟩
  case own =>
    rintro rfl
    exact s.peerBytes_own
  case other =>
    intro other
    rw [s.peerBytes_other n other]
    refine ⟨Peer.bytes_length _ n, ?_⟩
    rw [Peer.bytes_eq, optBytes_eq]
    cases window : (s.peer n).window <;> rfl
  case inReset =>
    intro why phase
    simp [State.alm, phase]
  case requests =>
    intro s r served ok answered x y counts status time stations g protection
    have tallies (asked : r.code = 9) : exec .readTallies s = answered (s.talliesContent x y) :=
      State.next_serve_of State.serveReadTallies served ok asked
    have statusEq : status = s.statusContent := by
      simp [status, counts, State.statusContent, StationTime.bytes]
    have timeEq : time = s.timeContent := by
      simp [time, State.timeContent, StationTime.bytes]
    have stationsEq : stations = peersAsked x y := (peersAsked_eq x y).symm
    rw [statusEq, timeEq, stationsEq]
    refine ⟨fun asked => ⟨State.next_serve_of State.serveStatus served ok asked, s.statusContent_length⟩,
      fun asked => ⟨State.next_serve_of State.serveReadTime served ok asked, s.timeContent_length⟩, State.next_serve_of State.serveReadPeers served ok,
      State.next_serve_of State.serveReadGroup served ok, ?_, ?_, ?_, ?_, ?_⟩
    · intro asked lifetime first
      rw [tallies asked, lifetime, first]
      rfl
    · intro asked lifetime second
      rw [tallies asked, lifetime, second]
      rfl
    · intro asked service
      rw [tallies asked, service]
      rfl
    · intro asked shift first
      rw [tallies asked, shift, first]
      rfl
    · intro asked shift second
      rw [tallies asked, shift, second]
      rfl

end Sys2Proof.Machine
end

section
/-! PROOFS. O53: the record store is read for READ ARCHIVE and READ SHIFT (R153, R165, R174, R176, R181). -/

namespace Sys2Proof.Machine

/-! ### The parts of a shift record (R36, R153) -/

theorem OpenCause.code_eq (c : OpenCause) :
    c.code = match c with
      | .takeover => 1
      | .forced => 2
      | .powerUp => 3 := by
  cases c <;> rfl

/-! ### A read begun and made (R174, R176) -/

theorem State.supplyNormal_iff (s : State) : s.supplyNormal = true ↔ s.supply.state = .normal := decide_eq_true_iff

theorem State.beginRead_of_normal {s : State} (r : Request) (normal : s.supply.state = .normal) :
    s.beginRead r = { s with req := { s.req with service := some (.storeRead r) } } :=
  if_pos (s.supplyNormal_iff.2 normal)

theorem State.beginRead_of_not_normal {s : State} (r : Request) (low : s.supply.state ≠ .normal) :
    s.beginRead r = s.answer r .storeFault [] :=
  if_neg fun normal => low (s.supplyNormal_iff.1 normal)

/-- A closed shift is read through the record store. -/
theorem State.serveReadShift_of_closed (s : State) {r : Request} (closed : byteAt r.params 0 ≠ 0) :
    s.serveReadShift r = s.beginRead r :=
  if_neg closed

/-- The store is free for a read: no record is being programmed, no erase runs and the supply is NORMAL (R174). -/
def State.storeFree (s : State) : Prop :=
  s.store.programming = none ∧ s.store.eraseRunning = false ∧ s.supply.state = .normal

/-- A waiting read stays as it is until the store is free. -/
theorem exec_storeRead_of_not_free {s : State} {r : Request} (waiting : s.req.service = some (.storeRead r))
    (busy : ¬s.storeFree) : exec .storeRead s = .next s := by
  have guard : ¬(s.isRunning && s.store.programming.isNone && !s.store.eraseRunning && s.supplyNormal) = true := by
    simp only [Bool.and_eq_true, Option.isNone_iff_eq_none, Bool.not_eq_true', s.supplyNormal_iff]
    rintro ⟨⟨⟨-, programming⟩, erase⟩, normal⟩
    exact busy ⟨programming, erase, normal⟩
  change execStoreRead s = .next s
  simp only [execStoreRead, waiting, if_neg guard]

/-- A waiting read is made of a free store, and its service ends. -/
theorem exec_storeRead_of_free {s : State} {r : Request} {st : Status} {content : List Byte} (running : s.phase = .running)
    (waiting : s.req.service = some (.storeRead r)) (free : s.storeFree) (answer : s.storeAnswer r = (st, content)) :
    exec .storeRead s = .next (State.answer { s with req := { s.req with service := none } } r st content) := by
  obtain ⟨programming, erase, normal⟩ := free
  have guard : (s.isRunning && s.store.programming.isNone && !s.store.eraseRunning && s.supplyNormal) = true := by
    simp [s.isRunning_of running, programming, erase, s.supplyNormal_iff.2 normal]
  change execStoreRead s = _
  simp only [execStoreRead, waiting, if_pos guard, answer]

/-! ### What READ ARCHIVE and READ SHIFT answer (R153, R181) -/

theorem archiveAnswer_of_none {l : List Record} {i : Nat} (count : Nat) (past : l[i]? = none) :
    archiveAnswer l i count = (.empty, []) := by
  simp only [archiveAnswer, past]

/-- The record at the index alone, where one is asked for or there is no older one. -/
theorem archiveAnswer_one {l : List Record} {i count : Nat} {x : Record} (held : l[i]? = some x)
    (one : count = 1 ∨ l[i + 1]? = none) : archiveAnswer l i count = (.ok, beBytes 1 1 ++ x.bytes) := by
  have alone : (if count = 2 then l[i + 1]? else none) = none := by
    rcases one with rfl | none
    · rfl
    · rw [none, ite_self]
  simp only [archiveAnswer, held, alone]

/-- Of two asked for, the older record first where both fit in 44 bytes. -/
theorem archiveAnswer_two {l : List Record} {i count : Nat} {x y : Record} (held : l[i]? = some x) (two : count = 2)
    (older : l[i + 1]? = some y) :
    archiveAnswer l i count = if x.bytes.length + y.bytes.length ≤ 44 then (.ok, beBytes 1 2 ++ y.bytes ++ x.bytes)
      else (.ok, beBytes 1 1 ++ x.bytes) := by
  simp only [archiveAnswer, held, if_pos two, older, Nat.add_comm y.bytes.length]

theorem State.storeAnswer_archive {s : State} {r : Request} (asked : r.code = 5) :
    s.storeAnswer r = archiveAnswer s.store.archiveDown (fieldAt r.params 0 2) (byteAt r.params 2) :=
  if_pos asked

theorem State.storeAnswer_shift {s : State} {r : Request} (asked : r.code = 10) :
    s.storeAnswer r = shiftAnswer s.store.shiftsDown (byteAt r.params 0) (byteAt r.params 1) :=
  if_neg (by omega)

theorem shiftAnswer_of_none {l : List (ClosedShift × Option Nat)} {i : Nat} (part : Nat) (past : l[i - 1]? = none) :
    shiftAnswer l i part = (.empty, []) := by
  simp only [shiftAnswer, past]

theorem shiftAnswer_of_some {l : List (ClosedShift × Option Nat)} {i : Nat} {c : ClosedShift} {n : Option Nat} (part : Nat)
    (held : l[i - 1]? = some (c, n)) :
    shiftAnswer l i part = (.ok, shiftPartBytes c.shift (some (c.closedAt, c.closedG, c.cause)) n part) := by
  simp only [shiftAnswer, held]

/-- Settles O53: the parts by their fields, the beginning of a read by the supply's state, the records by their sorting, and
a read made by whether the store is free and what it holds at the index. -/
theorem storeIsReadForRequests : Obligations.StoreIsReadForRequests := by
  unfold Obligations.StoreIsReadForRequests
  refine ⟨?parts, ?begun, ?counted, ?made⟩
  case parts =>
    intro x closed stored number time bit part
    refine ⟨?_, ?_, rfl, rfl, rfl, ?_⟩
    · rcases closed with _ | ⟨t, g, cause⟩
      · simp only [part, shiftPartBytes, optBytes_eq, bitsNat_six, OpenCause.code_eq, StationTime.bytes,
          List.append_assoc] <;> rfl
      · simp only [part, shiftPartBytes, optBytes_eq, bitsNat_six, OpenCause.code_eq, CloseCause.code_eq,
          StationTime.bytes, List.append_assoc]
        cases cause <;> rfl
    · simp only [part, shiftPartBytes, optBytes_eq, optTimeBytes_eq, bitsNat_three] <;> rfl
    · simp only [part, shiftPartBytes, optBytes_eq, toNat_eq_bitValue] <;> rfl
  case begun =>
    intro s r served ok u waits
    refine ⟨fun asked normal => ?_, fun asked low => ?_, fun asked current => ?_, fun asked closed normal => ?_,
      fun asked closed low => ?_⟩
    · exact (State.next_serve_of State.beginRead served ok asked).trans (congrArg _ (State.beginRead_of_normal r normal))
    · exact (State.next_serve_of State.beginRead served ok asked).trans (congrArg _ (State.beginRead_of_not_normal r low))
    · exact (State.next_serve_of State.serveReadShift served ok asked).trans (congrArg _ (if_pos current))
    · exact (State.next_serve_of State.serveReadShift served ok asked).trans (congrArg _
        ((u.serveReadShift_of_closed closed).trans (State.beginRead_of_normal r normal)))
    · exact (State.next_serve_of State.serveReadShift served ok asked).trans (congrArg _
        ((u.serveReadShift_of_closed closed).trans (State.beginRead_of_not_normal r low)))
  case counted =>
    intro st r pages stored
    refine ⟨st.recordsDown r, sortDescending_perm _, sortDescending_descending _, ?_, ?_⟩
    · rintro rfl
      rfl
    · rintro rfl
      rfl
  case made =>
    intro s r running waiting u free i closed
    refine ⟨exec_storeRead_of_not_free waiting, fun free asked => ⟨fun past => ?_, fun x held => ⟨fun one => ?_,
      fun y two older => ⟨fun fits => ?_, fun large => ?_⟩⟩⟩, fun free asked => ⟨fun past => ?_, fun c n held => ?_⟩⟩
    · exact exec_storeRead_of_free running waiting free
        ((State.storeAnswer_archive asked).trans (archiveAnswer_of_none _ past))
    · exact exec_storeRead_of_free running waiting free
        ((State.storeAnswer_archive asked).trans (archiveAnswer_one held one))
    · exact exec_storeRead_of_free running waiting free
        ((State.storeAnswer_archive asked).trans ((archiveAnswer_two held two older).trans (if_pos fits)))
    · exact exec_storeRead_of_free running waiting free
        ((State.storeAnswer_archive asked).trans ((archiveAnswer_two held two older).trans (if_neg (by omega))))
    · exact exec_storeRead_of_free running waiting free
        ((State.storeAnswer_shift asked).trans (shiftAnswer_of_none _ past))
    · exact exec_storeRead_of_free running waiting free
        ((State.storeAnswer_shift asked).trans (shiftAnswer_of_some _ held))

end Sys2Proof.Machine
end

section
/-! PROOFS. Accepted beacons (R39, R40) and the agreement round: the outcome (R45 to R48), what it decides (R52 to R57) and what
it does (R41). -/

namespace Sys2Proof.Machine

/-! ### An accepted BEACON (R39, R40) -/

/-- What an accepted BEACON reports is taken, and a stamp of the current generation forms the offset (R39, R40). -/
theorem Peer.takeBeacon_eq (e : Peer) (payload : List Byte) (stamp : Stamp) (g delay : Nat) :
    e.takeBeacon payload stamp g delay =
      if stamp.g = g then { e with
        state := payload.getD 1 0
        statusFlags := BitVec.ofNat 16 (fieldAt payload 2 2)
        present := true
        missed := 0
        offset := beaconOffset (fieldAt payload 4 4) (fieldAt payload 8 4) stamp.time delay
        far := decide (1000000 < (beaconOffset (fieldAt payload 4 4) (fieldAt payload 8 4) stamp.time delay).natAbs)
        heard := true }
      else { e with
        state := payload.getD 1 0
        statusFlags := BitVec.ofNat 16 (fieldAt payload 2 2)
        present := true
        missed := 0 } :=
  rfl

/-- Settles O24: the entry with its channel marked takes the beacon, and a console station hands it over besides. -/
theorem beaconFormsAnOffset : Obligations.BeaconFormsAnOffset := by
  intro s ch r p e offset base entry
  have taken : (e.markChannel ch).takeBeacon r.payload p s.tb.g s.cfg.lineDelay = entry := by
    rw [Peer.takeBeacon_eq, Peer.markChannel_eq]
    rfl
  have table : s.takeBeacon ch r p = if s.console = true
      then (s.setPeer r.sender entry).emit (.ctxBeacon r.sender r.payload p) else s.setPeer r.sender entry := by
    rw [← taken]
    rfl
  refine ⟨fun off => ?_, fun console => ?_⟩
  · rw [table, if_neg (by simp [off])]
    rfl
  · rw [table, if_pos console]
    rfl

/-! ### The midpoint (R48) -/

/-- A weaker condition keeps no fewer values. -/
theorem length_filter_le_of_imp (l : List Int) (p q : Int → Prop) [DecidablePred p] [DecidablePred q]
    (imp : ∀ x, p x → q x) : (l.filter fun x => decide (p x)).length ≤ (l.filter fun x => decide (q x)).length :=
  (List.monotone_filter_right l fun x hx => by simpa using imp x (by simpa using hx)).length_le

/-- A value with more than `f` of the values at or before it in rank, and more than `f` at or after it, lies within the range
that at most `f` lie outside. -/
theorem sortAscending_within (f k : Nat) (l : List Int) (lo hi : Int)
    (outside : (l.filter fun x => decide (x < lo ∨ hi < x)).length ≤ f) (low : f ≤ k) (high : k + f < l.length) :
    lo ≤ (sortAscending l).getD k 0 ∧ (sortAscending l).getD k 0 ≤ hi := by
  obtain ⟨-, below, upTo⟩ := sortAscending_rank l k (by omega)
  generalize (sortAscending l).getD k 0 = v at below upTo ⊢
  constructor
  · by_contra less
    have := length_filter_le_of_imp l (· ≤ v) (fun x => x < lo ∨ hi < x)
      fun x (upper : x ≤ v) => .inl (by omega)
    omega
  · by_contra more
    have := length_filter_le_of_imp l (¬· < v) (fun x => x < lo ∨ hi < x)
      fun x (lower : ¬x < v) => .inr (by omega)
    have := l.length_eq_length_filter_add fun x => decide (x < v)
    simp only [decide_not] at *
    omega

/-- Settles O15: both values of the midpoint lie within the range, and so does their mean, truncated or not. -/
theorem midpointToleratesFaultyOffsets : Obligations.MidpointToleratesFaultyOffsets := by
  intro f offsets lo hi enough outside
  obtain ⟨lo₁, hi₁⟩ := sortAscending_within f f offsets lo hi outside (by omega) (by omega)
  obtain ⟨lo₂, hi₂⟩ := sortAscending_within f (offsets.length - 1 - f) offsets lo hi outside (by omega) (by omega)
  constructor
  · calc lo = (lo * 2).tdiv 2 := (Int.mul_tdiv_cancel lo (by decide)).symm
      _ ≤ midpointOf f offsets := Int.tdiv_le_tdiv (by decide) (by omega)
  · calc midpointOf f offsets ≤ (hi * 2).tdiv 2 := Int.tdiv_le_tdiv (by decide) (by omega)
      _ = hi := Int.mul_tdiv_cancel hi (by decide)

/-! ### The outcome of a round (R45 to R48) -/

/-- A peer's reported state is other than FREE when its code is one of 1 to 4 (R46). -/
theorem Peer.reported_ne_free_iff (p : Peer) : p.reported ≠ .free ↔ 1 ≤ p.state.toNat ∧ p.state.toNat ≤ 4 := by
  unfold Peer.reported
  match p.state.toNat with
  | 0 | 1 | 2 | 3 | 4 => decide
  | n + 5 => simp [AgreementState.ofCode]

/-- A peer is ANCHORED by the code 4 (R46). -/
theorem Peer.reported_eq_anchored_iff (p : Peer) : p.reported = .anchored ↔ p.state.toNat = 4 := by
  unfold Peer.reported
  match p.state.toNat with
  | 0 | 1 | 2 | 3 | 4 => decide
  | n + 5 => simp [AgreementState.ofCode]

/-- A usable peer is heard, of a state other than FREE, and not far (R46). -/
theorem Peer.usable_eq (p : Peer) :
    p.usable = (p.heard && decide (1 ≤ p.state.toNat ∧ p.state.toNat ≤ 4) && !p.far) := by
  simp only [Peer.usable, p.reported_ne_free_iff]

/-- The phase error counts when the mark is valid, seconds are known, and there is one (R45). -/
theorem State.ownMark_eq_some_iff (s : State) (e : Int) :
    s.ownMark = some e ↔ s.marks.valid = true ∧ s.tb.secondsKnown = true ∧ s.marks.phase = some e := by
  unfold State.ownMark
  split <;> simp_all

theorem State.ownMark_eq_none (s : State)
    (noMark : ¬(s.marks.valid = true ∧ s.tb.secondsKnown = true ∧ s.marks.phase ≠ none)) : s.ownMark = none := by
  refine Option.eq_none_iff_forall_ne_some.2 fun e own => noMark ?_
  obtain ⟨valid, known, phase⟩ := (s.ownMark_eq_some_iff e).1 own
  exact ⟨valid, known, by simp [phase]⟩

/-- The offsets of the set's ANCHORED peers (R47). -/
def anchoredOffsets (set : List Peer) : List Int :=
  (set.filter fun p => decide (p.state.toNat = 4)).map (·.offset)

/-- The outcome without an own mark, in terms of the set's offsets (R47, R48). -/
theorem roundOutcome_none (state : AgreementState) (f : Nat) (peers : List Peer) :
    roundOutcome state f none peers =
      let set := roundPeers state peers
      if anchoredOffsets set ≠ [] then .anchored (anchoredMedian (anchoredOffsets set))
      else if set ≠ [] ∧ 2 * f + 1 ≤ set.length + 1 then .midpoint (midpointOf f (0 :: set.map (·.offset)))
      else .insufficient := by
  simp only [roundOutcome, anchoredOffsets, Peer.reported_eq_anchored_iff, ne_eq, List.map_eq_nil_iff]

/-! ### What a round decides (R52 to R57) -/

/-- The correction of an outcome without own mark (R45). -/
def RoundOutcome.correction : RoundOutcome → Option Int
  | .anchored c => some c
  | .midpoint c => some c
  | _ => none

/-- The rule for a round without own mark, by the state (R52 to R56). -/
def decideByState (k limit : Nat) (valid : Bool) (a : Agreement) (correction : Option Int) : Decision :=
  match a.state with
  | .free => decideFree a correction
  | .joining => decideJoining k a correction
  | .agreed => decideAgreed k a.disagree a correction
  | .holdover => decideHoldover k limit a correction
  | .anchored => decideAnchored k valid a correction

/-- Without own mark a round is decided by the state and the correction alone. -/
theorem decideRound_eq_byState (k limit : Nat) (valid : Bool) (a : Agreement) (out : RoundOutcome)
    (noMark : ∀ c, out ≠ .mark c) :
    decideRound k limit valid a out = decideByState k limit valid a out.correction := by
  unfold decideRound decideByState
  cases out with
  | mark c => exact absurd rfl (noMark c)
  | anchored c | midpoint c | insufficient => cases a.state <;> rfl

theorem decideJoining_known (k : Nat) (a : Agreement) (correction : Option Int) :
    (decideJoining k a correction).known = false := by
  unfold decideJoining
  repeat' split
  all_goals rfl

theorem decideAgreed_known (k dis : Nat) (a : Agreement) (correction : Option Int) :
    (decideAgreed k dis a correction).known = false := by
  unfold decideAgreed
  repeat' split
  all_goals rfl

theorem decideHoldover_known (k limit : Nat) (a : Agreement) (correction : Option Int) :
    (decideHoldover k limit a correction).known = false := by
  unfold decideHoldover
  repeat' split
  all_goals rfl

theorem decideAnchored_known (k : Nat) (valid : Bool) (a : Agreement) (correction : Option Int) :
    (decideAnchored k valid a correction).known = false := by
  cases valid with
  | true => rfl
  | false => exact decideAgreed_known k 0 a correction

/-- Seconds become known only by a correction taken in FREE (R52). -/
theorem decideByState_known (k limit : Nat) (valid : Bool) (a : Agreement) (correction : Option Int)
    (noJoin : a.state ≠ .free ∨ correction = none) : (decideByState k limit valid a correction).known = false := by
  unfold decideByState
  cases state : a.state with
  | free =>
    obtain rfl := noJoin.resolve_left (· state)
    rfl
  | joining => exact decideJoining_known k a correction
  | agreed => exact decideAgreed_known k a.disagree a correction
  | holdover => exact decideHoldover_known k limit a correction
  | anchored => exact decideAnchored_known k valid a correction

/-- What a round decides, by the state, for an outcome with a correction and for an insufficient one (R52 to R57). -/
theorem decideRound_byState (k limit : Nat) (valid : Bool) (a : Agreement) (c : Int) (out : RoundOutcome)
    (corrects : out = .anchored c ∨ out = .midpoint c) :
    decideRound k limit valid a out = decideByState k limit valid a (some c)
      ∧ decideRound k limit valid a .insufficient = decideByState k limit valid a none := by
  refine ⟨?_, decideRound_eq_byState k limit valid a .insufficient (by simp)⟩
  rcases corrects with rfl | rfl <;> exact decideRound_eq_byState k limit valid a _ (by simp)

/-! ### What a round does (R41) -/

/-- Stock taken of an entry: a peer not heard is present no more once three rounds are missed (R41). -/
theorem Peer.takeStock_eq (p : Peer) :
    p.takeStock = if p.present = true ∧ p.heard = false
      then { p with missed := min 255 (p.missed + 1), present := decide (p.missed + 1 < 3) } else p := by
  have third : min 255 (p.missed + 1) < 3 ↔ p.missed + 1 < 3 := by omega
  simp only [Peer.takeStock, satInc_eq, third, Bool.and_eq_true, Bool.not_eq_true']

/-- A round applies what it decides to the state with stock taken, and clears the flags (R41, R45). -/
theorem State.agreementRound_eq (s : State) (gs : List Nat) :
    s.agreementRound gs = ((s.mapPeers Peer.takeStock).applyDecision
      (decideRound s.cfg.stepThreshold s.cfg.holdoverLimit s.marks.valid s.agr
        (roundOutcome s.agr.state s.cfg.dropped s.ownMark s.peers)) gs).mapPeers Peer.clearRound :=
  rfl

/-- Settles O14: the rule of each state, the outcome by the set of offsets, and each action applied. -/
theorem roundDecidesByState : Obligations.RoundDecidesByState := by
  refine ⟨fun k limit valid a c out corrects => ?decides, fun s gs => ?does⟩
  case decides =>
    intro d e
    obtain ⟨corrected, insufficient⟩ := decideRound_byState k limit valid a c out corrects
    have dEq : d = decideByState k limit valid a (some c) := corrected
    have eEq : e = decideByState k limit valid a none := insufficient
    refine ⟨fun free => ?_, fun joining => ?_, fun agreed => ?_, fun holdover => ?_, fun anchored invalid => ?_,
      fun anchored valid => ?_, fun left => ?_, ?_, ?_⟩
    · simp only [dEq, eEq, decideByState, free]
      simp [decideFree]
    · simp only [dEq, eEq, decideByState, joining]
      refine ⟨fun near => ?_, fun beyond => ?_, by simp [decideJoining]⟩
      · rcases Nat.eq_zero_or_pos a.good with first | later
        · simp [decideJoining, near, first]
        · simp [decideJoining, near, Nat.one_le_iff_ne_zero.1 later, Nat.succ_le_of_lt later]
      · simp [decideJoining, Nat.not_le.2 beyond]
    · simp only [dEq, eEq, decideByState, agreed]
      exact ⟨fun near => by simp [decideAgreed, near],
        fun beyond few => by simp [decideAgreed, Nat.not_le.2 beyond, Nat.le_of_lt_succ few],
        fun beyond third => by simp [decideAgreed, Nat.not_le.2 beyond, Nat.not_le.2 third], by simp [decideAgreed]⟩
    · simp only [dEq, eEq, decideByState, holdover]
      exact ⟨fun near => by simp [decideHoldover, near], fun beyond => by simp [decideHoldover, Nat.not_le.2 beyond],
        fun before => by simp [decideHoldover, before], fun expired => by simp [decideHoldover, Nat.not_lt.2 expired]⟩
    · simp only [dEq, eEq, decideByState, anchored]
      exact ⟨fun near => by simp [decideAnchored, decideAgreed, invalid, near],
        fun beyond => by simp [decideAnchored, decideAgreed, invalid, Nat.not_le.2 beyond],
        by simp [decideAnchored, decideAgreed, invalid]⟩
    · simp only [dEq, eEq, decideByState, anchored]
      simp [decideAnchored, valid]
    · rw [dEq, decideByState_known _ _ _ _ _ (.inl left)]
    · rw [eEq, decideByState_known _ _ _ _ _ (.inr rfl)]
    · exact ⟨rfl, rfl, fun beyond => if_pos beyond, fun near => if_neg (by omega),
        fun other => ⟨if_neg other, if_neg other, if_neg other⟩⟩
  case does =>
    intro f usable set anchored all rank mark out d t ended
    have usableEq : s.peers.filter Peer.usable = usable := by
      simp only [usable, ← Peer.usable_eq]
    have setEq : roundPeers s.agr.state s.peers = set := by
      rw [roundPeers, usableEq]
    have noMark : ¬mark → out = if anchored ≠ [] then .anchored (anchoredMedian anchored)
        else if set ≠ [] ∧ 2 * f + 1 ≤ set.length + 1 then .midpoint (midpointOf f all) else .insufficient := by
      intro absent
      have := roundOutcome_none s.agr.state f s.peers
      rw [setEq] at this
      simp only [out, s.ownMark_eq_none absent]
      exact this
    have ranked : ∀ xs k, k < xs.length → rank xs k ((sortAscending xs).getD k 0) := sortAscending_rank
    have stock : (s.mapPeers Peer.takeStock).setCounts d = t := by
      simp only [State.mapPeers, State.setCounts, funext Peer.takeStock_eq]
      rfl
    have round : s.agreementRound gs = ((s.mapPeers Peer.takeStock).applyDecision d gs).mapPeers Peer.clearRound :=
      s.agreementRound_eq gs
    have count : all.length = set.length + 1 := by simp [all]
    refine ⟨fun e own phase => ?_, fun absent heard => ?_, fun absent unheard offsets enough => ?_,
      fun absent unheard few => ?_, fun c action => ?_, fun c action => ?_, fun action => ?_, fun c w action => ?_⟩
    · obtain ⟨valid, known, -⟩ := own
      simp only [out, (s.ownMark_eq_some_iff e).2 ⟨valid, known, phase⟩]
      rfl
    · have pos := List.length_pos_iff.2 heard
      exact ⟨_, by rw [noMark absent, if_pos heard]; rfl, ranked _ _ (by omega)⟩
    · refine ⟨_, _, ?_, ranked all f (by omega), ranked all (all.length - 1 - f) (by omega)⟩
      rw [noMark absent, if_neg (not_not.2 unheard), if_pos ⟨offsets, by omega⟩]
      rfl
    · rw [noMark absent, if_neg (not_not.2 unheard), if_neg]
      rintro ⟨offsets, enough⟩
      exact few.elim offsets (by omega)
    all_goals
      rw [round, State.applyDecision, stock]
      simp only [action]
      rfl

end Sys2Proof.Machine
end

section
/-! PROOFS. The shift unit's own work: the schedule evaluated (R137 to R140), a shift opened and closed (R136, R140), quality and
steps taken (R148, R149), and the first evaluation (R44, R151). -/

namespace Sys2Proof.Machine

/-! ### The schedule evaluated (R137 to R139) -/

/-- With a numbered shift and the deferral over, an evaluation closes by force, opens the window or does neither (R138). -/
theorem State.evaluateDepth_succ (s : State) (k n : Nat) (due : s.shift.deferred = false)
    (number : s.shift.current.number = some n) :
    s.evaluateDepth (k + 1) =
      if s.cfg.forceClose n * 1000000 ≤ s.instant then (s.forcedClose n).evaluateDepth k
      else if s.shift.state = .running ∧ s.cfg.windowOpen n * 1000000 ≤ s.instant then s.setHandover .window
      else s := by
  simp only [State.evaluateDepth, due, number]

/-- A shift without a number has no instants to evaluate, and none is evaluated while the deferral lasts (R137, R151). -/
theorem State.evaluateDepth_of_deferred_or_unnumbered (s : State) (k : Nat)
    (idle : s.shift.deferred = true ∨ s.shift.current.number = none) : s.evaluateDepth k = s := by
  cases k with
  | zero => rfl
  | succ k => rcases idle with deferred | unnumbered <;> simp [State.evaluateDepth, *]

/-- Before its force close a shift only opens its window (R138). -/
theorem State.evaluateDepth_before (s : State) (k n : Nat) (due : s.shift.deferred = false)
    (number : s.shift.current.number = some n) (before : s.instant < s.cfg.forceClose n * 1000000) :
    s.evaluateDepth (k + 1) =
      if s.shift.state = .running ∧ s.cfg.windowOpen n * 1000000 ≤ s.instant then s.setHandover .window else s := by
  rw [s.evaluateDepth_succ k n due number, if_neg (Nat.not_le.2 before)]

/-- The number of the shift that a forced close of shift `n` opens (R139). -/
def State.forcedNext (s : State) (n : Nat) : Nat :=
  if s.instant < s.cfg.forceClose (n + 1) * 1000000 then n + 1 else s.cfg.shiftNumber s.tb.time.s

/-- A forced close opens the next shift in RUNNING and leaves the deferral as it was (R139, R140). -/
theorem State.forcedClose_opens (s : State) (n : Nat) :
    (s.forcedClose n).shift.current.number = some (s.forcedNext n) ∧ (s.forcedClose n).shift.state = .running
      ∧ (s.forcedClose n).shift.deferred = s.shift.deferred := by
  simp [State.forcedClose, State.closeShift_shift, ShiftRecord.opening, State.forcedNext]

/-- At or after its force close a shift is closed, and the next one, whose own lies ahead, is evaluated (R138, R139). -/
theorem State.evaluate_after (s : State) (n : Nat) (due : s.shift.deferred = false)
    (number : s.shift.current.number = some n) (shifts : 0 < s.cfg.shiftLength) (u : s.tb.time.u < 1000000)
    (after : s.cfg.forceClose n * 1000000 ≤ s.instant) :
    s.evaluate = if s.cfg.windowOpen (s.forcedNext n) * 1000000 ≤ s.instant
      then (s.forcedClose n).setHandover .window else s.forcedClose n := by
  obtain ⟨opened, running, deferred⟩ := s.forcedClose_opens n
  obtain ⟨m, isOpen, ahead⟩ := s.forcedClose_ahead n shifts u
  obtain rfl : s.forcedNext n = m := Option.some.inj (opened.symm.trans isOpen)
  have instant : (s.forcedClose n).instant = s.instant := by simp [State.instant]
  have cfg : (s.forcedClose n).cfg = s.cfg := by simp
  rw [State.evaluate, s.evaluateDepth_succ 1 n due number, if_pos after,
    (s.forcedClose n).evaluateDepth_before 0 _ (deferred.trans due) opened (by rw [instant, cfg]; exact ahead),
    instant, cfg]
  simp only [running, true_and]

/-- The shift length of a configuration in range is positive (R133). -/
theorem Configuration.shiftLength_pos (c : Configuration) (shifts : c.shiftsPerDay ∈ [1, 2, 3, 4, 6, 8]) :
    0 < c.shiftLength := by
  simp only [List.mem_cons, List.not_mem_nil, or_false] at shifts
  rcases shifts with h | h | h | h | h | h <;> simp [Configuration.shiftLength, h]

/-! ### The agreement state entered (R44, R148, R151) -/

/-- The state of a round is taken, a changed quality told, and FREE left for the first time told after it (R44). -/
theorem State.enterState_eq (s : State) (new : AgreementState) :
    s.enterState new =
      let told := if new.quality = s.agr.state.quality then s.setAgreement new else (s.setAgreement new).takeQuality
      if s.shift.deferred = true ∧ s.agr.state = .free ∧ new ≠ .free then told.firstEvaluation else told := by
  have told : (s.setAgreement new).tellQuality s.agr.state =
      if new.quality = s.agr.state.quality then s.setAgreement new else (s.setAgreement new).takeQuality := rfl
  rw [State.enterState, told, State.tellLeftFree]
  split <;> rfl

/-! ### The first evaluation (R151) -/

/-- A power gap counted, with its limit written first (R151). -/
theorem ShiftRecord.gap_eq (r : ShiftRecord) : r.gap = { r with powerGaps := min 65535 (r.powerGaps + 1) } := by
  rw [ShiftRecord.gap, satInc_eq]

/-- A shift without a number that is not recovered gets the number of station time (R151). -/
theorem State.firstEvaluation_fresh (s : State) (unnumbered : s.shift.current.number = none)
    (fresh : s.shift.recovered = none) :
    s.firstEvaluation =
      (s.endDeferral.modShift fun r => { r with number := some (s.cfg.shiftNumber s.tb.time.s) }).evaluate := by
  simp only [State.firstEvaluation, unnumbered, fresh]

/-- A recovered shift without a number gets that of station time, and a power gap more (R151). -/
theorem State.firstEvaluation_unnumbered (s : State) (unnumbered : s.shift.current.number = none)
    (recovered : s.shift.recovered ≠ none) :
    s.firstEvaluation =
      (s.endDeferral.modShift fun r => { r.gap with number := some (s.cfg.shiftNumber s.tb.time.s) }).evaluate := by
  obtain ⟨at', found⟩ := Option.ne_none_iff_exists'.1 recovered
  simp only [State.firstEvaluation, unnumbered, found]

/-- A recovered shift continues, or is closed where its force close and the shift of station time have passed it (R151). -/
theorem State.firstEvaluation_recovered (s : State) (n : Nat) (at' : StationTime)
    (number : s.shift.current.number = some n) (recovered : s.shift.recovered = some at') :
    s.firstEvaluation =
      if s.cfg.shiftNumber s.tb.time.s ≤ n ∨ s.instant < s.cfg.forceClose n * 1000000 then
        ((s.endDeferral.modShift ShiftRecord.gap).setHandover (s.derivedHandover n)).evaluate
      else
        (s.endDeferral.closeShift s.shift.current.markNoSignOff (StationTime.later at' s.shift.current.openedAt.time)
          .powerGap (ShiftRecord.opening (some (s.cfg.shiftNumber s.tb.time.s)) s.dating .powerUp none)).evaluate := by
  simp only [State.firstEvaluation, number, recovered]

/-- Settles O43: an evaluation before and after the force close, the records as they are opened and closed, and the first
evaluation by what START has recovered. -/
theorem scheduleClosesByForce : Obligations.ScheduleClosesByForce := by
  refine ⟨?evaluated, fun s idle => s.evaluateDepth_of_deferred_or_unnumbered 2 idle, ?opened,
    fun s closing next at' why => rfl, fun s => ?work⟩
  case evaluated =>
    intro s n due number shifts _ _ r closedAt next closed u
    have later : StationTime.later ⟨s.cfg.forceClose n, 0⟩ r.openedAt.time = closedAt := by
      rw [StationTime.later, StationTime.instant, StationTime.instant, Nat.add_zero]
    have closedEq : s.forcedClose n = closed := by
      simp only [closed, ← later]
      rfl
    refine ⟨fun before => ?_, fun after => ?_⟩
    · have evaluated : s.evaluate = _ := s.evaluateDepth_before 1 n due number before
      refine ⟨fun running past => ?_, fun stays => ?_⟩
      · rw [evaluated, if_pos ⟨running, past⟩]
        rfl
      · rw [evaluated, if_neg]
        rintro ⟨running, past⟩
        exact stays.elim (· running) (by omega)
    · have evaluated : s.evaluate = if s.cfg.windowOpen next * 1000000 ≤ s.instant
          then (s.forcedClose n).setHandover .window else s.forcedClose n :=
        s.evaluate_after n due number (s.cfg.shiftLength_pos shifts) u after
      rw [closedEq] at evaluated
      refine ⟨fun ahead => ?_, fun past => ?_⟩
      · rw [evaluated, if_neg (Nat.not_le.2 ahead)]
      · rw [evaluated, if_pos past]
        rfl
  case opened =>
    intro number openedAt cause crew r
    simp [r, ShiftRecord.opening, zeros]
  case work =>
    intro r here gap withShift ended
    refine ⟨rfl, fun d => ?_, fun new => ?_, fun unnumbered => ⟨fun fresh => ?_, fun recovered => ?_⟩,
      fun n at' number recovered => ⟨fun continues => ?_, fun passed closes => ?_⟩⟩
    · simp only [State.countStep, satInc_eq]
      rfl
    · intro t told
      have entered : s.enterState new = _ := s.enterState_eq new
      exact ⟨fun leaves => entered.trans (if_pos leaves), fun stays => entered.trans (if_neg stays)⟩
    · rw [s.firstEvaluation_fresh unnumbered fresh]
      rfl
    · simp only [s.firstEvaluation_unnumbered unnumbered recovered, ShiftRecord.gap_eq]
      rfl
    · rw [s.firstEvaluation_recovered n at' number recovered, if_pos continues, funext ShiftRecord.gap_eq]
      rfl
    · rw [s.firstEvaluation_recovered n at' number recovered, if_neg (by omega)]
      rfl

end Sys2Proof.Machine
end

section
/-! PROOFS. What a sample makes of an input (R60 to R66, R68). -/

namespace Sys2Proof.Machine

/-! ### The order of a sample (R68, log entry 12) -/

theorem sampleOrder_perm (order : List Nat) : (sampleOrder order).Perm (List.range 16) := by
  refine (List.perm_ext_iff_of_nodup (sampleOrder_nodup order) List.nodup_range).2 fun i =>
    ⟨fun mem => List.mem_range.2 ?_, fun mem => mem_sampleOrder order i (List.mem_range.1 mem)⟩
  rcases List.mem_append.1 mem with named | rest
  · simpa using (List.mem_filter.1 (List.mem_eraseDups.1 named)).2
  · exact List.mem_range.1 (List.mem_filter.1 rest).1

theorem eraseDups_of_nodup (l : List Nat) (once : l.Nodup) : l.eraseDups = l := by
  induction l with
  | nil => rfl
  | cons a l ih =>
    obtain ⟨fresh, once⟩ := List.nodup_cons.1 once
    have others : (l.filter fun b => !b == a) = l :=
      List.filter_eq_self.2 fun b mem => by simpa using ne_of_mem_of_not_mem mem fresh
    rw [List.eraseDups_cons, others, ih once]

/-- Inputs named once each are taken as they are named, and the others after them. -/
theorem sampleOrder_of_nodup (order : List Nat) (once : order.Nodup) (inputs : ∀ i ∈ order, i < 16) :
    sampleOrder order = order ++ (List.range 16).filter fun i => !order.contains i := by
  have all : order.filter (· < 16) = order := List.filter_eq_self.2 fun i mem => by simpa using inputs i mem
  simp only [sampleOrder, all, eraseDups_of_nodup order once]

/-! ### The sample command (R60, R63) -/

theorem exec_inputSample_grid (s : State) (lines : BitVec 16) (order : List Nat) (running : s.phase = .running)
    (grid : s.tb.elapsed % 250 = 0) :
    exec (.inputSample lines order) s = .next ((sampleOrder order).foldl (fun t i => t.sampleInput lines i) s) := by
  simp [exec, execInputSample, s.isRunning_of running, grid]

theorem exec_inputSample_offGrid (s : State) (lines : BitVec 16) (order : List Nat)
    (off : s.tb.elapsed % 250 ≠ 0) : exec (.inputSample lines order) s = .next s := by
  simp [exec, execInputSample, off]

/-! ### A sample taken by a channel (R62, R63) -/

theorem InputChannel.sample_unchanged (c : InputChannel) (q : Nat) (t : InputTest) (idle : c.qual = none)
    (same : c.recorded = some t.level) : c.sample q t = (c, none) := by
  simp only [InputChannel.sample, idle]
  rw [if_pos same]

/-- A level that is neither recorded nor under test starts a qualification (R62, R63). -/
theorem InputChannel.sample_starts (c : InputChannel) (q : Nat) (t : InputTest) (pos : 1 ≤ q)
    (differs : ∀ u, c.qual = some u → u.level ≠ t.level) (changed : c.recorded ≠ some t.level) :
    c.sample q t = ({ c with qual := some t }, none) := by
  have start : c.startTest q t = ({ c with qual := some t }, none) := if_neg (by omega)
  cases test : c.qual with
  | none =>
    simp only [InputChannel.sample, test]
    rw [if_neg changed, start]
  | some u =>
    simp only [InputChannel.sample, test]
    rw [if_neg (Ne.symm (differs u test)), if_neg changed, start]

theorem InputChannel.sample_continues (c : InputChannel) (q : Nat) (u t : InputTest) (test : c.qual = some u)
    (same : u.level = t.level) (early : t.elapsed < u.elapsed + q * 500) : c.sample q t = (c, none) := by
  simp only [InputChannel.sample, test]
  rw [if_pos same.symm, if_neg (Nat.not_le.2 early)]

/-- A return to the recorded level abandons the qualification (R63). -/
theorem InputChannel.sample_abandons (c : InputChannel) (q : Nat) (u t : InputTest) (test : c.qual = some u)
    (differs : u.level ≠ t.level) (back : c.recorded = some t.level) :
    c.sample q t = ({ c with qual := none }, none) := by
  simp only [InputChannel.sample, test]
  rw [if_neg (Ne.symm differs), if_pos back]

/-! ### What the sample makes of the part, at the input's turn (R61, R65, R66) -/

/-- The level of an input in a sample with what its qualification would latch of it (R60, R62). -/
def State.sampled (s : State) (lines : BitVec 16) (i : Nat) : InputTest :=
  ⟨(s.inputConfig i).logical (lines.getLsbD i), s.tb.elapsed, s.dating⟩

theorem InputConfig.logical_eq_ite (k : InputConfig) (high : Bool) :
    k.logical high = if k.activeLow = true then !high else high := by
  cases low : k.activeLow <;> simp [InputConfig.logical, low]

theorem State.setInput_input (s : State) (i : Nat) : s.setInput i (s.input i) = s := by
  have same : s.inputs.set i (s.input i) = s.inputs := by
    refine List.ext_getElem (by simp) fun j _ inside => ?_
    rw [List.getElem_set]
    split
    · next eq => subst eq; simp [State.input, inside]
    · rfl
  rw [State.setInput, same]

/-- A sample at which nothing qualifies touches the input's channel alone. -/
theorem State.sampleInput_silent (s : State) (lines : BitVec 16) (i : Nat) (d : InputChannel)
    (enabled : (s.inputConfig i).enabled = true)
    (taken : (s.input i).sample (s.inputConfig i).q (s.sampled lines i) = (d, none)) :
    s.sampleInput lines i = s.setInput i d := by
  rw [State.sampled] at taken
  simp only [State.sampleInput, enabled, if_true, taken]

/-- The first change to qualify after START sets the recorded level silently (R65). -/
theorem State.sampleInput_first (s : State) (lines : BitVec 16) (i : Nat) (u : InputTest)
    (enabled : (s.inputConfig i).enabled = true)
    (taken : (s.input i).sample (s.inputConfig i).q (s.sampled lines i) = ({ s.input i with qual := none }, some u))
    (first : (s.input i).recorded = none) :
    s.sampleInput lines i = s.setInput i { s.input i with qual := none, recorded := some u.level } := by
  rw [State.sampled] at taken
  simp only [State.sampleInput, enabled, if_true, taken, State.inputQualifies, first]

/-- Any later change that qualifies is an event (R66). -/
theorem State.sampleInput_later (s : State) (lines : BitVec 16) (i : Nat) (u : InputTest) (old : Bool)
    (enabled : (s.inputConfig i).enabled = true)
    (taken : (s.input i).sample (s.inputConfig i).q (s.sampled lines i) = ({ s.input i with qual := none }, some u))
    (later : (s.input i).recorded = some old) :
    s.sampleInput lines i = s.inputEvent i { s.input i with qual := none, recorded := some u.level } u := by
  rw [State.sampled] at taken
  simp only [State.sampleInput, enabled, if_true, taken, State.inputQualifies, later]

/-- What an input's turn leaves is the command's whole effect where no other input is enabled (R61). -/
theorem State.sampleInput_leaves {s t : State} {lines : BitVec 16} {i : Nat} (order : List Nat)
    (running : s.phase = .running) (grid : s.tb.elapsed % 250 = 0) (turn : s.sampleInput lines i = t) :
    s.sampleInput lines i = t ∧ (s.onlyInput i → exec (.inputSample lines order) s = .next t) :=
  ⟨turn, fun only => turn ▸ exec_inputSample_only s lines order i running grid only⟩

/-- Settles O28: the order of the sample, and each case of a channel's sample by what it leaves at the input's turn. -/
theorem sampleIsQualified : Obligations.SampleIsQualified := by
  refine ⟨fun s lines order => ⟨exec_inputSample_grid s lines order, exec_inputSample_offGrid s lines order,
    s.sampleInput_disabled lines, sampleOrder_perm order, sampleOrder_of_nodup order⟩, ?_⟩
  intro s i lines order running grid enabled c k level onset leaves
  have onsetEq : s.sampled lines i = onset := by
    rw [State.sampled, InputConfig.logical_eq_ite]
    rfl
  have silent : ∀ d, c.sample k.q onset = (d, none) → leaves (s.setInput i d) := fun d taken =>
    State.sampleInput_leaves order running grid (s.sampleInput_silent lines i d enabled (onsetEq ▸ taken))
  have nothing : c.sample k.q onset = (c, none) → leaves s := fun taken => s.setInput_input i ▸ silent c taken
  have first : ∀ u, c.recorded = none → c.sample k.q onset = ({ c with qual := none }, some u) →
      leaves (s.setInput i { c with qual := none, recorded := some u.level }) := fun u first taken =>
    State.sampleInput_leaves order running grid (s.sampleInput_first lines i u enabled (onsetEq ▸ taken) first)
  have atOnce : c.qual = none → k.q = 0 → c.recorded ≠ some level →
      c.sample k.q onset = ({ c with qual := none }, some onset) := fun idle zero changed =>
    zero ▸ c.sample_at_once onset idle changed
  refine ⟨fun idle => ⟨fun same => ?_, fun changed pos => ?_, fun fresh zero => ?_, fun later zero => ?_⟩,
    fun u test => ⟨fun same early => ?_, fun differs back => ?_, fun differs fresh pos => ?_,
      fun same due fresh => ?_⟩⟩
  · exact nothing (c.sample_unchanged _ onset idle same)
  · exact silent _ (c.sample_starts _ onset pos (by simp [idle]) changed)
  · rw [idle]
    exact first onset fresh (atOnce idle zero (by simp [fresh]))
  · rw [idle]
    have taken := atOnce idle zero (by simp [later])
    exact State.sampleInput_leaves order running grid
      (s.sampleInput_later lines i onset _ enabled (onsetEq ▸ taken) later)
  · exact nothing (c.sample_continues _ u onset test same early)
  · exact silent _ (c.sample_abandons _ u onset test differs back)
  · have other : ∀ v, c.qual = some v → v.level ≠ onset.level := fun v is => Option.some.inj (test ▸ is) ▸ differs
    exact silent _ (c.sample_starts _ onset pos other (by simp [fresh]))
  · exact same ▸ first u fresh (c.sample_qualifies _ u onset same.symm test due)

end Sys2Proof.Machine
end

section
/-! PROOFS. The chatter monitor (R69 to R74). -/

namespace Sys2Proof.Machine

/-! ### An event at or past the limit, or in CHATTER (R69, R71, R72) -/

theorem State.inputEvent_chatter (s : State) (i : Nat) (c : InputChannel) (u : InputTest) (chatter : c.chatter = true) :
    s.inputEvent i c u = (s.associate i u).setInput i { c with quietEnd := some s.chatterHorizon } := by
  simp only [State.inputEvent]
  rw [if_pos chatter]

theorem State.inputEvent_limit (s : State) (i : Nat) (c : InputChannel) (u : InputTest) (normal : c.chatter = false)
    (limit : s.cfg.chatterLimit ≤ c.events + 1) :
    s.inputEvent i c u = ((s.associate i u).setInput i (c.enterChatter s.chatterHorizon)).reportInput .chatterStart i
      u.level u.dating (decide (u.dating.g ≠ s.tb.g)) := by
  simp only [State.inputEvent]
  rw [if_neg (by simp [normal]), if_pos limit]

theorem State.associate_eq_ite (s : State) (i : Nat) (u : InputTest) :
    s.associate i u =
      if (s.inputConfig i).cls = .unitTrip ∧ u.level = true then s.setAssociation u.elapsed else s := by
  split
  · next trip => exact s.associate_some i u trip.2 trip.1
  · next not => exact s.associate_none i u fun trip => not trip.symm

/-- A change qualifies at a sample that finds it under test long enough, or with q = 0 at its onset (R62, R63). -/
theorem InputChannel.sample_event (c : InputChannel) (q : Nat) (u t : InputTest) (old : Bool)
    (recorded : c.recorded = some old) (level : u.level = t.level)
    (qualified : (c.qual = some u ∧ u.elapsed + q * 500 ≤ t.elapsed)
      ∨ (c.qual = none ∧ q = 0 ∧ u = t ∧ old ≠ u.level)) :
    c.sample q t = ({ c with qual := none }, some u) := by
  rcases qualified with ⟨test, due⟩ | ⟨idle, rfl, rfl, changed⟩
  · exact c.sample_qualifies q u t level.symm test due
  · exact c.sample_at_once u idle (by simpa [recorded] using changed)

/-! ### The monitor's instants (R70, R73, R74) -/

theorem exec_chatterWindowEnd_eq (s : State) (i e : Nat) (running : s.phase = .running)
    (windowEnd : (s.input i).windowEnd = some e) :
    exec (.chatterWindowEnd i) s = .next (if e ≤ s.tb.elapsed
      then s.setInput i { s.input i with events := 0, windowEnd := none } else s) := by
  simp [exec, execChatterWindowEnd, s.isRunning_of running, windowEnd, State.reached]

theorem exec_chatterEnd_eq (s : State) (i e : Nat) (level : Bool) (running : s.phase = .running)
    (chatter : (s.input i).chatter = true) (quietEnd : (s.input i).quietEnd = some e)
    (recorded : (s.input i).recorded = some level) :
    exec (.chatterEnd i) s = .next (if e ≤ s.tb.elapsed
      then (s.setInput i (s.input i).leaveChatter).reportInput .chatterEnd i level s.dating false else s) := by
  simp [exec, execChatterEnd, s.isRunning_of running, chatter, quietEnd, recorded, State.reached]

/-- Settles O30: an event by whether the channel is in CHATTER or reaches the limit, and the monitor's two instants. -/
theorem chatterIsEnteredAndLeft : Obligations.ChatterIsEnteredAndLeft := by
  intro s i running c k ahead report
  refine ⟨fun lines order u old grid enabled recorded => ?event, fun e windowEnd => ?window,
    fun e level chatter quietEnd recorded => ?quiet⟩
  case event =>
    intro leaves onset level qualified linked settled
    have taken : c.sample k.q (s.sampled lines i) = ({ c with qual := none }, some u) :=
      c.sample_event k.q u (s.sampled lines i) old recorded level qualified
    have turn : s.sampleInput lines i = s.inputEvent i settled u :=
      s.sampleInput_later lines i u old enabled taken recorded
    have linkedEq : s.associate i u = linked := s.associate_eq_ite i u
    have leave : ∀ t, s.inputEvent i settled u = t → leaves t := fun t left =>
      State.sampleInput_leaves order running grid (turn.trans left)
    refine ⟨fun chatter => leave _ ?_, fun normal limit => leave _ ?_⟩
    · rw [s.inputEvent_chatter i settled u chatter, linkedEq]
      rfl
    · rw [s.inputEvent_limit i settled u normal limit]
      simp only [State.reportInput, InputChannel.enterChatter, satInc_eq, State.inputConfig, State.setInput_cfg,
        State.setInput_log, State.associate_kept]
      rw [linkedEq]
      rfl
  case window =>
    have run := exec_chatterWindowEnd_eq s i e running windowEnd
    exact ⟨fun due => run.trans (by rw [if_pos due]), fun early => run.trans (by rw [if_neg (Nat.not_le.2 early)])⟩
  case quiet =>
    have run := exec_chatterEnd_eq s i e level running chatter quietEnd recorded
    refine ⟨fun due => run.trans ?_, fun early => run.trans (by rw [if_neg (Nat.not_le.2 early)])⟩
    rw [if_pos due]
    rfl

end Sys2Proof.Machine
end

section
/-! PROOFS. What each operation and each command can do to the trip log (R79, R83, R86, R186, R188): append records, each
under the next log sequence, remove the oldest for a FETCH LOG, or start the log afresh. -/

namespace Sys2Proof.Machine

/-! ### A log that grows by appended records alone (R79, R83) -/

/-- The logs that appending records makes of `l`, each record taking the next log sequence (R79, R83). -/
inductive TripLog.Grows (l : TripLog) : TripLog → Prop
  | refl : l.Grows l
  | push {m : TripLog} (h : l.Grows m) (d : Dating) (b : RecordBody) : l.Grows (m.push ⟨m.next, d, b⟩)

theorem TripLog.Grows.trans {l m n : TripLog} (h : l.Grows m) (k : m.Grows n) : l.Grows n := by
  induction k with
  | refl => exact h
  | push _ d b ih => exact ih.push d b

/-- From `s` to `t` the log takes records that are appended, and nothing else happens to it. -/
def State.LogGrows (s t : State) : Prop := s.log.Grows t.log

theorem State.LogGrows.refl (s : State) : s.LogGrows s := TripLog.Grows.refl

theorem State.LogGrows.of_eq {s t : State} (log : t.log = s.log) : s.LogGrows t := by
  rw [State.LogGrows, log]
  exact .refl

theorem State.LogGrows.trans {s t u : State} (h : s.LogGrows t) (k : t.LogGrows u) : s.LogGrows u :=
  TripLog.Grows.trans h k

/-- Whatever follows without touching the log. -/
theorem State.LogGrows.then_eq {s t u : State} (h : s.LogGrows t) (log : u.log = t.log) : s.LogGrows u :=
  h.trans (.of_eq log)

theorem State.LogGrows.send {s t : State} (h : s.LogGrows t) (k : TelegramKind) (target : Nat) (p : List Byte) :
    s.LogGrows (t.send k target p) :=
  h.then_eq (by simp)

theorem State.LogGrows.answer {s t : State} (h : s.LogGrows t) (r : Request) (st : Status) (c : List Byte) :
    s.LogGrows (t.answer r st c) :=
  h.then_eq (by simp)

theorem State.LogGrows.requestCheckpoint {s t : State} (h : s.LogGrows t) (powerFail : Bool) :
    s.LogGrows (t.requestCheckpoint powerFail) :=
  h.then_eq (by simp)

theorem State.LogGrows.stopWrites {s t : State} (h : s.LogGrows t) (r : Region) : s.LogGrows (t.stopWrites r) :=
  h.then_eq (by simp)

theorem State.append_grows (s : State) (d : Dating) (b : RecordBody) : s.LogGrows (s.append d b) := by
  rw [State.LogGrows, State.append_log]
  exact .push .refl d b

theorem State.appendNow_grows (s : State) (b : RecordBody) : s.LogGrows (s.appendNow b) := s.append_grows _ b

/-! ### The groups and the inputs (R67, R71, R73, R99 to R105) -/

theorem State.closeGroup_grows (s : State) (g : Nat) : s.LogGrows (s.closeGroup g) := by
  have closed : s.LogGrows (s.setGroup g ((s.group g).close s.holdEndNow)) := .of_eq (by simp)
  unfold State.closeGroup
  dsimp only
  split
  · exact closed
  · split <;> exact closed.trans (State.appendNow_grows _ _)

theorem State.closeIfDue_grows (s : State) (g : Nat) : s.LogGrows (s.closeIfDue g) := by
  unfold State.closeIfDue
  split
  · exact s.closeGroup_grows g
  · exact .refl s

theorem State.closeDue_grows (s : State) (gs : List Nat) : s.LogGrows (s.closeDue gs) := by
  induction gs generalizing s with
  | nil => exact .refl s
  | cons g gs ih => exact (s.closeIfDue_grows g).trans (ih _)

theorem State.openGroup_grows (s : State) (g : Nat) (m : Member) : s.LogGrows (s.openGroup g m) := by
  have opened : s.LogGrows (s.setGroup g (Group.openedBy m)) := .of_eq (by simp)
  unfold State.openGroup
  dsimp only
  split
  · exact opened.trans (State.closeGroup_grows _ g)
  · exact opened

theorem State.handMember_grows (s : State) (g : Nat) (m : Member) : s.LogGrows (s.handMember g m) := by
  have strays : ∀ why, s.LogGrows (s.strayMember g m why) := fun _ => s.appendNow_grows _
  unfold State.handMember
  dsimp only
  split
  · split
    · exact strays _
    · split
      · exact strays _
      · exact .of_eq (by simp)
  · exact strays _
  · exact s.openGroup_grows g m

theorem State.reportInput_grows (s : State) (k : InputKind) (i : Nat) (l : Bool) (d : Dating) (x : Bool) :
    s.LogGrows (s.reportInput k i l d x) := by
  unfold State.reportInput
  dsimp only
  split
  · exact s.append_grows _ _
  · exact (s.append_grows _ _).send _ _ _

theorem State.takeTrip_grows (s : State) (i seq : Nat) (d : Dating) : s.LogGrows (s.takeTrip i seq d) := by
  unfold State.takeTrip
  dsimp only
  split
  · exact .of_eq rfl
  · exact (s.modShift ShiftRecord.countTrip).handMember_grows _ _

theorem State.inputChange_grows (s : State) (i : Nat) (t : InputTest) (x : Bool) : s.LogGrows (s.inputChange i t x) := by
  have told := s.reportInput_grows .change i t.level t.dating x
  unfold State.inputChange
  dsimp only
  split
  · exact told.trans (State.takeTrip_grows ..)
  · exact told

theorem State.inputEvent_grows (s : State) (i : Nat) (c : InputChannel) (t : InputTest) :
    s.LogGrows (s.inputEvent i c t) := by
  have set : ∀ d, s.LogGrows ((s.associate i t).setInput i d) := fun _ => .of_eq (by simp)
  unfold State.inputEvent
  dsimp only
  split
  · exact set _
  · split
    · exact (set _).trans (State.reportInput_grows ..)
    · exact (set _).trans (State.inputChange_grows ..)

theorem State.sampleInput_grows (s : State) (lines : BitVec 16) (i : Nat) : s.LogGrows (s.sampleInput lines i) := by
  unfold State.sampleInput
  dsimp only
  split
  · split
    · exact .of_eq rfl
    · unfold State.inputQualifies
      split
      · exact .of_eq rfl
      · exact s.inputEvent_grows ..
  · exact .refl s

theorem State.sampleInputs_grows (s : State) (lines : BitVec 16) (order : List Nat) :
    s.LogGrows (order.foldl (fun t i => t.sampleInput lines i) s) := by
  induction order generalizing s with
  | nil => exact .refl s
  | cons i order ih => exact (s.sampleInput_grows lines i).trans (ih _)

/-! ### The tallies (R115, R118, R120, R125, R127 to R129) -/

theorem State.judgeService_grows (s : State) : s.LogGrows s.judgeService := by
  unfold State.judgeService
  split
  · exact (s.setServiceDue true).appendNow_grows _
  · exact .refl s

theorem State.creditTick_grows (s : State) : s.LogGrows s.creditTick := by
  unfold State.creditTick
  split
  · exact s.creditTallies.judgeService_grows
  · exact .of_eq rfl

theorem State.accept_grows (s : State) (c : Candidate) : s.LogGrows (s.accept c) := by
  have logged := (s.moveTallies c).judgeService_grows.trans
    (State.appendNow_grows _ (.modeChange s.tally.accepted c.mode c.onset (s.tripStop c)))
  exact State.LogGrows.requestCheckpoint (t := State.takeMode _ c.mode) logged false

theorem State.qualifyCombination_grows (s : State) (t : StatusTest) : s.LogGrows (s.qualifyCombination t) := by
  unfold State.qualifyCombination
  split
  · split
    · exact .of_eq rfl
    · exact ((s.settleStatus t.comb).clearCandidate.setInvalidLogged true).appendNow_grows _
  · split
    · exact .of_eq rfl
    · split
      · exact .of_eq rfl
      · unfold State.formCandidate
        split
        · exact ((s.settleStatus t.comb).setInvalidLogged false).accept_grows _
        · exact .of_eq rfl

theorem State.beginStatusTest_grows (s : State) (comb : Nat) : s.LogGrows (s.beginStatusTest comb) := by
  unfold State.beginStatusTest
  split
  · exact s.qualifyCombination_grows _
  · exact .of_eq rfl

theorem State.sampleStatus_grows (s : State) (comb : Nat) : s.LogGrows (s.sampleStatus comb) := by
  unfold State.sampleStatus
  split
  · split
    · split
      · exact s.qualifyCombination_grows _
      · exact .refl s
    · split
      · exact .of_eq rfl
      · exact s.beginStatusTest_grows comb
  · split
    · exact .refl s
    · exact s.beginStatusTest_grows comb

theorem State.preset_grows (s : State) (target : TallyTarget) (value : Nat) : s.LogGrows (s.preset target value) := by
  have logged := (s.setTally value target).appendNow_grows
    (.preset target (s.tally.value target) (min value tallyTop))
  have judged : ∀ u : State, u.LogGrows u.judgePreset := fun u => by
    unfold State.judgePreset
    split
    · exact u.judgeService_grows
    · exact .of_eq rfl
  unfold State.preset
  dsimp only
  split
  · exact (State.LogGrows.trans logged (judged _)).requestCheckpoint _
  · exact State.LogGrows.requestCheckpoint logged _

theorem State.protect_grows (s : State) (set : TallySet) (on : Bool) (action : ProtectAction) :
    s.LogGrows (s.protect set on action) :=
  State.LogGrows.requestCheckpoint ((s.setProtect on set).appendNow_grows (.protect set action)) false

/-! ### The shift unit, and steps and seconds of station time (R6, R11, R138 to R151) -/

theorem State.closeShift_grows (s : State) (r : ShiftRecord) (t : StationTime) (c : CloseCause) (n : ShiftRecord) :
    s.LogGrows (s.closeShift r t c n) := by
  rw [State.LogGrows, State.closeShift_log]
  exact .push .refl _ _

theorem State.evaluateDepth_grows (k : Nat) (s : State) : s.LogGrows (s.evaluateDepth k) := by
  induction k generalizing s with
  | zero => exact .refl s
  | succ k ih =>
    unfold State.evaluateDepth
    split
    · split
      · exact (s.closeShift_grows ..).trans (ih _)
      · split <;> exact .of_eq rfl
    · exact .refl s

theorem State.evaluate_grows (s : State) : s.LogGrows s.evaluate := s.evaluateDepth_grows 2

theorem State.firstEvaluation_grows (s : State) : s.LogGrows s.firstEvaluation := by
  have evaluates : ∀ u : State, u.log = s.log → s.LogGrows u.evaluate := fun u log =>
    (State.LogGrows.of_eq log).trans u.evaluate_grows
  unfold State.firstEvaluation
  dsimp only
  split
  · exact evaluates _ rfl
  · exact evaluates _ rfl
  · exact evaluates _ rfl
  · split
    · exact evaluates _ rfl
    · exact (s.endDeferral.closeShift_grows ..).trans (State.evaluate_grows _)

theorem State.takeTakeOver_grows (s : State) (n : HandoverNotice) : s.LogGrows (s.takeTakeOver n) := by
  unfold State.takeTakeOver
  dsimp only
  split
  · split
    · exact .of_eq rfl
    · exact (s.closeShift_grows ..).trans (State.evaluate_grows _)
  · split <;> exact .of_eq rfl

theorem State.takeHandover_grows (s : State) (n : HandoverNotice) : s.LogGrows (s.takeHandover n) := by
  unfold State.takeHandover
  split
  · exact .of_eq rfl
  · split
    · exact .of_eq (by simp)
    · exact s.takeTakeOver_grows n

theorem State.tellLeftFree_grows (s : State) (old : AgreementState) : s.LogGrows (s.tellLeftFree old) := by
  unfold State.tellLeftFree
  split
  · exact s.firstEvaluation_grows
  · exact .refl s

theorem State.stepped_grows (s : State) (c : Int) (w : StepCause) (n : AgreementState) (gs : List Nat) :
    s.LogGrows (s.stepped c w n gs) := by
  have logged : s.LogGrows (s.stepLogged c w n gs) :=
    (((s.jump (stepTarget s.instant c) n).writeA s.agr.f).closeDue_grows gs).trans (State.appendNow_grows _ _)
  rw [State.stepped_eq_stepLogged]
  exact (logged.then_eq (by simp)).trans (State.tellLeftFree_grows _ _)

theorem State.queueSecond_evaluate_grows (s : State) : s.LogGrows s.startPulse.queueBeacon.evaluate :=
  (State.LogGrows.of_eq (by simp)).trans (State.evaluate_grows _)

theorem State.step_grows (s : State) (c : Int) (w : StepCause) (n : AgreementState) (gs : List Nat) :
    s.LogGrows (State.step s c w n gs) := by
  rw [State.step_eq_stepped]
  split
  · exact (s.stepped_grows c w n gs).trans (State.queueSecond_evaluate_grows _)
  · exact s.stepped_grows c w n gs

theorem State.enterState_grows (s : State) (n : AgreementState) : s.LogGrows (s.enterState n) :=
  (State.LogGrows.of_eq (by simp)).trans (State.tellLeftFree_grows _ _)

theorem State.applyDecision_grows (s : State) (d : Decision) (gs : List Nat) : s.LogGrows (s.applyDecision d gs) := by
  have enters : ∀ u : State, u.log = s.log → s.LogGrows (u.enterState d.state) := fun u log =>
    (State.LogGrows.of_eq log).trans (u.enterState_grows _)
  unfold State.applyDecision
  dsimp only
  split
  · exact enters _ rfl
  · exact enters _ rfl
  · exact enters _ rfl
  · exact (s.setCounts d).step_grows ..

theorem State.roundIfBoundary_grows (s : State) (d : SecondDue) (gs : List Nat) : s.LogGrows (s.roundIfBoundary d gs) := by
  unfold State.roundIfBoundary
  split
  · exact (s.endHold.mapPeers Peer.takeStock).applyDecision_grows _ gs
  · exact .refl s

theorem State.deliverSecond_grows (s : State) (o : SecondOrder) : s.LogGrows (s.deliverSecond o) := by
  unfold State.deliverSecond
  split
  · exact .refl s
  · have queued : s.LogGrows s.takeSecond.startPulse.queueBeacon := .of_eq (by simp)
    dsimp only
    split
    · exact (queued.trans (State.evaluate_grows _)).trans (State.roundIfBoundary_grows ..)
    · exact (queued.trans (State.roundIfBoundary_grows ..)).trans (State.evaluate_grows _)

theorem State.microsecond_grows (s : State) (p : MicroPart) (o : SecondOrder) : s.LogGrows (s.microsecond p o) := by
  have ticked : s.LogGrows (s.endMicrosecond o).tick :=
    (s.deliverSecond_grows o).then_eq (by simp [State.endMicrosecond])
  cases p with
  | whole => exact ticked.trans (State.deliverSecond_grows _ o)
  | advance => exact ticked
  | signal => exact s.deliverSecond_grows o

/-! ### Receptions, the record store and requests (R32, R97, R159, R167, R176) -/

theorem State.offerMember_grows (s : State) (r : Received) : s.LogGrows (s.offerMember r) := by
  unfold State.offerMember
  dsimp only
  split
  · exact s.handMember_grows _ _
  · exact .refl s

theorem State.route_grows (s : State) (ch : Channel) (r : Received) (p : Stamp) : s.LogGrows (s.route ch r p) := by
  unfold State.route
  split
  case h_1 => exact .of_eq (by simp)
  case h_2 => exact (s.offerMember_grows r).then_eq (by simp)
  case h_3 => exact s.takeHandover_grows _
  case h_4 => split <;> exact .of_eq (by simp)
  case h_5 => split <;> exact .of_eq (by simp)
  case h_6 => exact .refl s

theorem State.receive_grows (s : State) (ch : Channel) (r : Received) (p : Stamp) : s.LogGrows (s.receive ch r p) := by
  unfold State.receive
  dsimp only
  split
  · exact State.route_grows (s.setPeer _ _) ch r p
  · split <;> exact .of_eq rfl

/-- A fault of the store sets its sticky flag and appends STORE_FAULT (R159, R167). -/
theorem State.storeFault_grows (s : State) (f : StoreFault) (b : RecordBody) :
    s.LogGrows ((s.setStoreFlag f).appendNow b) :=
  (State.LogGrows.of_eq (by simp)).trans (State.appendNow_grows _ b)

theorem State.recordFailed_grows (s : State) (p : Programming) (i : Nat) (e : Entry) :
    s.LogGrows (s.recordFailed p i e) := by
  unfold State.recordFailed
  dsimp only
  split
  · refine State.LogGrows.stopWrites (State.LogGrows.trans (.of_eq ?_) (State.storeFault_grows _ _ _)) _
    rfl
  · exact .of_eq rfl

theorem State.failErase_grows (s : State) (p : Nat) : s.LogGrows (s.failErase p) := by
  have logged := State.storeFault_grows
    { s with store := { s.store with erase := none, leftOut := s.store.leftOut ++ [p] } } .erase
    (.storeFault (regionOfPage p) .erase p)
  unfold State.failErase
  dsimp only
  split
  · exact State.LogGrows.stopWrites logged _
  · split
    · exact State.LogGrows.then_eq logged rfl
    · exact logged

/-- Serving a request appends where its owner does, and only there. -/
theorem State.serve_grows (s : State) (code : Nat) (owner : State → Request → State)
    (owned : ∀ (u : State) (r : Request), u.LogGrows (owner u r)) : s.LogGrows (s.serve code owner) := by
  rcases s.serve_cases code owner with e | ⟨r, e⟩ | ⟨r, e⟩ <;> rw [e]
  · exact .refl s
  · exact .of_eq (by simp)
  · exact owned s.popRequest r

theorem State.serveFetchNotices_grows (s : State) (r : Request) : s.LogGrows (s.serveFetchNotices r) := by
  unfold State.serveFetchNotices
  dsimp only
  split <;> exact .of_eq (by simp)

theorem State.serveReadShift_grows (s : State) (r : Request) : s.LogGrows (s.serveReadShift r) := by
  unfold State.serveReadShift
  split <;> exact .of_eq (by simp)

theorem State.serveAckGroup_grows (s : State) (r : Request) : s.LogGrows (s.serveAckGroup r) := by
  unfold State.serveAckGroup
  split <;> exact .of_eq (by simp)

theorem State.servePreset_grows (s : State) (r : Request) : s.LogGrows (s.servePreset r) := by
  unfold State.servePreset
  dsimp only
  split
  · exact .of_eq (by simp)
  · split
    · exact .of_eq (by simp)
    · split
      · exact .of_eq (by simp)
      · exact (s.preset_grows _ _).answer _ _ _

theorem State.serveProtect_grows (s : State) (r : Request) : s.LogGrows (s.serveProtect r) := by
  unfold State.serveProtect
  dsimp only
  split
  · exact .of_eq (by simp)
  · split
    · exact (s.protect_grows _ _ _).answer _ _ _
    · split
      · exact .of_eq (by simp)
      · exact (s.protect_grows _ _ _).answer _ _ _

theorem State.serveLockDown_grows (s : State) (r : Request) : s.LogGrows (s.serveLockDown r) := by
  have locked : ∀ set, s.LogGrows (s.lock set) := fun _ => .of_eq (by simp)
  unfold State.serveLockDown
  dsimp only
  split
  · exact .of_eq (by simp)
  · exact ((locked _).trans (State.protect_grows _ _ _ _)).answer _ _ _

theorem State.serveSetTime_grows (gs : List Nat) (s : State) (r : Request) : s.LogGrows (s.serveSetTime gs r) := by
  unfold State.serveSetTime
  split
  · exact State.LogGrows.answer (s.knowSeconds.step_grows _ _ _ gs) _ _ _
  · exact .of_eq (by simp)

/-! ### Every command -/

/-- What a command can do to the trip log: append records to it (R79), remove the oldest for a FETCH LOG (R86), or start it
afresh, with the records that follow (R82, R188). -/
inductive State.LogEffect (s t : State) : Prop
  | grows (h : s.LogGrows t)
  | removed (n : Nat) (log : t.log = s.log.remove n)
  | afresh (next : Nat) (log : (TripLog.empty next).Grows t.log)

/-- FETCH LOG removes the records it answers with, where there are any (R86). -/
theorem State.LogEffect.servedFetchLog (s : State) : s.LogEffect (s.serve 4 State.serveFetchLog) := by
  rcases s.serve_cases 4 State.serveFetchLog with e | ⟨r, e⟩ | ⟨r, e⟩ <;> rw [e]
  · exact .grows (.refl s)
  · exact .grows (.of_eq (by simp))
  · unfold State.serveFetchLog
    dsimp only
    split
    · exact .grows (.of_eq (by simp))
    · exact .removed (recordsFetched s.log.records (byteAt r.params 0)).length (by simp)

/-- A reset leaves the log empty (R82). -/
theorem State.LogEffect.reset (s : State) (k : ResetCause) : s.LogEffect (s.enterReset k) := by
  refine .afresh (s.enterReset k).log.next ?_
  simp [State.enterReset, State.clearVolatile, TripLog.empty, TripLog.Grows.refl]

/-- START's record is the first of its log (R188). -/
theorem State.LogEffect.start (s : State) (k : ResetCause) (i : StartInputs) : s.LogEffect (s.runStart k i) := by
  have log : (s.runStart k i).log = (s.started k i).log := by
    rw [State.runStart_eq]
    split <;> simp
  refine .afresh (s.firstRecord k i).seq ?_
  rw [log, (s.started_log k i).1, ← TripLog.push_empty]
  exact .push .refl (s.firstRecord k i).dating (s.firstRecord k i).body

/-- Every command has one of these effects. -/
theorem exec_logEffect (c : Instr) (s t : State) (h : exec c s = .next t) : s.LogEffect t := by
  cases c with
  | elapsedMicrosecond p o =>
    obtain rfl := Host.Outcome.next.inj h
    split
    · exact .grows (s.microsecond_grows p o)
    · exact .grows (.refl s)
  | reception ch data odd =>
    obtain rfl := Host.Outcome.next.inj h
    split
    · have ended : s.LogGrows (s.setLine ch { (s.line ch).active s.tb.elapsed with stamp := none }) := .of_eq (by simp)
      dsimp only
      split
      · exact .grows (ended.then_eq (by simp))
      · split
        · exact .grows (ended.then_eq rfl)
        · exact .grows (ended.trans (State.receive_grows ..))
    · exact .grows (.refl s)
  | consoleHandoverNotice payload =>
    obtain rfl := Host.Outcome.next.inj h
    split
    · exact .grows ((State.LogGrows.of_eq (by simp)).trans (State.takeHandover_grows _ _))
    · exact .grows (.refl s)
  | inputSample lines order =>
    obtain rfl := Host.Outcome.next.inj h
    split
    · exact .grows (s.sampleInputs_grows lines _)
    · exact .grows (.refl s)
  | chatterEnd i =>
    obtain rfl := Host.Outcome.next.inj h
    split
    · exact .grows ((s.setInput i (s.input i).leaveChatter).reportInput_grows ..)
    · exact .grows (.refl s)
  | groupClose g =>
    obtain rfl := Host.Outcome.next.inj h
    split
    · exact .grows (s.closeIfDue_grows g)
    · exact .grows (.refl s)
  | statusSample lines =>
    obtain rfl := Host.Outcome.next.inj h
    split
    · exact .grows (s.sampleStatus_grows _)
    · exact .grows (.refl s)
  | dwellEnd =>
    obtain rfl := Host.Outcome.next.inj h
    split
    · split
      · exact .grows (s.accept_grows _)
      · exact .grows (.refl s)
    · exact .grows (.refl s)
  | elapsedMillisecondTick =>
    obtain rfl := Host.Outcome.next.inj h
    split
    · exact .grows s.creditTick_grows
    · exact .grows (.refl s)
  | storeWriteEnd verified =>
    obtain rfl := Host.Outcome.next.inj h
    split
    · split
      · exact .grows (.of_eq (by simp))
      · exact .grows (s.recordFailed_grows ..)
    · exact .grows (.refl s)
  | eraseFail =>
    obtain rfl := Host.Outcome.next.inj h
    split
    · split
      · exact .grows (s.failErase_grows _)
      · exact .grows (.refl s)
    · exact .grows (.refl s)
  | powerDip =>
    obtain rfl := Host.Outcome.next.inj h
    split
    · exact .grows (State.appendNow_grows { s with supply := _, store := s.store.requeueAbandoned } _)
    · exact .grows (.refl s)
  | presetTally => obtain rfl := Host.Outcome.next.inj h; exact .grows (s.serve_grows _ _ State.servePreset_grows)
  | protectTally => obtain rfl := Host.Outcome.next.inj h; exact .grows (s.serve_grows _ _ State.serveProtect_grows)
  | lockDownTally => obtain rfl := Host.Outcome.next.inj h; exact .grows (s.serve_grows _ _ State.serveLockDown_grows)
  | setTime gs => obtain rfl := Host.Outcome.next.inj h; exact .grows (s.serve_grows _ _ (State.serveSetTime_grows gs))
  | fetchLog => obtain rfl := Host.Outcome.next.inj h; exact .servedFetchLog s
  | powerOn => obtain rfl := Host.Outcome.next.inj h; exact .reset s _
  | resetLine => obtain rfl := Host.Outcome.next.inj h; exact .reset s _
  | supplyReset =>
    obtain rfl := Host.Outcome.next.inj h
    split
    · exact .reset s _
    · exact .grows (.refl s)
  | restartReset =>
    obtain rfl := Host.Outcome.next.inj h
    split
    · split
      · exact .reset s _
      · exact .grows (.refl s)
    · exact .grows (.refl s)
  | start i =>
    obtain rfl := Host.Outcome.next.inj h
    split
    · split
      · exact .start s _ i
      · exact .grows (.refl s)
    · exact .grows (.refl s)
  | status | readTime | readPeers | readGroup | readTallies | restart =>
    obtain rfl := Host.Outcome.next.inj h
    exact .grows (s.serve_grows _ _ fun u r => State.LogGrows.answer (.refl u) r .ok _)
  | readArchive => obtain rfl := Host.Outcome.next.inj h; exact .grows (s.serve_grows _ _ fun u r => .of_eq (by simp))
  | fetchNotices => obtain rfl := Host.Outcome.next.inj h; exact .grows (s.serve_grows _ _ State.serveFetchNotices_grows)
  | readShift => obtain rfl := Host.Outcome.next.inj h; exact .grows (s.serve_grows _ _ State.serveReadShift_grows)
  | ackGroup => obtain rfl := Host.Outcome.next.inj h; exact .grows (s.serve_grows _ _ State.serveAckGroup_grows)
  | clearFlags =>
    obtain rfl := Host.Outcome.next.inj h
    split
    · exact .grows (.of_eq (by simp))
    · exact .grows (s.serve_grows _ _ fun u r => .of_eq (by simp))
  | collision ch | sendingComplete ch =>
    obtain rfl := Host.Outcome.next.inj h
    split
    · dsimp only
      split
      · split <;> exact .grows (.of_eq (by simp))
      · exact .grows (.refl s)
    · exact .grows (.refl s)
  | _ =>
    obtain rfl := Host.Outcome.next.inj h
    repeat' split
    all_goals exact .grows (.of_eq (by simp))

end Sys2Proof.Machine
end

section
/-! PROOFS. The trip log's sequences stay consecutive (R79, R82, R83): each effect that a command can have on the log keeps
them so. -/

namespace Sys2Proof.Machine

/-- A fresh log holds no record, whatever its next log sequence. -/
theorem TripLog.Consecutive.empty (next : Nat) : (TripLog.empty next).Consecutive := by
  simp [TripLog.Consecutive, TripLog.empty]

/-- A record that takes the next log sequence keeps the rule, at the newest end of the records that stay. -/
theorem TripLog.Consecutive.join {l : TripLog} (h : l.Consecutive) (kept : List Record) (n get : Nat) (d : Dating)
    (b : RecordBody) (kept_eq : kept = l.records.drop n) (room : kept.length < 256) (place : get < 256) :
    TripLog.Consecutive ⟨kept ++ [⟨l.next, d, b⟩], get, (l.next + 1) % 65536⟩ := by
  obtain ⟨-, -, follows⟩ := h
  refine ⟨by simpa using room, place, fun i r held => ?_⟩
  rw [List.getElem?_append] at held
  simp only [List.length_append, List.length_singleton]
  split at held
  · rename_i old
    have length := congrArg List.length kept_eq
    rw [List.length_drop] at length
    rw [kept_eq, List.getElem?_drop] at held
    have := follows (n + i) r held
    omega
  · rename_i new
    obtain ⟨last, rfl⟩ : i - kept.length = 0 ∧ r = ⟨l.next, d, b⟩ := by
      rw [List.getElem?_singleton] at held
      split at held
      · exact ⟨‹_›, (Option.some.inj held).symm⟩
      · cases held
    dsimp only
    omega

/-- A record pushed under the next log sequence keeps the rule, the oldest giving way where 256 are held (R79, R83). -/
theorem TripLog.Consecutive.push {l : TripLog} (h : l.Consecutive) (d : Dating) (b : RecordBody) :
    (l.push ⟨l.next, d, b⟩).Consecutive := by
  have ⟨bound, place, _⟩ := h
  unfold TripLog.push
  split
  · exact h.join l.records 0 l.get d b rfl ‹_› place
  · exact h.join l.records.tail 1 _ d b (List.drop_one).symm (by rw [List.length_tail]; omega) (Nat.mod_lt _ (by decide))

/-- The records that stay after the oldest are removed keep the rule (R86). -/
theorem TripLog.Consecutive.remove {l : TripLog} (h : l.Consecutive) (n : Nat) : (l.remove n).Consecutive := by
  obtain ⟨bound, -, follows⟩ := h
  refine ⟨?_, Nat.mod_lt _ (by decide), fun i r held => ?_⟩
  · simp only [TripLog.remove, List.length_drop]
    omega
  · simp only [TripLog.remove, List.getElem?_drop, List.length_drop] at held ⊢
    rw [Nat.sub_sub]
    exact follows (n + i) r held

/-- Appending any number of records keeps the rule (R79, R83). -/
theorem TripLog.Consecutive.grows {l m : TripLog} (h : l.Consecutive) (k : l.Grows m) : m.Consecutive := by
  induction k with
  | refl => exact h
  | push _ d b ih => exact ih.push d b

/-- Every command keeps the rule. -/
theorem exec_consecutive (c : Instr) (s t : State) (h : s.log.Consecutive) (e : exec c s = .next t) :
    t.log.Consecutive := by
  cases exec_logEffect c s t e with
  | grows k => exact h.grows k
  | removed n log => exact log ▸ h.remove n
  | afresh next k => exact (TripLog.Consecutive.empty next).grows k

/-- Settles O47: a step executes the front command, whose effect on the log keeps the sequences consecutive. -/
theorem logSequencesStayConsecutive : Obligations.LogSequencesStayConsecutive := by
  intro s t h e
  unfold step at e
  split at e
  · obtain rfl := Host.Outcome.next.inj e
    exact h
  · rename_i c rest _
    exact exec_consecutive c (s.withPending rest) t h e

end Sys2Proof.Machine
end

section
/-! PROOFS. A record appended (R79, R80, R83, R161, R168), and a notice offered to the queue and to its group (R90 to
R97). -/

namespace Sys2Proof.Machine

/-- The trip archive takes a record: the region accepts writes and the write queue has a place (R160, R161, R168). -/
theorem State.archiveCloses_eq_false_iff (s : State) :
    (s.store.regionStopped .trips || s.store.queueFull) = false
      ↔ (s.store.trips.stopped = false ∧ 2 ≤ (s.store.usablePages .trips).length) ∧ s.store.queue.length < 16 := by
  simp only [Store.regionStopped, Store.queueFull, Store.region, Bool.or_eq_false_iff, decide_eq_false_iff_not,
    Nat.not_lt, Nat.not_le]

/-- A record written to the ring, the oldest giving way where 256 are held (R79, R83). -/
theorem TripLog.push_eq_ite (l : TripLog) (r : Record) :
    l.push r = if l.records.length < 256 then ⟨l.records ++ [r], l.get, (l.next + 1) % 65536⟩
      else ⟨l.records.tail ++ [r], (l.get + 1) % 256, (l.next + 1) % 65536⟩ :=
  rfl

/-- LOG_OVERRUN is set where the oldest record gives way, and stays as it was elsewhere (R83). -/
theorem StickyFlags.logOverrun_eq_ite (f : StickyFlags) (n : Nat) :
    ({ f with logOverrun := f.logOverrun || decide (256 ≤ n) } : StickyFlags) =
      if n < 256 then f else { f with logOverrun := true } := by
  by_cases room : n < 256
  · rw [if_pos room, decide_eq_false (Nat.not_le.2 room), Bool.or_false]
  · rw [if_neg room, decide_eq_true (Nat.not_lt.1 room), Bool.or_true]

/-- Settles O46: the log and the flags by the ring's fill, the store by whether the trip archive takes the record. -/
theorem recordIsAppended : Obligations.RecordIsAppended := by
  intro s d b r next log flags open'
  have appended : s.append d b = State.queueArchive { s with log := log, flags := flags } r := by
    rw [State.append, StickyFlags.logOverrun_eq_ite, TripLog.push_eq_ite]
  have takes : (s.store.regionStopped .trips || s.store.queueFull) = false ↔ open' ∧ s.store.queue.length < 16 :=
    s.archiveCloses_eq_false_iff
  refine ⟨fun opened room => ?_, fun closed => ?_⟩
  · rw [appended, State.queueArchive, if_neg (Bool.eq_false_iff.1 (takes.2 ⟨opened, room⟩))]
    rfl
  · have full : (s.store.regionStopped .trips || s.store.queueFull) = true := by
      rw [← Bool.not_eq_false, takes]
      rintro ⟨opened, room⟩
      exact closed.elim (· opened) (Nat.not_le.2 room)
    rw [appended, State.queueArchive, if_pos full]
    rfl

/-- A notice's fields lie in their ranges (R91). -/
theorem TripNotice.inRange_iff (n : TripNotice) :
    n.inRange = true ↔ (n.kind = 2 ∨ n.kind = 3 ∨ n.kind = 4) ∧ n.input ≤ 15 ∧ (n.level = 0 ∨ n.level = 1) ∧ n.cls ≤ 2
      ∧ n.group ≤ 7 ∧ n.quality ≤ 3 ∧ n.time.u < 1000000 := by
  simp only [TripNotice.inRange, Bool.and_eq_true, decide_eq_true_eq]
  omega

/-- The parts of the rejection filter, for a notice whose fields lie in their ranges (R90). -/
theorem Configuration.rejects_iff (c : Configuration) (sender : Nat) (n : TripNotice) (inRange : n.inRange = true) :
    c.rejects sender n = true ↔ c.senderReject.getLsbD sender = true
      ∨ (c.chatterReject = true ∧ (n.kind = 3 ∨ n.kind = 4))
      ∨ (n.kind = 2 ∧ ((c.rejectIndication = true ∧ n.cls = 0) ∨ (c.rejectProtection = true ∧ n.cls = 1)
          ∨ (c.rejectUnitTrip = true ∧ n.cls = 2)))
      ∨ (1 ≤ n.group ∧ c.groupReject.getLsbD n.group = true) := by
  have chatter : n.kind ≠ 2 ↔ n.kind = 3 ∨ n.kind = 4 := by
    have := n.inRange_iff.1 inRange
    omega
  simp only [Configuration.rejects, Bool.or_eq_true, Bool.and_eq_true, decide_eq_true_eq, beq_iff_eq, chatter,
    ← Nat.one_le_iff_ne_zero, or_assoc]

/-- Whether a notice is a member of its group (R97). -/
theorem TripNotice.isMember_iff (n : TripNotice) :
    n.isMember = true ↔ n.kind = 2 ∧ n.level = 1 ∧ (n.cls = 1 ∨ n.cls = 2) ∧ 1 ≤ n.group ∧ n.group ≤ 7 ∧ n.input ≤ 15
      ∧ n.quality ≤ 3 ∧ n.time.u < 1000000 := by
  simp only [TripNotice.isMember, Bool.and_eq_true, decide_eq_true_eq, and_assoc]

/-- A notice that joins below 64 (R92). -/
theorem State.enterNotice_of_room (s : State) (n : Notice) (room : s.notices.length < 64) :
    s.enterNotice n = { s with notices := s.notices ++ [n] } :=
  if_pos room

/-- A notice that joins at 64, the oldest giving way (R92). -/
theorem State.enterNotice_of_full (s : State) (n : Notice) (full : s.notices.length = 64) :
    s.enterNotice n =
      { s with notices := s.notices.tail ++ [n], flags := { s.flags with noticeOverrun := true } } :=
  if_neg (by omega)

/-- A full queue stays full (R92). -/
theorem State.enterNotice_length_of_full (s : State) (n : Notice) (full : s.notices.length = 64) :
    (s.enterNotice n).notices.length = 64 := by
  simp [s.enterNotice_of_full n full, full]

/-- Settles O25: the entry by the queue's fill, the offer by the range and the filter, the member by its test. -/
theorem admittedNoticeIsEntered : Obligations.AdmittedNoticeIsEntered := by
  refine ⟨fun s n => ⟨fun room => ?_, fun full => ?_, by simp [State.noticeHigh]⟩, fun s n m full => ?_, ?_⟩
  · have joined := s.enterNotice_of_room n room
    exact ⟨joined, by simp [joined]⟩
  · exact ⟨s.enterNotice_of_full n full, s.enterNotice_length_of_full n full⟩
  · have others : s.notices.tail ≠ [] := List.ne_nil_of_length_pos (by rw [List.length_tail]; omega)
    have gone : (s.notices.tail ++ [n]).tail = s.notices.drop 2 ++ [n] := by
      rw [List.tail_append_of_ne_nil others, ← List.drop_one, ← List.drop_one, List.drop_drop]
    rw [State.enterNotice_of_full _ m (s.enterNotice_length_of_full n full), s.enterNotice_of_full n full]
    simp [gone]
  · intro s r kind input level cls group quality u inRange rejected belongs
    have ranged : (TripNotice.ofBytes r.payload).inRange = true ↔ inRange := TripNotice.inRange_iff _
    have rejects : inRange → (s.cfg.rejects r.sender (TripNotice.ofBytes r.payload) = true ↔ rejected) := fun fields =>
      s.cfg.rejects_iff r.sender _ (ranged.2 fields)
    have member : (TripNotice.ofBytes r.payload).isMember = true ↔ belongs := TripNotice.isMember_iff _
    refine ⟨fun fields passed => if_pos ?_, fun refused => if_neg ?_, fun own => ?_,
      fun other => if_neg (mt member.1 other)⟩
    · rw [Bool.and_eq_true, Bool.not_eq_true', ← Bool.not_eq_true]
      exact ⟨ranged.2 fields, mt (rejects fields).1 passed⟩
    · rw [Bool.and_eq_true, Bool.not_eq_true', ← Bool.not_eq_true]
      rintro ⟨fields, passed⟩
      exact refused.elim (· (ranged.1 fields)) fun no => passed ((rejects (ranged.1 fields)).2 no)
    · refine ⟨(TripNotice.ofBytes r.payload).member r.sender, if_pos (member.2 own), rfl, rfl, rfl, rfl, rfl, ?_⟩
      obtain ⟨-, -, -, -, -, -, qualities, -⟩ := own
      exact Nat.mod_eq_of_lt (Nat.lt_succ_of_le qualities)

end Sys2Proof.Machine
end

section
/-! PROOFS. What each operation and each command can do to the group table (R99 to R106): open, close, release or enlarge an
entry, or make the whole table afresh. -/

namespace Sys2Proof.Machine

/-! ### The moves of an entry (R99, R100, R103, R106) -/

/-- What can become of an entry: a member opens it, joins it or is counted in overflow, it closes, or it returns to IDLE. -/
inductive Group.Move (x : Group) : Group → Prop
  | openedBy (m : Member) : x.Move (Group.openedBy m)
  | takes (m : Member) (opened : x.state = .opened) : x.Move (x.takeMember m)
  | closes (holdEnd : Option Nat) (opened : x.state = .opened) : x.Move (x.close holdEnd)
  | released : x.Move Group.idle

/-- The group tables that moves of entries make of one, an entry at a time. -/
inductive GroupsMove (l : List Group) : List Group → Prop
  | refl : GroupsMove l l
  | move {k : List Group} (h : GroupsMove l k) (i : Nat) (x y : Group) (held : k[i]? = some x) (m : x.Move y) :
      GroupsMove l (k.set i y)

theorem GroupsMove.trans {l k j : List Group} (h : GroupsMove l k) (h' : GroupsMove k j) : GroupsMove l j := by
  induction h' with
  | refl => exact h
  | move _ i x y held m ih => exact ih.move i x y held m

/-- From `s` to `t` the entries of the group table make moves, and nothing else happens to it. -/
def State.GroupsMove (s t : State) : Prop := Sys2Proof.Machine.GroupsMove s.groups t.groups

theorem State.GroupsMove.refl (s : State) : s.GroupsMove s := Sys2Proof.Machine.GroupsMove.refl

theorem State.GroupsMove.of_eq {s t : State} (groups : t.groups = s.groups) : s.GroupsMove t := by
  rw [State.GroupsMove, groups]
  exact .refl

theorem State.GroupsMove.trans {s t u : State} (h : s.GroupsMove t) (k : t.GroupsMove u) : s.GroupsMove u :=
  Sys2Proof.Machine.GroupsMove.trans h k

/-- Whatever follows without touching the groups. -/
theorem State.GroupsMove.then_eq {s t u : State} (h : s.GroupsMove t) (groups : u.groups = t.groups) : s.GroupsMove u :=
  h.trans (.of_eq groups)

theorem State.GroupsMove.answer {s t : State} (h : s.GroupsMove t) (r : Request) (st : Status) (c : List Byte) :
    s.GroupsMove (t.answer r st c) :=
  h.then_eq (by simp)

/-- Writing back an entry that has moved; a number that names no entry writes nothing. -/
theorem State.setGroup_moves (s : State) (g : Nat) (y : Group) (m : (s.group g).Move y) :
    s.GroupsMove (s.setGroup g y) := by
  unfold State.setGroup
  split
  · by_cases held : g - 1 < s.groups.length
    · refine Sys2Proof.Machine.GroupsMove.move .refl (g - 1) (s.group g) y ?_ m
      simp [State.group, held]
    · exact .of_eq (List.set_eq_of_length_le (Nat.not_lt.1 held))
  · exact .refl s

/-! ### The group table's operations (R97 to R108) -/

/-- A group that is due is OPEN (R103). -/
theorem State.groupDue_opened {s : State} {g : Nat} (due : s.groupDue g = true) : (s.group g).state = .opened := by
  unfold State.groupDue at due
  split at due
  · assumption
  · cases due

theorem State.closeGroup_moves {s : State} {g : Nat} (due : s.groupDue g = true) : s.GroupsMove (s.closeGroup g) := by
  have closed := s.setGroup_moves g _ (.closes s.holdEndNow (State.groupDue_opened due))
  unfold State.closeGroup
  dsimp only
  split
  · exact closed
  · split <;> exact closed.then_eq (by simp)

theorem State.closeIfDue_moves (s : State) (g : Nat) : s.GroupsMove (s.closeIfDue g) := by
  unfold State.closeIfDue
  split
  · rename_i due
    exact State.closeGroup_moves (Bool.and_eq_true_iff.1 due).2
  · exact .refl s

theorem State.closeDue_moves (s : State) (gs : List Nat) : s.GroupsMove (s.closeDue gs) := by
  induction gs generalizing s with
  | nil => exact .refl s
  | cons g gs ih => exact (s.closeIfDue_moves g).trans (ih _)

theorem State.handMember_moves (s : State) (g : Nat) (m : Member) : s.GroupsMove (s.handMember g m) := by
  have opens : s.GroupsMove (s.openGroup g m) := by
    have opened := s.setGroup_moves g _ (.openedBy m)
    unfold State.openGroup
    dsimp only
    split
    · exact opened.trans (State.closeGroup_moves ‹_›)
    · exact opened
  have strays : ∀ why, s.GroupsMove (s.strayMember g m why) := fun _ => .of_eq (by simp)
  unfold State.handMember
  dsimp only
  split
  · split
    · exact strays _
    · split
      · exact strays _
      · exact s.setGroup_moves g _ (.takes m ‹_›)
  · exact strays _
  · exact opens

theorem State.takeTrip_moves (s : State) (i seq : Nat) (d : Dating) : s.GroupsMove (s.takeTrip i seq d) := by
  unfold State.takeTrip
  dsimp only
  split
  · exact .of_eq rfl
  · exact (s.modShift ShiftRecord.countTrip).handMember_moves _ _

theorem State.inputChange_moves (s : State) (i : Nat) (t : InputTest) (x : Bool) : s.GroupsMove (s.inputChange i t x) := by
  have told : s.GroupsMove (s.reportInput .change i t.level t.dating x) := .of_eq (by simp)
  unfold State.inputChange
  dsimp only
  split
  · exact told.trans (State.takeTrip_moves ..)
  · exact told

theorem State.inputEvent_moves (s : State) (i : Nat) (c : InputChannel) (t : InputTest) :
    s.GroupsMove (s.inputEvent i c t) := by
  have set : ∀ d, s.GroupsMove ((s.associate i t).setInput i d) := fun _ => .of_eq (by simp)
  unfold State.inputEvent
  dsimp only
  split
  · exact set _
  · split
    · exact .of_eq (by simp)
    · exact (set _).trans (State.inputChange_moves ..)

theorem State.sampleInput_moves (s : State) (lines : BitVec 16) (i : Nat) : s.GroupsMove (s.sampleInput lines i) := by
  unfold State.sampleInput
  dsimp only
  split
  · split
    · exact .of_eq rfl
    · unfold State.inputQualifies
      split
      · exact .of_eq rfl
      · exact s.inputEvent_moves ..
  · exact .refl s

theorem State.sampleInputs_moves (s : State) (lines : BitVec 16) (order : List Nat) :
    s.GroupsMove (order.foldl (fun t i => t.sampleInput lines i) s) := by
  induction order generalizing s with
  | nil => exact .refl s
  | cons i order ih => exact (s.sampleInput_moves lines i).trans (ih _)

theorem State.offerMember_moves (s : State) (r : Received) : s.GroupsMove (s.offerMember r) := by
  unfold State.offerMember
  dsimp only
  split
  · exact s.handMember_moves _ _
  · exact .refl s

theorem State.route_moves (s : State) (ch : Channel) (r : Received) (p : Stamp) : s.GroupsMove (s.route ch r p) := by
  unfold State.route
  split
  case h_2 => exact (s.offerMember_moves r).then_eq (by simp)
  case h_4 | h_5 => split <;> exact .of_eq (by simp)
  all_goals exact .of_eq (by simp)

theorem State.receive_moves (s : State) (ch : Channel) (r : Received) (p : Stamp) : s.GroupsMove (s.receive ch r p) := by
  unfold State.receive
  dsimp only
  split
  · exact State.GroupsMove.trans (.of_eq (State.setPeer_groups ..)) (State.route_moves ..)
  · split <;> exact .of_eq rfl

theorem State.serveAckGroup_moves (s : State) (r : Request) : s.GroupsMove (s.serveAckGroup r) := by
  unfold State.serveAckGroup
  split
  case h_3 => exact (s.setGroup_moves _ _ .released).answer r .ok []
  all_goals exact .of_eq (by simp)

/-! ### Steps and seconds of station time (R6, R11, R104) -/

theorem State.stepped_moves (s : State) (c : Int) (w : StepCause) (n : AgreementState) (gs : List Nat) :
    s.GroupsMove (s.stepped c w n gs) :=
  (((s.jump (stepTarget s.instant c) n).writeA s.agr.f).closeDue_moves gs).then_eq (by simp [State.stepped])

theorem State.step_moves (s : State) (c : Int) (w : StepCause) (n : AgreementState) (gs : List Nat) :
    s.GroupsMove (State.step s c w n gs) := by
  rw [State.step_eq_stepped]
  split
  · exact (s.stepped_moves c w n gs).then_eq (by simp)
  · exact s.stepped_moves c w n gs

theorem State.roundIfBoundary_moves (s : State) (d : SecondDue) (gs : List Nat) :
    s.GroupsMove (s.roundIfBoundary d gs) := by
  have applied : ∀ (u : State) (e : Decision), u.GroupsMove (u.applyDecision e gs) := fun u e => by
    unfold State.applyDecision
    dsimp only
    split
    case h_4 => exact (u.setCounts e).step_moves ..
    all_goals exact .of_eq (by simp)
  unfold State.roundIfBoundary
  split
  · exact applied (s.endHold.mapPeers Peer.takeStock) _
  · exact .refl s

theorem State.deliverSecond_moves (s : State) (o : SecondOrder) : s.GroupsMove (s.deliverSecond o) := by
  unfold State.deliverSecond
  split
  · exact .refl s
  · have queued : s.GroupsMove s.takeSecond.startPulse.queueBeacon := .of_eq (by simp)
    have evaluates : ∀ u : State, u.GroupsMove u.evaluate := fun u => .of_eq (by simp)
    dsimp only
    split
    · exact (queued.trans (evaluates _)).trans (State.roundIfBoundary_moves ..)
    · exact (queued.trans (State.roundIfBoundary_moves ..)).trans (evaluates _)

theorem State.microsecond_moves (s : State) (p : MicroPart) (o : SecondOrder) : s.GroupsMove (s.microsecond p o) := by
  have ticked : s.GroupsMove (s.endMicrosecond o).tick :=
    (s.deliverSecond_moves o).then_eq (by simp [State.endMicrosecond])
  cases p with
  | whole => exact ticked.trans (State.deliverSecond_moves _ o)
  | advance => exact ticked
  | signal => exact s.deliverSecond_moves o

theorem State.serveSetTime_moves (gs : List Nat) (s : State) (r : Request) : s.GroupsMove (s.serveSetTime gs r) := by
  unfold State.serveSetTime
  split
  · exact State.GroupsMove.answer (s.knowSeconds.step_moves _ _ _ gs) _ _ _
  · exact .of_eq (by simp)

/-! ### Requests that leave the groups alone (R86, R93, R127 to R129, R181) -/

@[simp] theorem State.serveFetchLog_groups (s : State) (r : Request) : (s.serveFetchLog r).groups = s.groups := by
  unfold State.serveFetchLog
  dsimp only
  split <;> simp

@[simp] theorem State.serveFetchNotices_groups (s : State) (r : Request) :
    (s.serveFetchNotices r).groups = s.groups := by
  unfold State.serveFetchNotices
  dsimp only
  split <;> simp

@[simp] theorem State.serveReadShift_groups (s : State) (r : Request) : (s.serveReadShift r).groups = s.groups := by
  unfold State.serveReadShift
  split <;> simp

@[simp] theorem State.servePreset_groups (s : State) (r : Request) : (s.servePreset r).groups = s.groups := by
  unfold State.servePreset
  dsimp only
  repeat' split
  all_goals simp

@[simp] theorem State.serveProtect_groups (s : State) (r : Request) : (s.serveProtect r).groups = s.groups := by
  unfold State.serveProtect
  dsimp only
  repeat' split
  all_goals simp

@[simp] theorem State.serveLockDown_groups (s : State) (r : Request) : (s.serveLockDown r).groups = s.groups := by
  unfold State.serveLockDown
  dsimp only
  split <;> simp

/-! ### Every command -/

/-- Serving a request moves entries where its owner does, and only there. -/
theorem State.serve_moves (s : State) (code : Nat) (owner : State → Request → State)
    (owned : ∀ (u : State) (r : Request), u.GroupsMove (owner u r)) : s.GroupsMove (s.serve code owner) := by
  rcases s.serve_cases code owner with e | ⟨r, e⟩ | ⟨r, e⟩ <;> rw [e]
  · exact .refl s
  · exact .of_eq (by simp)
  · exact owned s.popRequest r

/-- What a command can do to the group table: move its entries, or leave seven IDLE ones for a reset or a START. -/
inductive State.GroupsEffect (s t : State) : Prop
  | moves (h : s.GroupsMove t)
  | afresh (groups : t.groups = List.replicate 7 Group.idle)

theorem State.runStart_groups (s : State) (k : ResetCause) (i : StartInputs) :
    (s.runStart k i).groups = List.replicate 7 Group.idle := by
  rw [State.runStart_eq]
  split <;> simp [s.started_blocks k i]

/-- Every command has one of these effects. -/
theorem exec_groupsEffect (c : Instr) (s t : State) (h : exec c s = .next t) : s.GroupsEffect t := by
  cases c with
  | elapsedMicrosecond p o =>
    obtain rfl := Host.Outcome.next.inj h
    split
    · exact .moves (s.microsecond_moves p o)
    · exact .moves (.refl s)
  | reception ch data odd =>
    obtain rfl := Host.Outcome.next.inj h
    split
    · have ended : s.GroupsMove (s.setLine ch { (s.line ch).active s.tb.elapsed with stamp := none }) := .of_eq (by simp)
      dsimp only
      split
      · exact .moves (ended.then_eq (by simp))
      · split
        · exact .moves (ended.then_eq rfl)
        · exact .moves (ended.trans (State.receive_moves ..))
    · exact .moves (.refl s)
  | inputSample lines order =>
    obtain rfl := Host.Outcome.next.inj h
    split
    · exact .moves (s.sampleInputs_moves lines _)
    · exact .moves (.refl s)
  | groupClose g =>
    obtain rfl := Host.Outcome.next.inj h
    split
    · exact .moves (s.closeIfDue_moves g)
    · exact .moves (.refl s)
  | groupHoldEnd g =>
    obtain rfl := Host.Outcome.next.inj h
    split
    · exact .moves (s.setGroup_moves g _ .released)
    · exact .moves (.refl s)
  | ackGroup =>
    obtain rfl := Host.Outcome.next.inj h
    exact .moves (s.serve_moves _ _ State.serveAckGroup_moves)
  | setTime gs =>
    obtain rfl := Host.Outcome.next.inj h
    exact .moves (s.serve_moves _ _ (State.serveSetTime_moves gs))
  | powerOn | resetLine =>
    obtain rfl := Host.Outcome.next.inj h
    exact .afresh rfl
  | supplyReset =>
    obtain rfl := Host.Outcome.next.inj h
    split
    · exact .afresh rfl
    · exact .moves (.refl s)
  | restartReset =>
    obtain rfl := Host.Outcome.next.inj h
    split
    · split
      · exact .afresh rfl
      · exact .moves (.refl s)
    · exact .moves (.refl s)
  | start i =>
    obtain rfl := Host.Outcome.next.inj h
    split
    · split
      · exact .afresh (s.runStart_groups _ i)
      · exact .moves (.refl s)
    · exact .moves (.refl s)
  | status | readTime | readPeers | readGroup | readTallies | restart =>
    obtain rfl := Host.Outcome.next.inj h
    exact .moves (s.serve_moves _ _ fun u r => State.GroupsMove.answer (.refl u) r .ok _)
  | fetchLog | readArchive | fetchNotices | readShift | presetTally | protectTally | lockDownTally =>
    obtain rfl := Host.Outcome.next.inj h
    exact .moves (s.serve_moves _ _ fun u r => .of_eq (by simp))
  | clearFlags =>
    obtain rfl := Host.Outcome.next.inj h
    split
    · exact .moves (.of_eq (by simp))
    · exact .moves (s.serve_moves _ _ fun u r => .of_eq (by simp))
  | collision ch | sendingComplete ch =>
    obtain rfl := Host.Outcome.next.inj h
    split
    · dsimp only
      split
      · split <;> exact .moves (.of_eq (by simp))
      · exact .moves (.refl s)
    · exact .moves (.refl s)
  | _ =>
    obtain rfl := Host.Outcome.next.inj h
    repeat' split
    all_goals exact .moves (.of_eq (by simp))

end Sys2Proof.Machine
end

section
/-! PROOFS. The group table stays ranked (R98, R99, R100, R103): every move of an entry keeps its list in list order with the
best-ranked member for first-out. -/

namespace Sys2Proof.Machine

/-- An IDLE entry is ranked. -/
theorem Group.Ranked.idle : Group.idle.Ranked := by
  simp [Group.Ranked, Group.idle, bestRanked, firstTimed]

/-- The first member of a group is its best-ranked one, timed or not (R98, R99). -/
theorem bestRanked_singleton (m : Member) : bestRanked [m] = some 0 := by
  cases timed : m.dating.timed <;> simp [bestRanked, firstTimed, timed]

/-- A member that joins leaves a ranked entry, in the list or in overflow (R100). -/
theorem Group.Ranked.takeMember {x : Group} (h : x.Ranked) (m : Member) (opened : x.state = .opened) :
    (x.takeMember m).Ranked := by
  unfold Group.takeMember
  split
  case isTrue room =>
    obtain ⟨-, sorted, -, -, -⟩ := h
    have held : insertMember m x.members ≠ [] := List.ne_nil_of_length_pos (by simp)
    refine ⟨?_, insertMember_pairwise m x.members sorted, rfl, fun idle => ?_, fun _ => held⟩
    · rw [insertMember_length]
      omega
    · rw [opened] at idle
      cases idle
  case isFalse => exact h

/-- Every move keeps an entry ranked. -/
theorem Group.Ranked.move {x y : Group} (h : x.Ranked) (m : x.Move y) : y.Ranked := by
  cases m with
  | openedBy m => simp [Group.Ranked, Group.openedBy, bestRanked_singleton]
  | takes m opened => exact h.takeMember m opened
  | closes holdEnd opened =>
    obtain ⟨bound, sorted, best, -, held⟩ := h
    exact ⟨bound, sorted, best, nofun, fun _ => held (by simp [opened])⟩
  | released => exact .idle

/-- Moves keep every entry ranked, and their number. -/
theorem GroupsMove.ranked {l k : List Group} (m : GroupsMove l k) (h : l.length = 7 ∧ ∀ x ∈ l, x.Ranked) :
    k.length = 7 ∧ ∀ x ∈ k, x.Ranked := by
  induction m with
  | refl => exact h
  | move _ i x y held m ih =>
    obtain ⟨seven, ranked⟩ := ih
    refine ⟨by simpa using seven, fun z hz => ?_⟩
    rcases List.mem_or_eq_of_mem_set hz with old | rfl
    · exact ranked z old
    · exact (ranked x (List.mem_of_getElem? held)).move m

/-- Every command keeps the group table ranked. -/
theorem exec_groupsRanked (c : Instr) (s t : State) (h : s.GroupsRanked) (e : exec c s = .next t) : t.GroupsRanked := by
  cases exec_groupsEffect c s t e with
  | moves m => exact m.ranked h
  | afresh groups =>
    rw [State.GroupsRanked, groups]
    exact ⟨rfl, fun x hx => List.eq_of_mem_replicate hx ▸ .idle⟩

/-- Settles O35: a step executes the front command, whose effect on the group table keeps it ranked. -/
theorem groupsStayRanked : Obligations.GroupsStayRanked := by
  intro s t h e
  unfold step at e
  split at e
  · obtain rfl := Host.Outcome.next.inj e
    exact h
  · rename_i c rest _
    exact exec_groupsRanked c (s.withPending rest) t h e

end Sys2Proof.Machine
end

section
/-! PROOFS. A group's life (R95, R98 to R107): the entry read back, the close with its record, the hold end, and a member
handed to an IDLE, OPEN or CLOSED group. -/

namespace Sys2Proof.Machine

/-! ### The entry of a group read back and written again -/

@[simp] theorem State.setGroup_dating (s : State) (g : Nat) (x : Group) : (s.setGroup g x).dating = s.dating := by
  simp [State.dating, State.quality]

@[simp] theorem State.setGroup_instant (s : State) (g : Nat) (x : Group) : (s.setGroup g x).instant = s.instant := by
  simp [State.instant]

/-- The table holds the entry of each group that has a number (R94). -/
theorem State.setGroup_group {s : State} {g : Nat} (table : s.groups.length = 7) (one : 1 ≤ g) (seven : g ≤ 7)
    (x : Group) : (s.setGroup g x).group g = x := by
  have held : g - 1 < s.groups.length := by omega
  simp [State.setGroup, State.group, one, seven, held]

theorem State.setGroup_setGroup (s : State) (g : Nat) (x y : Group) :
    (s.setGroup g x).setGroup g y = s.setGroup g y := by
  unfold State.setGroup
  split <;> simp

/-! ### Closing, and the hold end (R95, R103, R106) -/

/-- An OPEN group is due from its close instant on (R95, R103). -/
theorem State.groupDue_of_opened {s : State} {g : Nat} {t0 : StationTime} (opened : (s.group g).state = .opened)
    (origin : (s.group g).t0 = some t0) : s.groupDue g = decide (s.cfg.closeInstant t0 ≤ s.instant) := by
  simp [State.groupDue, opened, origin]

theorem exec_groupClose_eq {s : State} {g : Nat} (running : s.phase = .running) (one : 1 ≤ g) (seven : g ≤ 7) :
    exec (.groupClose g) s = .next (if s.groupDue g then s.closeGroup g else s) := by
  simp [exec, execGroupClose, State.isRunning, running, State.closeIfDue, one, seven]

/-- A close names the first-out in GROUP_CLOSE, and counts it where it is the own station's (R103). -/
theorem State.closeGroup_of_firstOut {s : State} {g f : Nat} {m : Member} (firstOut : (s.group g).firstOut = some f)
    (member : (s.group g).members[f]? = some m) :
    s.closeGroup g =
      let closed := (s.setGroup g ((s.group g).close s.holdEndNow)).append s.dating
        (.groupClose g m (s.group g).members.length (s.group g).overflow)
      if m.station = s.ownNumber then closed.countFirstOut else closed := by
  simp [State.closeGroup, firstOut, member, State.appendNow]

/-- A close leaves the entry CLOSED, whatever record it appends (R103). -/
theorem State.closeGroup_group {s : State} {g : Nat} (table : s.groups.length = 7) (one : 1 ≤ g) (seven : g ≤ 7) :
    (s.closeGroup g).group g = (s.group g).close s.holdEndNow := by
  have closed := State.setGroup_group table one seven ((s.group g).close s.holdEndNow)
  have kept : (s.closeGroup g).groups = (s.setGroup g ((s.group g).close s.holdEndNow)).groups := by
    unfold State.closeGroup
    dsimp only
    split
    · rfl
    · split <;> simp
  rwa [State.group, kept]

theorem exec_groupHoldEnd_eq {s : State} {g e : Nat} (running : s.phase = .running)
    (closed : (s.group g).state = .closed) (hold : (s.group g).holdEnd = some e) :
    exec (.groupHoldEnd g) s = .next (if e ≤ s.tb.elapsed then s.setGroup g Group.idle else s) := by
  simp [exec, execGroupHoldEnd, State.isRunning, running, closed, State.reached, hold]

/-- Settles O31: due or not by the close instant, the first-out own or not. -/
theorem groupClosesAtItsInstant : Obligations.GroupClosesAtItsInstant := by
  intro s g f t0 m running one seven x opened origin firstOut member due hold closed
  have run := exec_groupClose_eq running one seven
  have isDue : s.groupDue g = decide (due ≤ s.tb.time.s * 1000000 + s.tb.time.u) :=
    State.groupDue_of_opened opened origin
  have close := State.closeGroup_of_firstOut firstOut member
  refine ⟨fun reached => ?_, fun early => by rw [run, isDue, decide_eq_false (Nat.not_le.2 early)]; rfl⟩
  rw [run, isDue, decide_eq_true reached, if_pos rfl, close]
  refine ⟨fun other => congrArg _ (if_neg other), fun own => congrArg _ ((if_pos own).trans ?_)⟩
  simp only [← satInc_eq]
  rfl

/-! ### A member handed to its group (R98 to R101, R105, R107) -/

/-- A member opens an IDLE group, which closes at once where its close instant has been reached (R99). -/
theorem State.openGroup_eq {s : State} {g : Nat} (table : s.groups.length = 7) (one : 1 ≤ g) (seven : g ≤ 7)
    (m : Member) :
    s.openGroup g m =
      if s.cfg.closeInstant m.dating.time ≤ s.instant then (s.setGroup g (Group.openedBy m)).closeGroup g
      else s.setGroup g (Group.openedBy m) := by
  have entry := State.setGroup_group table one seven (Group.openedBy m)
  have due : (s.setGroup g (Group.openedBy m)).groupDue g = decide (s.cfg.closeInstant m.dating.time ≤ s.instant) := by
    rw [State.groupDue_of_opened (t0 := m.dating.time) (by rw [entry]; rfl) (by rw [entry]; rfl)]
    simp
  simp [State.openGroup, due]

theorem State.handMember_idle {s : State} {g : Nat} (idle : (s.group g).state = .idle) (m : Member) :
    s.handMember g m = s.openGroup g m := by
  simp [State.handMember, idle]

theorem State.handMember_closed {s : State} {g : Nat} (closed : (s.group g).state = .closed) (m : Member) :
    s.handMember g m = s.strayMember g m .afterClose := by
  simp [State.handMember, closed]

/-- A member handed to an OPEN group, by its place against the window (R100, R101). -/
theorem State.handMember_opened {s : State} {g : Nat} {t0 : StationTime} (opened : (s.group g).state = .opened)
    (origin : (s.group g).t0 = some t0) (m : Member) :
    s.handMember g m =
      if m.instant < s.cfg.windowFrom t0 then s.strayMember g m .beforeWindow
      else if s.cfg.windowTo t0 < m.instant then s.strayMember g m .afterWindow
      else s.setGroup g ((s.group g).takeMember m) := by
  simp [State.handMember, opened, origin]

theorem State.handMember_inWindow {s : State} {g : Nat} {t0 : StationTime} (opened : (s.group g).state = .opened)
    (origin : (s.group g).t0 = some t0) {m : Member} (lower : s.cfg.windowFrom t0 ≤ m.instant)
    (upper : m.instant ≤ s.cfg.windowTo t0) : s.handMember g m = s.setGroup g ((s.group g).takeMember m) := by
  rw [State.handMember_opened opened origin, if_neg (Nat.not_lt.2 lower), if_neg (Nat.not_lt.2 upper)]

/-- Settles O32: the hold end reached or not, and the member before it or after it. -/
theorem holdEndReturnsGroupToIdle : Obligations.HoldEndReturnsGroupToIdle := by
  intro s g e m running table one seven closed hold idle stray
  have run := exec_groupHoldEnd_eq running closed hold
  refine ⟨fun early => by rw [run, if_neg (Nat.not_le.2 early)], fun reached => ?_⟩
  have strayGroup : stray.group g = s.group g := by simp [State.group, stray]
  have runStray : exec (.groupHoldEnd g) stray =
      .next (if e ≤ stray.tb.elapsed then stray.setGroup g Group.idle else stray) :=
    exec_groupHoldEnd_eq (by simp [stray, running]) (by rw [strayGroup, closed]) (by rw [strayGroup, hold])
  have idleGroup : idle.group g = Group.idle := State.setGroup_group table one seven _
  have idleTable : idle.groups.length = 7 := by simp [idle, State.setGroup, one, seven, table]
  have openedTable : (idle.setGroup g (Group.openedBy m)).groups.length = 7 := by
    simp [State.setGroup, one, seven, idleTable]
  refine ⟨by rw [run, if_pos reached]; rfl, by simp [idle], State.handMember_closed closed m, ?_, ?_⟩
  · rw [runStray, if_pos (by simpa [stray] using reached)]
    rfl
  · have entry := State.setGroup_group idleTable one seven (Group.openedBy m)
    have same : idle.cfg = s.cfg ∧ idle.instant = s.instant := by simp [idle]
    obtain ⟨cfg, instant⟩ := same
    rw [State.handMember_idle (by rw [idleGroup]; rfl), State.openGroup_eq idleTable one seven, cfg, instant]
    by_cases due : s.cfg.closeInstant m.dating.time ≤ s.instant
    · rw [if_pos due, State.closeGroup_group openedTable one seven, entry]
      by_cases noHold : s.cfg.hold = 0 <;> simp [due, noHold, Group.close, Group.openedBy, State.holdEndNow, idle]
    · rw [if_neg due, entry]
      simp [due, Group.openedBy]

/-! ### The best-ranked member (R98) -/

/-- The first timed member's position is counted from where the search starts. -/
theorem firstTimed_eq (l : List Member) (k : Nat) :
    firstTimed l k = (l.findIdx? (·.dating.timed)).map (· + k) := by
  induction l generalizing k with
  | nil => rfl
  | cons m l ih =>
    rw [firstTimed, List.findIdx?_cons]
    split
    · simp
    · simp [ih, Function.comp_def, Nat.add_assoc, Nat.add_comm 1]

/-- The best-ranked of the listed members is the first timed one, or the first where none is timed (R98). -/
theorem bestRanked_spec (l : List Member) (held : l ≠ []) :
    ∃ f, bestRanked l = some f
      ∧ ((∃ b, l[f]? = some b ∧ b.dating.timed = true ∧ ∀ j y, j < f → l[j]? = some y → y.dating.timed = false)
        ∨ (f = 0 ∧ ∀ y ∈ l, y.dating.timed = false)) := by
  have search := firstTimed_eq l 0
  cases found : l.findIdx? (·.dating.timed) with
  | none =>
    refine ⟨0, by simp [bestRanked, search, found, held], .inr ⟨rfl, fun y hy => ?_⟩⟩
    simpa using List.findIdx?_eq_none_iff.1 found y hy
  | some f =>
    obtain ⟨lt, timed, before⟩ := List.findIdx?_eq_some_iff_getElem.1 found
    refine ⟨f, by simp [bestRanked, search, found], .inl ⟨l[f], by simp, timed, fun j y hj hy => ?_⟩⟩
    obtain ⟨_, rfl⟩ := List.getElem?_eq_some_iff.1 hy
    simpa using before j hj

/-- List order in the fields of R98: date, station, input. -/
theorem Member.before_iff (a b : Member) :
    a.before b = true ↔ a.dating.time.instant < b.dating.time.instant
      ∨ (a.dating.time.instant = b.dating.time.instant
        ∧ (a.station < b.station ∨ (a.station = b.station ∧ a.input < b.input))) :=
  decide_eq_true_iff

theorem Group.takeMember_of_room {x : Group} (room : x.members.length < 16) (m : Member) :
    x.takeMember m = { x with members := insertMember m x.members, firstOut := bestRanked (insertMember m x.members) } :=
  if_pos room

theorem Group.takeMember_of_full {x : Group} (full : 16 ≤ x.members.length) (m : Member) :
    x.takeMember m = { x with overflow := min 255 (x.overflow + 1) } := by
  rw [← satInc_eq]
  exact if_neg (Nat.not_lt.2 full)

/-- Settles O33: by the group's state, and in an OPEN group by the window and the room. -/
theorem memberIsHandedToItsGroup : Obligations.MemberIsHandedToItsGroup := by
  intro s g m table one seven x date stray opened
  refine ⟨fun idle => ?_, fun closed => State.handMember_closed closed m, fun t0 isOpen origin => ?_⟩
  · have handed := (State.handMember_idle idle m).trans (State.openGroup_eq table one seven m)
    exact ⟨fun early => handed.trans (if_neg (Nat.not_le.2 early)), fun due => handed.trans (if_pos due)⟩
  · have handed := State.handMember_opened isOpen origin m
    refine ⟨fun early => handed.trans (if_pos (Nat.lt_sub_of_add_lt early)), fun late => ?_, fun lower upper => ?_⟩
    · have after : t0.instant - s.cfg.wg * 1000 ≤ date := by omega
      exact handed.trans ((if_neg (Nat.not_lt.2 after)).trans (if_pos late))
    · have joins := State.handMember_inWindow isOpen origin (m := m) (Nat.sub_le_of_le_add lower) upper
      refine ⟨fun full => joins.trans (by rw [Group.takeMember_of_full full]), fun room sorted => ?_⟩
      have held : insertMember m x.members ≠ [] := List.ne_nil_of_length_pos (by simp)
      obtain ⟨f, best, ranked⟩ := bestRanked_spec (insertMember m x.members) held
      refine ⟨insertMember m x.members, f, ?_, insertMember_place m x.members sorted, Member.before_iff,
        insertMember_perm m x.members, insertMember_pairwise m x.members sorted, ranked⟩
      rw [joins, Group.takeMember_of_room room, best]

/-! ### The order in which members come (R102) -/

/-- List order is transitive. -/
theorem Member.before_trans {a b c : Member} (h : a.before b = true) (k : b.before c = true) : a.before c = true := by
  simp only [Member.before, decide_eq_true_eq] at *
  omega

/-- Members that differ in date, station or input stand in an order (R98). -/
theorem Member.before_or_before {a b : Member}
    (differ : ¬(a.instant = b.instant ∧ a.station = b.station ∧ a.input = b.input)) :
    a.before b = true ∨ b.before a = true := by
  simp only [Member.before, decide_eq_true_eq]
  omega

/-- Of two members the one before the other may be put in first or last, in any list: wherever the later one stops, the
earlier one has stopped by then. -/
theorem insertMember_comm_of_before {m n : Member} (h : m.before n = true) (l : List Member) :
    insertMember m (insertMember n l) = insertMember n (insertMember m l) := by
  have later : n.before m = false := Member.before_asymm h
  induction l with
  | nil => simp [insertMember, h, later]
  | cons x xs ih =>
    cases hn : n.before x with
    | true =>
      have hm := Member.before_trans h hn
      simp [insertMember, hn, hm, h, later]
    | false =>
      cases hm : m.before x with
      | true => simp [insertMember, hn, hm, later]
      | false => simp [insertMember, hn, hm, ih]

/-- Two members that differ in date, station or input may be put in in either order (R102). -/
theorem insertMember_comm {m n : Member} (differ : ¬(m.instant = n.instant ∧ m.station = n.station ∧ m.input = n.input))
    (l : List Member) : insertMember m (insertMember n l) = insertMember n (insertMember m l) :=
  (Member.before_or_before differ).elim (insertMember_comm_of_before · l) fun h => (insertMember_comm_of_before h l).symm

/-- Two members that a group has room for leave it the same in either order (R102). -/
theorem Group.takeMember_comm {x : Group} (room : x.members.length < 15) {m n : Member}
    (differ : ¬(m.instant = n.instant ∧ m.station = n.station ∧ m.input = n.input)) :
    (x.takeMember m).takeMember n = (x.takeMember n).takeMember m := by
  have first : x.members.length < 16 := by omega
  have second : x.members.length + 1 < 16 := by omega
  simp [Group.takeMember, first, second, insertMember_comm differ]

/-- Two members within the window of an OPEN group, handed one after the other. -/
theorem State.handMember_handMember {s : State} {g : Nat} {t0 : StationTime} (table : s.groups.length = 7) (one : 1 ≤ g)
    (seven : g ≤ 7) (opened : (s.group g).state = .opened) (origin : (s.group g).t0 = some t0) {m n : Member}
    (hm : s.cfg.windowFrom t0 ≤ m.instant ∧ m.instant ≤ s.cfg.windowTo t0)
    (hn : s.cfg.windowFrom t0 ≤ n.instant ∧ n.instant ≤ s.cfg.windowTo t0) :
    (s.handMember g m).handMember g n = s.setGroup g (((s.group g).takeMember m).takeMember n) := by
  have entry := State.setGroup_group table one seven ((s.group g).takeMember m)
  have cfg : (s.setGroup g ((s.group g).takeMember m)).cfg = s.cfg := by simp
  have kept : ((s.group g).takeMember m).state = (s.group g).state ∧ ((s.group g).takeMember m).t0 = (s.group g).t0 := by
    unfold Group.takeMember
    split <;> simp
  obtain ⟨state, t0Kept⟩ := kept
  rw [State.handMember_inWindow opened origin hm.1 hm.2,
    State.handMember_inWindow (by rw [entry, state, opened]) (by rw [entry, t0Kept, origin]) (cfg ▸ hn.1) (cfg ▸ hn.2),
    entry, State.setGroup_setGroup]

/-- Settles O34: either order puts both members in the list, at places that the list order fixes. -/
theorem memberOrderDoesNotMatter : Obligations.MemberOrderDoesNotMatter := by
  intro s g m n t0 table one seven x inWindow opened origin room hm hn differ
  rw [State.handMember_handMember table one seven opened origin hm hn,
    State.handMember_handMember table one seven opened origin hn hm, Group.takeMember_comm room differ]

end Sys2Proof.Machine
end

section
/-! PROOFS. The payload of a request and its checks (R36, R178, R181), the command of each request code (R176, R178), and ACK
GROUP, CLEAR FLAGS and the requests that fail a check (R108, R168, R178, R184). -/

namespace Sys2Proof.Machine

/-! ### Code, parameters and the checks of R178 -/

/-- The parameters are the payload's bytes after code and tag (R36). -/
theorem Request.byteAt_params (r : Request) (k : Nat) : byteAt r.params k = byteAt r.payload (k + 2) := by
  simp [Request.params, byteAt, List.getElem?_drop, Nat.add_comm 2]

theorem Request.fieldAt_params (r : Request) (k n : Nat) : fieldAt r.params k n = fieldAt r.payload (k + 2) n := by
  simp [Request.params, fieldAt, List.drop_drop, Nat.add_comm 2]

theorem Request.acceptable_iff (r : Request) :
    r.acceptable = true ↔ r.payload.length = 2 + parameterLength r.code ∧ parametersInRange r.code r.params = true := by
  rw [Request.acceptable, Bool.and_eq_true, decide_eq_true_iff]

/-- The ranges of the parameters as R178 and R181 tabulate them, code by code, in the bytes of the payload. -/
theorem Request.parametersInRange_iff (r : Request) (code : Nat) :
    parametersInRange code r.params = true ↔
      let x := byteAt r.payload 2
      let y := byteAt r.payload 3
      match code with
      | 3 => x ≤ 30 ∧ 1 ≤ y ∧ y ≤ 3
      | 4 => 1 ≤ x ∧ x ≤ 2
      | 5 => 1 ≤ byteAt r.payload 4 ∧ byteAt r.payload 4 ≤ 2
      | 6 => 1 ≤ x ∧ x ≤ 2
      | 7 => 1 ≤ x ∧ x ≤ 7 ∧ y ≤ 7
      | 8 => 1 ≤ x ∧ x ≤ 7
      | 9 => (x, y) ∈ [(0, 0), (0, 1), (1, 0), (2, 0), (2, 1)]
      | 10 => y ≤ 5
      | 11 => (x = 0 ∧ y ≤ 6) ∨ (x = 1 ∧ y = 255)
      | 12 => x ≤ 1 ∧ y ≤ 1
      | 13 => x ≤ 1
      | 14 => fieldAt r.payload 6 4 ≤ 999999
      | _ => True := by
  have oneOrTwo : ∀ n : Nat, n = 1 ∨ n = 2 ↔ 1 ≤ n ∧ n ≤ 2 := fun n => by omega
  unfold parametersInRange
  dsimp only
  split
  all_goals
    simp only [r.byteAt_params, r.fieldAt_params, Nat.reduceAdd, Bool.and_eq_true, decide_eq_true_eq, oneOrTwo, and_assoc]
  case h_7 =>
    simp only [List.mem_cons, Prod.mk.injEq, List.not_mem_nil, or_false]
    omega

/-! ### The command of each request code (R176, R178) -/

/-- The request code whose requests a command serves (R178). -/
def requestCode : Instr → Option Nat
  | .status => some 1
  | .readTime => some 2
  | .readPeers => some 3
  | .fetchLog => some 4
  | .readArchive => some 5
  | .fetchNotices => some 6
  | .readGroup => some 7
  | .ackGroup => some 8
  | .readTallies => some 9
  | .readShift => some 10
  | .presetTally => some 11
  | .protectTally => some 12
  | .lockDownTally => some 13
  | .setTime _ => some 14
  | .clearFlags => some 15
  | .restart => some 16
  | _ => none

theorem exec_clearFlags_free {s : State} (free : s.clearingHeld = false) :
    exec .clearFlags s = .next (s.serve 15 State.serveClearFlags) := by
  simp [exec, execClearFlags, free]

/-- A command of a request code serves a request of that code; CLEAR_FLAGS where no answer of another is due (log entry
42). -/
theorem exec_of_requestCode {c : Instr} {k : Nat} (code : requestCode c = some k) :
    ∃ owner : State → Request → State, ∀ s : State, (c = .clearFlags → s.clearingHeld = false) →
      exec c s = .next (s.serve k owner) := by
  cases c with
  | status | readTime | readPeers | fetchLog | readArchive | fetchNotices | readGroup | ackGroup | readTallies | readShift
  | presetTally | protectTally | lockDownTally | setTime | restart =>
    cases code
    exact ⟨_, fun _ _ => rfl⟩
  | clearFlags =>
    cases code
    exact ⟨_, fun _ free => exec_clearFlags_free (free rfl)⟩
  | _ => cases code

/-- No answer of a CLEAR FLAGS is due while a request can be served (R176). -/
theorem State.clearingHeld_of_servesNext {s : State} {r : Request} (served : s.servesNext r) :
    s.clearingHeld = false := by
  obtain ⟨running, service, -⟩ := served
  simp [State.clearingHeld, running, service]

theorem State.clearingHeld_of_not_held {s : State} (notHeld : ∀ r, s.req.service ≠ some (.clearFlags r)) :
    s.clearingHeld = false := by
  unfold State.clearingHeld
  split
  · exact absurd ‹_› (notHeld _)
  · rfl

/-- There is none to serve in reset, during a service, or with an empty queue (R176). -/
theorem State.oldestRequest_eq_none {s : State}
    (unserved : s.phase ≠ .running ∨ s.req.service ≠ none ∨ s.req.queue = []) : s.oldestRequest = none := by
  unfold State.oldestRequest
  split
  · rename_i running free
    obtain held | busy | empty := unserved
    · exact absurd running held
    · exact absurd free busy
    · rw [empty]
      rfl
  · rfl

/-- A command of a request code has no effect with no request to serve (R176). -/
theorem exec_of_oldestRequest_eq_none {s : State} {c : Instr} (unserved : s.oldestRequest = none)
    (known : (requestCode c).isSome = true) (free : c = .clearFlags → s.clearingHeld = false) : exec c s = .next s := by
  obtain ⟨k, code⟩ := Option.isSome_iff_exists.1 known
  obtain ⟨owner, run⟩ := exec_of_requestCode code
  rw [run s free, s.serve_none k owner unserved]

theorem exec_unknownRequest_of_none {s : State} (unserved : s.oldestRequest = none) :
    exec .unknownRequest s = .next s := by
  simp [exec, execUnknownRequest, unserved]

theorem exec_unknownRequest_of {s : State} {r : Request} (served : s.servesNext r) (unknown : r.code = 0 ∨ 17 ≤ r.code) :
    exec .unknownRequest s = .next (s.popRequest.answer r .unknownRequest []) := by
  have outside : ¬(1 ≤ r.code ∧ r.code ≤ 16) := by omega
  simp [exec, execUnknownRequest, s.oldestRequest_of r served, outside]

/-! ### ACK GROUP and CLEAR FLAGS (R108, R168, R184) -/

theorem State.serveAckGroup_idle {s : State} {r : Request} (idle : (s.group (byteAt r.params 0)).state = .idle) :
    s.serveAckGroup r = s.answer r .ok [] := by
  simp [State.serveAckGroup, idle]

theorem State.serveAckGroup_opened {s : State} {r : Request} (opened : (s.group (byteAt r.params 0)).state = .opened) :
    s.serveAckGroup r = s.answer r .refusedState [] := by
  simp [State.serveAckGroup, opened]

theorem State.serveAckGroup_closed {s : State} {r : Request} (closed : (s.group (byteAt r.params 0)).state = .closed) :
    s.serveAckGroup r = (s.setGroup (byteAt r.params 0) Group.idle).answer r .ok [] := by
  simp [State.serveAckGroup, closed]

/-- A mask clears each flag that it names, CONFIG_FAULT excepted (R184). -/
theorem StickyFlags.clearMask_getElem? (f : StickyFlags) (mask k : Nat) :
    (f.clearMask mask).list[k]? = f.list[k]?.map fun b => if k = 8 then b else b && !mask.testBit k := by
  match k with
  | 0 | 1 | 2 | 3 | 4 | 5 | 6 | 7 | 8 => rfl
  | _ + 9 => rfl

theorem namesStoreFault_iff (mask : Nat) :
    namesStoreFault mask = true ↔ mask.testBit 4 = true ∨ mask.testBit 5 = true := by
  rw [namesStoreFault, Bool.or_eq_true]

/-- The answer of a CLEAR FLAGS in service comes first in the next microsecond, where no station second is due (log entry
42). -/
theorem exec_elapsedMicrosecond_endClearFlags {s : State} (p : MicroPart) (o : SecondOrder) (running : s.phase = .running)
    (noSecond : s.tb.secondDue = none) (advances : p ≠ .signal) :
    exec (.elapsedMicrosecond p o) s = exec (.elapsedMicrosecond p o) s.endClearFlags := by
  rw [exec_elapsedMicrosecond_running s p o running, exec_elapsedMicrosecond_running _ p o (by simpa using running)]
  have ended : s.endMicrosecond o = s.endClearFlags.endMicrosecond o := by
    rw [State.endMicrosecond_of_none s o noSecond, State.endMicrosecond_of_none _ o (by simpa using noSecond),
      State.endClearFlags_twice]
  cases p with
  | signal => exact absurd rfl advances
  | whole => simp only [State.microsecond, ended]
  | advance => simp only [State.microsecond, ended]

/-- Settles O58: the payload's checks by code, then the requests by what the part does with the oldest one. -/
theorem groupFlagAndBadRequestsAreAnswered : Obligations.GroupFlagAndBadRequestsAreAnswered := by
  refine ⟨fun r => ?checks, fun s => ⟨rfl, ?taken⟩, ?unserved, ?held, fun s r served => ?served⟩
  case checks =>
    intro n x y sound
    refine ⟨rfl, rfl, r.byteAt_params, fun one sixteen => ?_⟩
    rw [r.acceptable_iff, r.parametersInRange_iff]
    generalize r.code = k at one sixteen
    interval_cases k <;> simp [sound, parameterLength, n, x, y]
  case taken =>
    rintro r ⟨-, -, oldest⟩
    obtain ⟨rest, queue⟩ := List.head?_eq_some_iff.1 oldest
    simp [State.popRequest, queue]
  case unserved =>
    intro s c unserved command
    have oldest := State.oldestRequest_eq_none unserved
    rcases command with listed | ⟨gs, rfl⟩ | ⟨rfl, notHeld⟩
    · have known : ((requestCode c).isSome = true ∧ c ≠ .clearFlags) ∨ c = .unknownRequest := by
        refine (?_ : ∀ c ∈ _, ((requestCode c).isSome = true ∧ c ≠ .clearFlags) ∨ c = .unknownRequest) c listed
        simp [requestCode]
      rcases known with ⟨known, other⟩ | rfl
      · exact exec_of_oldestRequest_eq_none oldest known fun clear => absurd clear other
      · exact exec_unknownRequest_of_none oldest
    · exact exec_of_oldestRequest_eq_none oldest rfl nofun
    · exact exec_of_oldestRequest_eq_none oldest rfl fun _ => State.clearingHeld_of_not_held notHeld
  case held =>
    intro s r running held answered
    have ends : s.endClearFlags = answered := s.endClearFlags_of r held
    rw [← ends]
    exact ⟨exec_clearFlags_held s r running held, fun noSecond p o advances =>
      exec_elapsedMicrosecond_endClearFlags p o running noSecond advances⟩
  case served =>
    intro u g mask
    refine ⟨fun code ok => ?ack, fun code ok => ?clear, exec_unknownRequest_of served, fun k c command => ?refused⟩
    case ack =>
      have run : exec .ackGroup s = .next (u.serveAckGroup r) := State.next_serve_of State.serveAckGroup served ok code
      rw [run]
      exact ⟨fun idle => congrArg _ (State.serveAckGroup_idle idle),
        fun opened => congrArg _ (State.serveAckGroup_opened opened),
        fun closed => congrArg _ (State.serveAckGroup_closed closed)⟩
    case clear =>
      have run : exec .clearFlags s = .next (u.serveClearFlags r) := by
        rw [exec_clearFlags_free (State.clearingHeld_of_servesNext served), State.next_serve_of _ served ok code]
      refine ⟨u.serveClearFlags r, run, rfl, fun i b flag => ?_, fun named => ?_, fun four five => ?_⟩
      · refine (StickyFlags.clearMask_getElem? s.flags mask i).trans ?_
        rw [flag]
        rfl
      · exact if_pos ((namesStoreFault_iff mask).2 named)
      · exact if_neg (by rw [namesStoreFault_iff, four, five]; decide)
    case refused =>
      have code : requestCode c = some k := by
        rcases command with listed | ⟨gs, setTime⟩
        · refine (?_ : ∀ p ∈ _, requestCode p.2 = some p.1) (k, c) listed
          simp [requestCode]
        · obtain ⟨rfl, rfl⟩ := Prod.mk.inj setTime
          rfl
      obtain ⟨owner, run⟩ := exec_of_requestCode code
      rw [run s fun _ => State.clearingHeld_of_servesNext served]
      refine ⟨fun asked bad => ?_, fun other => by rw [s.serve_other r k owner served other]⟩
      subst asked
      rw [s.serve_refused r owner served bad]

end Sys2Proof.Machine
end

section
/-! PROOFS. The run tallies and the open shift (R118 to R129): what every operation outside the tally unit leaves of them. -/

namespace Sys2Proof.Machine

/-! ### Numbers in lists of seven, one for each mode (R111, R119) -/

theorem Mode.code_lt (m : Mode) : m.code < 7 := by cases m <;> decide

/-- No number of a list exceeds their sum. -/
theorem getD_le_sum (l : List Nat) (i : Nat) : l.getD i 0 ≤ l.sum := by
  induction l generalizing i with
  | nil => simp
  | cons x xs ih =>
    cases i with
    | zero => simp
    | succ i =>
      have := ih i
      simp only [List.getD_cons_succ, List.sum_cons]
      omega

/-- A number changed in a list changes the sum by as much. -/
theorem sum_modifyAt (f : Nat → Nat) (l : List Nat) (i : Nat) (h : i < l.length) :
    (modifyAt f l i).sum + l.getD i 0 = l.sum + f (l.getD i 0) := by
  induction l generalizing i with
  | nil => simp at h
  | cons x xs ih =>
    cases i with
    | zero =>
      simp only [modifyAt, List.getD_cons_zero, List.sum_cons]
      omega
    | succ i =>
      have := ih i (by simpa using h)
      simp only [modifyAt, List.getD_cons_succ, List.sum_cons]
      omega

theorem getD_modifyAt_self (f : Nat → Nat) (l : List Nat) (i : Nat) (h : i < l.length) :
    (modifyAt f l i).getD i 0 = f (l.getD i 0) := by
  rw [modifyAt_eq_set f l i 0]
  simp [h]

/-- A number moved between two modes of seven, in room enough: the sum stays, and the new mode has been credited it
(R120). -/
theorem moveBetween_spec {top d : Nat} {l : List Nat} (old new : Mode) (seven : l.length = 7) (room : l.sum ≤ top)
    (covered : d ≤ l.getD old.code 0) :
    (moveBetween top d l old new).length = 7 ∧ (moveBetween top d l old new).sum = l.sum
      ∧ d ≤ (moveBetween top d l old new).getD new.code 0 := by
  have taken := sum_modifyAt (· - d) l old.code (seven ▸ old.code_lt)
  have length : (modifyAt (· - d) l old.code).length = 7 := by simpa using seven
  rw [moveBetween]
  generalize modifyAt (· - d) l old.code = rest at taken length
  have given := sum_modifyAt (satAdd top · d) rest new.code (length ▸ new.code_lt)
  have credited := getD_modifyAt_self (satAdd top · d) rest new.code (length ▸ new.code_lt)
  have bound := getD_le_sum rest new.code
  have whole : satAdd top (rest.getD new.code 0) d = rest.getD new.code 0 + d := Nat.min_eq_left (by omega)
  refine ⟨by simpa using length, ?_, ?_⟩ <;> omega

/-! ### What the laws of the run tallies depend on (R118, R119, R126) -/

/-- What the laws of the run tallies look at, but for the store. -/
structure RunView where
  phase          : Phase
  lockLife       : Bool
  lockService    : Bool
  protectLife    : Bool
  protectService : Bool
  lifetime       : List Nat
  accepted       : Mode
  qual           : Option StatusTest
  candidate      : Option Candidate
  durations      : List Nat
  powered        : Nat
  elapsed        : Nat

/-- The view of a state. -/
def State.runView (s : State) : RunView :=
  { phase := s.phase, lockLife := s.lockLife, lockService := s.lockService, protectLife := s.tally.protectLife,
    protectService := s.tally.protectService, lifetime := s.tally.lifetime, accepted := s.tally.accepted,
    qual := s.tally.qual, candidate := s.tally.candidate, durations := s.shift.current.durations,
    powered := s.shift.current.powered, elapsed := s.tb.elapsed }

@[simp] theorem State.runView_eq_iff (s t : State) :
    t.runView = s.runView ↔ t.phase = s.phase ∧ t.lockLife = s.lockLife ∧ t.lockService = s.lockService
      ∧ t.tally.protectLife = s.tally.protectLife ∧ t.tally.protectService = s.tally.protectService
      ∧ t.tally.lifetime = s.tally.lifetime ∧ t.tally.accepted = s.tally.accepted ∧ t.tally.qual = s.tally.qual
      ∧ t.tally.candidate = s.tally.candidate ∧ t.shift.current.durations = s.shift.current.durations
      ∧ t.shift.current.powered = s.shift.current.powered ∧ t.tb.elapsed = s.tb.elapsed := by
  simp [State.runView]

/-- What holds the checkpoints: the array and the staging image's content (R155, R164). -/
def Store.held (st : Store) : List Page × Option Checkpoint := (st.pages, st.image.content)

@[simp] theorem Store.held_eq_iff (st st' : Store) :
    st'.held = st.held ↔ st'.pages = st.pages ∧ st'.image.content = st.image.content := by
  simp [Store.held]

theorem Store.mem_checkpoints (st : Store) (c : Checkpoint) :
    c ∈ st.checkpoints ↔ st.image.content = some c
      ∨ ∃ p ∈ st.pages, ∃ seq, Slot.valid seq (.checkpoint c) ∈ p.slots := by
  simp only [Store.checkpoints, List.mem_append, Option.mem_toList, List.mem_flatMap, List.mem_filterMap]
  refine or_congr .rfl (exists_congr fun p => and_congr_right fun _ => ⟨?_, fun ⟨seq, slot⟩ => ⟨_, slot, rfl⟩⟩)
  rintro ⟨x, slot, e⟩
  split at e
  · rename_i seq _
    obtain rfl := Option.some.inj e
    exact ⟨seq, slot⟩
  · cases e

/-- Every checkpoint that `st` holds was held before or holds the open shift of `s` (R162). -/
def State.Supplies (s : State) (st : Store) : Prop :=
  ∀ c ∈ st.checkpoints, c ∈ s.store.checkpoints ∨ c.shift = s.shift.current

theorem State.Supplies.of_held {s : State} {st : Store} (held : st.held = s.store.held) : s.Supplies st := by
  obtain ⟨pages, content⟩ := (Store.held_eq_iff _ _).1 held
  intro c h
  exact .inl (by rwa [Store.checkpoints, pages, content] at h)

/-! ### Operations that leave the run tallies alone -/

/-- The phase and the lock-down and protect bits stay as they are. -/
structure State.KeepsBits (s t : State) : Prop where
  phase          : t.phase = s.phase
  lockLife       : t.lockLife = s.lockLife
  lockService    : t.lockService = s.lockService
  protectLife    : t.tally.protectLife = s.tally.protectLife
  protectService : t.tally.protectService = s.tally.protectService

theorem State.KeepsBits.trans {s t u : State} (h : s.KeepsBits t) (k : t.KeepsBits u) : s.KeepsBits u where
  phase := k.phase.trans h.phase
  lockLife := k.lockLife.trans h.lockLife
  lockService := k.lockService.trans h.lockService
  protectLife := k.protectLife.trans h.protectLife
  protectService := k.protectService.trans h.protectService

/-- From `s` to `t` the bits and the lifetime tallies stay as they are, and what the laws of the tallies and of the open
shift ask of `s` holds of `t`. -/
structure State.KeepsRun (s t : State) : Prop where
  bits        : s.KeepsBits t
  lifetime    : t.tally.lifetime = s.tally.lifetime
  unsaturated : s.Unsaturated → t.Unsaturated
  balanced    : s.ShiftBalanced → t.ShiftBalanced

theorem State.KeepsRun.trans {s t u : State} (h : s.KeepsRun t) (k : t.KeepsRun u) : s.KeepsRun u where
  bits := h.bits.trans k.bits
  lifetime := k.lifetime.trans h.lifetime
  unsaturated := k.unsaturated ∘ h.unsaturated
  balanced := k.balanced ∘ h.balanced

/-- The laws of the open shift look at the view and the checkpoints alone. -/
theorem State.ShiftBalanced.of_view {s t : State} (h : s.ShiftBalanced) (view : t.runView = s.runView)
    (stored : s.Supplies t.store) : t.ShiftBalanced := by
  obtain ⟨-, -, -, -, -, -, accepted, qual, candidate, durations, powered, elapsed⟩ := (s.runView_eq_iff t).1 view
  obtain ⟨openShift, credited, held⟩ := h
  refine ⟨?_, ?_, fun c hc => ?_⟩
  · rw [ShiftRecord.Balanced, durations, powered]
    exact openShift
  · rw [State.CountsCredited, durations, accepted, qual, candidate, elapsed]
    exact credited
  · rcases stored c hc with before | now
    · exact held c before
    · exact now ▸ openShift

/-- An operation that leaves the view and stores no checkpoint but of the open shift. -/
theorem State.KeepsRun.of_view {s t : State} (view : t.runView = s.runView) (stored : s.Supplies t.store) :
    s.KeepsRun t := by
  have balanced := fun h : s.ShiftBalanced => h.of_view view stored
  obtain ⟨phase, lockLife, lockService, protectLife, protectService, lifetime, accepted, qual, candidate, -⟩ :=
    (s.runView_eq_iff t).1 view
  refine ⟨⟨phase, lockLife, lockService, protectLife, protectService⟩, lifetime, fun h => ?_, balanced⟩
  rw [State.Unsaturated, lifetime, accepted, qual, candidate]
  exact h

/-- An operation that leaves the view, the array and the image's content. -/
theorem State.KeepsRun.of_eq {s t : State} (same : t.runView = s.runView ∧ t.store.held = s.store.held) :
    s.KeepsRun t :=
  .of_view same.1 (.of_held same.2)

theorem State.KeepsRun.refl (s : State) : s.KeepsRun s := .of_eq ⟨rfl, rfl⟩

/-- Whatever follows without touching any of it. -/
theorem State.KeepsRun.then_eq {s t u : State} (h : s.KeepsRun t)
    (same : u.runView = t.runView ∧ u.store.held = t.store.held) : s.KeepsRun u :=
  h.trans (.of_eq same)

/-- Whatever came before without touching any of it. -/
theorem State.KeepsRun.after {s t u : State} (k : t.KeepsRun u)
    (same : t.runView = s.runView ∧ t.store.held = s.store.held) : s.KeepsRun u :=
  State.KeepsRun.trans (.of_eq same) k

theorem State.KeepsRun.send {s t : State} (h : s.KeepsRun t) (k : TelegramKind) (target : Nat) (p : List Byte) :
    s.KeepsRun (t.send k target p) :=
  h.then_eq (by simp)

theorem State.KeepsRun.answer {s t : State} (h : s.KeepsRun t) (r : Request) (st : Status) (c : List Byte) :
    s.KeepsRun (t.answer r st c) :=
  h.then_eq (by simp)

theorem State.append_keepsRun (s : State) (d : Dating) (b : RecordBody) : s.KeepsRun (s.append d b) :=
  .of_eq (by simp)

theorem State.appendNow_keepsRun (s : State) (b : RecordBody) : s.KeepsRun (s.appendNow b) := .of_eq (by simp)

/-- A change of the open shift outside the durations (R119). -/
theorem State.modShift_keepsRun (s : State) (f : ShiftRecord → ShiftRecord)
    (apart : (f s.shift.current).durations = s.shift.current.durations
      ∧ (f s.shift.current).powered = s.shift.current.powered) : s.KeepsRun (s.modShift f) :=
  .of_eq (by simp [State.modShift, apart])

/-! ### Checkpoints (R162, R164, R168) -/

/-- A request fills the image with live state or leaves its content (R164). -/
theorem State.requestCheckpoint_content (s : State) (powerFail : Bool) :
    (s.requestCheckpoint powerFail).store.image.content = s.store.image.content
      ∨ (s.requestCheckpoint powerFail).store.image.content = some s.snapshot := by
  unfold State.requestCheckpoint
  split
  · exact .inl rfl
  · split
    · exact .inr (by simp [State.fillImage])
    · dsimp only
      split
      · exact .inr (by simp [State.fillImage])
      · exact .inr rfl
    · exact .inl rfl

/-- The array kept, and the image's content kept, emptied or filled from the open shift. -/
theorem State.Supplies.of_content {s : State} {st : Store} (pages : st.pages = s.store.pages)
    (content : st.image.content = s.store.image.content ∨ st.image.content = none
      ∨ st.image.content = some s.snapshot) : s.Supplies st := by
  intro c h
  rw [Store.mem_checkpoints, pages] at h
  rw [Store.mem_checkpoints]
  rcases h with image | slot
  · rcases content with e | e | e <;> rw [e] at image
    · exact .inl (.inl image)
    · cases image
    · exact .inr (congrArg Checkpoint.shift (Option.some.inj image)).symm
  · exact .inl (.inr slot)

theorem State.requestCheckpoint_keepsRun (s : State) (powerFail : Bool) :
    s.KeepsRun (s.requestCheckpoint powerFail) :=
  .of_view (by simp) (.of_content (by simp) ((s.requestCheckpoint_content powerFail).imp_right .inr))

theorem State.KeepsRun.requestCheckpoint {s t : State} (h : s.KeepsRun t) (powerFail : Bool) :
    s.KeepsRun (t.requestCheckpoint powerFail) :=
  h.trans (t.requestCheckpoint_keepsRun powerFail)

theorem State.dropCheckpoint_keepsRun (s : State) : s.KeepsRun s.dropCheckpoint :=
  .of_view (by simp) (.of_content rfl (.inr (.inl rfl)))

theorem State.dropEntry_keepsRun (s : State) (k : EntryKind) : s.KeepsRun (s.dropEntry k) := by
  unfold State.dropEntry
  split
  · exact s.dropCheckpoint_keepsRun
  · exact .of_eq ⟨rfl, rfl⟩

theorem State.KeepsRun.placeImage {s t : State} (h : s.KeepsRun t) : s.KeepsRun t.placeImage := h.then_eq (by simp)

/-- A region's stopping drops checkpoints at most (R168). -/
theorem State.stopWrites_keepsRun (s : State) (r : Region) : s.KeepsRun (s.stopWrites r) := by
  have dropped : ∀ (l : List Entry) (u : State), s.KeepsRun u → s.KeepsRun (l.foldl (fun u e => u.dropEntry e.kind) u) := by
    intro l
    induction l with
    | nil => exact fun u h => h
    | cons e l ih => exact fun u h => ih _ (h.trans (u.dropEntry_keepsRun e.kind))
  have gone := dropped (s.store.queue.filter fun e => decide (e.kind.region = r))
    { s with store := { s.store with queue := s.store.queue.filter fun e => !decide (e.kind.region = r) } }
    (.of_eq ⟨rfl, rfl⟩)
  unfold State.stopWrites
  dsimp only
  split
  · exact (gone.trans (State.dropCheckpoint_keepsRun _)).placeImage
  · exact gone.placeImage

/-! ### The groups and the inputs (R67, R69, R71, R73, R99 to R105) -/

theorem State.closeGroup_keepsRun (s : State) (g : Nat) : s.KeepsRun (s.closeGroup g) := by
  have closed : s.KeepsRun (s.setGroup g ((s.group g).close s.holdEndNow)) := .of_eq (by simp)
  unfold State.closeGroup
  dsimp only
  split
  · exact closed
  · split
    · exact (closed.trans (State.appendNow_keepsRun _ _)).then_eq ⟨rfl, rfl⟩
    · exact closed.trans (State.appendNow_keepsRun _ _)

theorem State.closeIfDue_keepsRun (s : State) (g : Nat) : s.KeepsRun (s.closeIfDue g) := by
  unfold State.closeIfDue
  split
  · exact s.closeGroup_keepsRun g
  · exact .refl s

theorem State.closeDue_keepsRun (s : State) (gs : List Nat) : s.KeepsRun (s.closeDue gs) := by
  induction gs generalizing s with
  | nil => exact .refl s
  | cons g gs ih => exact (s.closeIfDue_keepsRun g).trans (ih _)

theorem State.openGroup_keepsRun (s : State) (g : Nat) (m : Member) : s.KeepsRun (s.openGroup g m) := by
  have opened : s.KeepsRun (s.setGroup g (Group.openedBy m)) := .of_eq (by simp)
  unfold State.openGroup
  dsimp only
  split
  · exact opened.trans (State.closeGroup_keepsRun _ g)
  · exact opened

theorem State.handMember_keepsRun (s : State) (g : Nat) (m : Member) : s.KeepsRun (s.handMember g m) := by
  have strays : ∀ why, s.KeepsRun (s.strayMember g m why) := fun _ => s.appendNow_keepsRun _
  unfold State.handMember
  dsimp only
  split
  · split
    · exact strays _
    · split
      · exact strays _
      · exact .of_eq (by simp)
  · exact strays _
  · exact s.openGroup_keepsRun g m

theorem State.reportInput_keepsRun (s : State) (k : InputKind) (i : Nat) (l : Bool) (d : Dating) (x : Bool) :
    s.KeepsRun (s.reportInput k i l d x) := by
  unfold State.reportInput
  dsimp only
  split
  · exact s.append_keepsRun _ _
  · exact (s.append_keepsRun _ _).send _ _ _

theorem State.takeTrip_keepsRun (s : State) (i seq : Nat) (d : Dating) : s.KeepsRun (s.takeTrip i seq d) := by
  have counted := s.modShift_keepsRun ShiftRecord.countTrip ⟨rfl, rfl⟩
  unfold State.takeTrip
  dsimp only
  split
  · exact counted
  · exact counted.trans (State.handMember_keepsRun _ _ _)

theorem State.inputChange_keepsRun (s : State) (i : Nat) (t : InputTest) (x : Bool) :
    s.KeepsRun (s.inputChange i t x) := by
  have told := s.reportInput_keepsRun .change i t.level t.dating x
  unfold State.inputChange
  dsimp only
  split
  · exact told.trans (State.takeTrip_keepsRun ..)
  · exact told

theorem State.inputEvent_keepsRun (s : State) (i : Nat) (c : InputChannel) (t : InputTest) :
    s.KeepsRun (s.inputEvent i c t) := by
  have linked : s.KeepsRun (s.associate i t) := by
    unfold State.associate
    split <;> exact .of_eq ⟨rfl, rfl⟩
  have set : ∀ d, s.KeepsRun ((s.associate i t).setInput i d) := fun _ => linked.then_eq ⟨rfl, rfl⟩
  unfold State.inputEvent
  dsimp only
  split
  · exact set _
  · split
    · exact (set _).trans (State.reportInput_keepsRun ..)
    · exact (set _).trans (State.inputChange_keepsRun ..)

theorem State.sampleInput_keepsRun (s : State) (lines : BitVec 16) (i : Nat) : s.KeepsRun (s.sampleInput lines i) := by
  unfold State.sampleInput
  dsimp only
  split
  · split
    · exact .of_eq ⟨rfl, rfl⟩
    · unfold State.inputQualifies
      split
      · exact .of_eq ⟨rfl, rfl⟩
      · exact s.inputEvent_keepsRun ..
  · exact .refl s

theorem State.sampleInputs_keepsRun (s : State) (lines : BitVec 16) (order : List Nat) :
    s.KeepsRun (order.foldl (fun t i => t.sampleInput lines i) s) := by
  induction order generalizing s with
  | nil => exact .refl s
  | cons i order ih => exact (s.sampleInput_keepsRun lines i).trans (ih _)

/-! ### The shift unit (R113, R136 to R151) -/

/-- A shift is opened with its durations 0 and every ds 0 (R113, R136, R140). -/
theorem State.openShift_keepsRun (s : State) (number : Option Nat) (d : Dating) (cause : OpenCause)
    (crew : Option (Nat × StationTime)) :
    s.KeepsRun (s.openShift (ShiftRecord.opening number d cause crew)).zeroDs where
  bits := ⟨rfl, rfl, rfl, rfl, rfl⟩
  lifetime := rfl
  unsaturated := by
    rintro ⟨seven, room, latched, waiting⟩
    refine ⟨seven, room, fun t h => ?_, fun c h => ?_⟩
    · obtain ⟨q, hq, rfl⟩ := Option.map_eq_some_iff.1 h
      exact latched q hq
    · obtain ⟨q, hq, rfl⟩ := Option.map_eq_some_iff.1 h
      exact waiting q hq
  balanced := by
    rintro ⟨-, ⟨latched, waiting, order⟩, held⟩
    refine ⟨⟨rfl, rfl, Nat.zero_le _⟩, ⟨fun t h => ?_, fun c h => ?_, fun t c h h' => ?_⟩, held⟩
    · obtain ⟨q, hq, rfl⟩ := Option.map_eq_some_iff.1 h
      exact ⟨Nat.zero_le _, (latched q hq).2⟩
    · obtain ⟨q, hq, rfl⟩ := Option.map_eq_some_iff.1 h
      exact ⟨Nat.zero_le _, (waiting q hq).2⟩
    · obtain ⟨q, hq, rfl⟩ := Option.map_eq_some_iff.1 h
      obtain ⟨p, hp, rfl⟩ := Option.map_eq_some_iff.1 h'
      exact ⟨(order q p hq hp).1, le_refl 0⟩

theorem State.closeShift_keepsRun (s : State) (r : ShiftRecord) (t : StationTime) (c : CloseCause)
    (number : Option Nat) (d : Dating) (cause : OpenCause) (crew : Option (Nat × StationTime)) :
    s.KeepsRun (s.closeShift r t c (ShiftRecord.opening number d cause crew)) := by
  have queued : s.KeepsRun ((s.appendNow (.shiftClose r.number c)).queueShift ⟨r, t, s.tb.g, c⟩) := .of_eq (by simp)
  exact (queued.trans (State.openShift_keepsRun _ number d cause crew)).requestCheckpoint false

theorem State.evaluateDepth_keepsRun (k : Nat) (s : State) : s.KeepsRun (s.evaluateDepth k) := by
  induction k generalizing s with
  | zero => exact .refl s
  | succ k ih =>
    unfold State.evaluateDepth
    split
    · split
      · exact (s.closeShift_keepsRun ..).trans (ih _)
      · split <;> exact .of_eq ⟨rfl, rfl⟩
    · exact .refl s

theorem State.evaluate_keepsRun (s : State) : s.KeepsRun s.evaluate := s.evaluateDepth_keepsRun 2

theorem State.firstEvaluation_keepsRun (s : State) : s.KeepsRun s.firstEvaluation := by
  have evaluates : ∀ u : State, u.runView = s.runView ∧ u.store.held = s.store.held → s.KeepsRun u.evaluate :=
    fun u same => u.evaluate_keepsRun.after same
  have ended : s.KeepsRun s.endDeferral := .of_eq ⟨rfl, rfl⟩
  unfold State.firstEvaluation
  dsimp only
  split
  · exact evaluates _ ⟨rfl, rfl⟩
  · exact evaluates _ ⟨rfl, rfl⟩
  · exact evaluates _ ⟨rfl, rfl⟩
  · split
    · exact evaluates _ ⟨rfl, rfl⟩
    · exact (ended.trans (State.closeShift_keepsRun ..)).trans (State.evaluate_keepsRun _)

theorem State.takeSignOff_keepsRun (s : State) (n : HandoverNotice) : s.KeepsRun (s.takeSignOff n) := by
  unfold State.takeSignOff
  split
  · split <;> exact .of_eq ⟨rfl, rfl⟩
  · exact .of_eq ⟨rfl, rfl⟩

theorem State.takeTakeOver_keepsRun (s : State) (n : HandoverNotice) : s.KeepsRun (s.takeTakeOver n) := by
  unfold State.takeTakeOver
  dsimp only
  split
  · split
    · exact .of_eq ⟨rfl, rfl⟩
    · exact (s.closeShift_keepsRun ..).trans (State.evaluate_keepsRun _)
  · split <;> exact .of_eq ⟨rfl, rfl⟩

theorem State.takeHandover_keepsRun (s : State) (n : HandoverNotice) : s.KeepsRun (s.takeHandover n) := by
  unfold State.takeHandover
  split
  · exact .of_eq ⟨rfl, rfl⟩
  · split
    · exact s.takeSignOff_keepsRun n
    · exact s.takeTakeOver_keepsRun n

theorem State.tellQuality_keepsRun (s : State) (old : AgreementState) : s.KeepsRun (s.tellQuality old) := by
  unfold State.tellQuality
  split <;> exact .of_eq ⟨rfl, rfl⟩

theorem State.tellLeftFree_keepsRun (s : State) (old : AgreementState) : s.KeepsRun (s.tellLeftFree old) := by
  unfold State.tellLeftFree
  split
  · exact s.firstEvaluation_keepsRun
  · exact .refl s

/-! ### Steps and seconds of station time (R3, R6, R11) -/

theorem State.stepped_keepsRun (s : State) (c : Int) (w : StepCause) (n : AgreementState) (gs : List Nat) :
    s.KeepsRun (s.stepped c w n gs) := by
  have jumped : s.KeepsRun ((s.jump (stepTarget s.instant c) n).writeA s.agr.f) := .of_eq ⟨rfl, rfl⟩
  have logged : s.KeepsRun (s.stepLogged c w n gs) :=
    (jumped.trans (State.closeDue_keepsRun _ gs)).trans (State.appendNow_keepsRun _ _)
  have counted := logged.trans
    (State.modShift_keepsRun _ _ ⟨rfl, rfl⟩ : State.KeepsRun _ (State.countStep _ ((stepTarget s.instant c : Int) - s.instant)))
  rw [State.stepped_eq_stepLogged]
  exact (counted.trans (State.tellQuality_keepsRun _ _)).trans (State.tellLeftFree_keepsRun _ _)

/-- A station second signalled, without its round (R11, R12). -/
theorem State.queueSecond_keepsRun (s : State) : s.KeepsRun s.startPulse.queueBeacon :=
  .of_eq (by simp [State.startPulse_tb])

theorem State.step_keepsRun (s : State) (c : Int) (w : StepCause) (n : AgreementState) (gs : List Nat) :
    s.KeepsRun (State.step s c w n gs) := by
  rw [State.step_eq_stepped]
  split
  · exact ((s.stepped_keepsRun c w n gs).trans (State.queueSecond_keepsRun _)).trans (State.evaluate_keepsRun _)
  · exact s.stepped_keepsRun c w n gs

theorem State.enterState_keepsRun (s : State) (n : AgreementState) : s.KeepsRun (s.enterState n) := by
  have told := (s.setAgreement n).tellQuality_keepsRun s.agr.state
  exact (told.trans (State.tellLeftFree_keepsRun _ _)).after ⟨rfl, rfl⟩

theorem State.applyDecision_keepsRun (s : State) (d : Decision) (gs : List Nat) : s.KeepsRun (s.applyDecision d gs) := by
  have enters : ∀ u : State, u.runView = s.runView ∧ u.store.held = s.store.held → s.KeepsRun (u.enterState d.state) :=
    fun u same => (u.enterState_keepsRun _).after same
  unfold State.applyDecision
  dsimp only
  split
  case h_4 => exact ((s.setCounts d).step_keepsRun ..).after ⟨rfl, rfl⟩
  all_goals exact enters _ ⟨rfl, rfl⟩

theorem State.roundIfBoundary_keepsRun (s : State) (d : SecondDue) (gs : List Nat) :
    s.KeepsRun (s.roundIfBoundary d gs) := by
  have begun : s.KeepsRun (s.endHold.mapPeers Peer.takeStock) := .of_eq ⟨rfl, rfl⟩
  unfold State.roundIfBoundary
  split
  · exact (begun.trans (State.applyDecision_keepsRun _ _ gs)).then_eq ⟨rfl, rfl⟩
  · exact .refl s

theorem State.deliverSecond_keepsRun (s : State) (o : SecondOrder) : s.KeepsRun (s.deliverSecond o) := by
  unfold State.deliverSecond
  split
  · exact .refl s
  · have taken : s.KeepsRun s.takeSecond := .of_eq ⟨rfl, rfl⟩
    have queued := taken.trans s.takeSecond.queueSecond_keepsRun
    dsimp only
    split
    · exact (queued.trans (State.evaluate_keepsRun _)).trans (State.roundIfBoundary_keepsRun ..)
    · exact (queued.trans (State.roundIfBoundary_keepsRun ..)).trans (State.evaluate_keepsRun _)

/-- The elapsed count goes on (R1): every onset stays past. -/
theorem State.tick_keepsRun (s : State) : s.KeepsRun s.tick where
  bits := ⟨rfl, rfl, rfl, rfl, rfl⟩
  lifetime := rfl
  unsaturated := id
  balanced := by
    rintro ⟨openShift, ⟨latched, waiting, order⟩, held⟩
    refine ⟨openShift, ⟨fun t h => ?_, fun c h => ?_, order⟩, held⟩
    · exact ⟨(latched t h).1, Nat.le_succ_of_le (latched t h).2⟩
    · exact ⟨(waiting c h).1, Nat.le_succ_of_le (waiting c h).2⟩

theorem State.microsecond_keepsRun (s : State) (p : MicroPart) (o : SecondOrder) : s.KeepsRun (s.microsecond p o) := by
  have ended : s.KeepsRun (s.endMicrosecond o) := (s.deliverSecond_keepsRun o).then_eq (by simp [State.endMicrosecond])
  have ticked := ended.trans (State.tick_keepsRun _)
  cases p with
  | whole => exact ticked.trans (State.deliverSecond_keepsRun _ o)
  | advance => exact ticked
  | signal => exact s.deliverSecond_keepsRun o

end Sys2Proof.Machine
end

section
/-! PROOFS. The run tallies and the open shift over the bus, the record store and the requests, and what the tally unit's own
operations do to them (R112 to R129). -/

namespace Sys2Proof.Machine

/-! ### Receptions (R32, R97) -/

theorem State.route_keepsRun (s : State) (ch : Channel) (r : Received) (p : Stamp) : s.KeepsRun (s.route ch r p) := by
  have member : s.KeepsRun (s.offerMember r) := by
    unfold State.offerMember
    dsimp only
    split
    · exact s.handMember_keepsRun _ _
    · exact .refl s
  unfold State.route
  split
  case h_1 => exact .of_eq (by simp)
  case h_2 => exact member.then_eq (by simp)
  case h_3 => exact s.takeHandover_keepsRun _
  case h_4 => split <;> exact .of_eq (by simp)
  case h_5 => split <;> exact .of_eq ⟨rfl, rfl⟩
  case h_6 => exact .refl s

theorem State.receive_keepsRun (s : State) (ch : Channel) (r : Received) (p : Stamp) :
    s.KeepsRun (s.receive ch r p) := by
  unfold State.receive
  dsimp only
  split
  · exact (State.route_keepsRun (s.setPeer _ _) ch r p).after ⟨rfl, rfl⟩
  · split <;> exact .of_eq ⟨rfl, rfl⟩

/-! ### The array and the image (R154, R157, R158, R165, R167) -/

@[simp] theorem Store.setRegion_held (st : Store) (r : Region) (v : RegionState) : (st.setRegion r v).held = st.held := by
  cases r <;> rfl

@[simp] theorem Store.prepareReady_held (st : Store) (r : Region) : (st.prepareReady r).held = st.held := by
  unfold Store.prepareReady
  split
  · exact st.setRegion_held r _
  · rw [Store.queueOldest_eq]
    rfl

@[simp] theorem Store.moveAppendPoint_held (st : Store) (r : Region) : (st.moveAppendPoint r).held = st.held := by
  have changed : ∀ u : Store, (u.pageChange r).held = u.held := fun u => by
    unfold Store.pageChange
    rw [Store.prepareReady_held]
    split
    · exact u.setRegion_held r _
    · rfl
  unfold Store.moveAppendPoint
  dsimp only
  split
  · exact st.setRegion_held r _
  · rw [changed, Store.setRegion_held]

@[simp] theorem Store.beginRecord_held (st : Store) (i : Nat) (e : Entry) (page slot : Nat) :
    (st.beginRecord i e page slot).held = st.held := by
  unfold Store.beginRecord
  dsimp only
  cases e.kind <;> rfl

theorem mem_modifyAt {α : Type} {f : α → α} {l : List α} {i : Nat} {x : α} (h : x ∈ modifyAt f l i) :
    x ∈ l ∨ ∃ y ∈ l, x = f y := by
  induction l generalizing i with
  | nil => cases h
  | cons y ys ih =>
    cases i with
    | zero =>
      rcases List.mem_cons.1 h with rfl | h
      · exact .inr ⟨y, by simp, rfl⟩
      · exact .inl (by simp [h])
    | succ i =>
      rcases List.mem_cons.1 h with rfl | h
      · exact .inl (by simp)
      · rcases ih h with h | ⟨z, h, e⟩
        · exact .inl (by simp [h])
        · exact .inr ⟨z, by simp [h], e⟩

/-- Changing a page brings no checkpoint but those it brings itself. -/
theorem Store.mem_checkpoints_modifyAt {st st' : Store} {f : Page → Page} {i : Nat} {c : Checkpoint}
    (pages : st'.pages = modifyAt f st.pages i) (content : st'.image.content = st.image.content)
    (h : c ∈ st'.checkpoints) :
    c ∈ st.checkpoints ∨ ∃ p ∈ st.pages, ∃ seq, Slot.valid seq (.checkpoint c) ∈ (f p).slots := by
  rw [Store.mem_checkpoints, pages, content] at h
  rw [Store.mem_checkpoints]
  rcases h with image | ⟨p, hp, seq, slot⟩
  · exact .inl (.inl image)
  · rcases mem_modifyAt hp with old | ⟨q, hq, rfl⟩
    · exact .inl (.inr ⟨p, old, seq, slot⟩)
    · exact .inr ⟨q, hq, seq, slot⟩

/-- Setting a slot brings the checkpoint it holds, if any. -/
theorem Store.mem_checkpoints_setSlot {st : Store} {p i : Nat} {x : Slot} {c : Checkpoint}
    (h : c ∈ (st.setSlot p i x).checkpoints) : c ∈ st.checkpoints ∨ ∃ seq, x = .valid seq (.checkpoint c) := by
  rcases Store.mem_checkpoints_modifyAt (st := st) (st' := st.setSlot p i x) rfl rfl h with old | ⟨q, hq, seq, slot⟩
  · exact .inl old
  · rcases List.mem_or_eq_of_mem_set slot with old | new
    · exact .inl ((st.mem_checkpoints c).2 (.inr ⟨q, hq, seq, old⟩))
    · exact .inr ⟨seq, new.symm⟩

/-- What an entry writes is the image's content where it is a checkpoint (R158). -/
theorem Store.contentOf_checkpoint {st : Store} {e : Entry} {c : Checkpoint}
    (h : st.contentOf e = some (.checkpoint c)) : c ∈ st.checkpoints := by
  have image : st.image.content = some c := by
    unfold Store.contentOf at h
    split at h
    · cases h
    · cases h
    · obtain ⟨d, hd, e⟩ := Option.map_eq_some_iff.1 h
      rw [hd, StoredRecord.checkpoint.inj e]
  exact (st.mem_checkpoints c).2 (.inl image)

theorem Store.checkpoints_of_held {st st' : Store} (held : st'.held = st.held) : st'.checkpoints = st.checkpoints := by
  obtain ⟨pages, content⟩ := (Store.held_eq_iff _ _).1 held
  rw [Store.checkpoints, pages, content, Store.checkpoints]

/-- A record written brings no checkpoint that the image did not hold (R158). -/
theorem Store.recordDone_checkpoints {st : Store} {p : Programming} {i : Nat} {e : Entry} {c : Checkpoint}
    (h : c ∈ (st.recordDone p i e).checkpoints) : c ∈ st.checkpoints := by
  unfold Store.recordDone at h
  rw [Store.checkpoints_of_held (Store.moveAppendPoint_held _ _)] at h
  split at h
  · rename_i x content
    rcases Store.mem_checkpoints_setSlot (st := st) (p := p.page) (i := p.slot) (x := .valid p.seq x) h with old | ⟨seq, new⟩
    · exact old
    · obtain ⟨-, rfl⟩ := Slot.valid.inj new
      exact Store.contentOf_checkpoint content
  · exact h

theorem State.recordWritten_keepsRun (s : State) (p : Programming) (i : Nat) (e : Entry) :
    s.KeepsRun (s.recordWritten p i e) := by
  have done : s.KeepsRun { s with store := s.store.recordDone p i e } :=
    .of_view rfl fun c h => .inl (Store.recordDone_checkpoints h)
  have ended : ∀ u : State, u.KeepsRun u.endImageWrite := fun u => by
    have emptied : u.KeepsRun { u with store := { u.store with image := Image.empty } } :=
      .of_view rfl (.of_content rfl (.inr (.inl rfl)))
    unfold State.endImageWrite
    dsimp only
    split
    · exact emptied.requestCheckpoint _
    · exact emptied
  rw [State.recordWritten_eq]
  refine State.KeepsRun.placeImage ?_
  split
  · exact done.trans (ended _)
  · exact done

/-- A fault of the store sets its sticky flag and appends STORE_FAULT (R159, R167). -/
theorem State.storeFault_keepsRun (s : State) (f : StoreFault) (b : RecordBody) :
    s.KeepsRun ((s.setStoreFlag f).appendNow b) :=
  .of_eq (by simp)

theorem State.recordFailed_keepsRun (s : State) (p : Programming) (i : Nat) (e : Entry) :
    s.KeepsRun (s.recordFailed p i e) := by
  have left : ∀ st : Store, st.held = (s.store.setSlot p.page p.slot .incomplete).held →
      s.KeepsRun { s with store := st } := fun st held => .of_view rfl fun c h => by
    rw [Store.checkpoints_of_held held] at h
    rcases Store.mem_checkpoints_setSlot h with old | ⟨seq, new⟩
    · exact .inl old
    · cases new
  unfold State.recordFailed
  dsimp only
  split
  · refine State.KeepsRun.trans (State.KeepsRun.trans (left _ ?_) (State.storeFault_keepsRun _ _ _))
      (State.stopWrites_keepsRun _ _)
    rw [Store.setRegion_held, Store.moveAppendPoint_held]
    rfl
  · refine left _ ?_
    have kept := Store.moveAppendPoint_held { s.store.setSlot p.page p.slot .incomplete with programming := none } p.region
    exact kept

theorem State.completeErase_keepsRun (s : State) (p : Nat) :
    s.KeepsRun { s with store := s.store.completeErase p } := by
  have blank : ∀ st : Store, st.held = (modifyAt (fun _ => Page.blankOf (regionOfPage p)) s.store.pages p,
      s.store.image.content) → s.KeepsRun { s with store := st } := fun st held => .of_view rfl fun c h => by
    obtain ⟨pages, content⟩ := Prod.mk.inj held
    rcases Store.mem_checkpoints_modifyAt pages content h with old | ⟨q, -, seq, slot⟩
    · exact .inl old
    · cases List.eq_of_mem_replicate slot
  refine blank _ ?_
  unfold Store.completeErase
  dsimp only
  split
  · rw [Store.prepareReady_held, Store.setRegion_held]
    rfl
  · split
    · rw [Store.setRegion_held]
      rfl
    · rfl

theorem State.beginErase_keepsRun (s : State) (p : Nat) (rest : List Nat) :
    s.KeepsRun { s with store := s.store.beginErase p rest s.tb.elapsed } :=
  .of_view rfl fun c h => by
    rcases Store.mem_checkpoints_modifyAt (st := s.store)
        (st' := s.store.beginErase p rest s.tb.elapsed) (f := fun g => { g with disturbed := true }) rfl rfl h with
      old | ⟨q, hq, seq, slot⟩
    · exact .inl old
    · exact .inl ((s.store.mem_checkpoints c).2 (.inr ⟨q, hq, seq, slot⟩))

theorem State.failErase_keepsRun (s : State) (p : Nat) : s.KeepsRun (s.failErase p) := by
  have left : s.KeepsRun { s with store := { s.store with erase := none, leftOut := s.store.leftOut ++ [p] } } :=
    .of_eq ⟨rfl, rfl⟩
  have logged := left.trans (State.storeFault_keepsRun _ .erase (.storeFault (regionOfPage p) .erase p))
  unfold State.failErase
  dsimp only
  split
  · exact logged.trans (State.stopWrites_keepsRun _ _)
  · split
    · exact logged.then_eq (by simp [Store.queueOldest_eq])
    · exact logged

theorem State.warnStore_keepsRun (s : State) : s.KeepsRun s.warnStore := by
  unfold State.warnStore
  dsimp only
  split
  · exact (State.requestCheckpoint_keepsRun _ true).after ⟨rfl, rfl⟩
  · exact s.requestCheckpoint_keepsRun true

theorem State.failRead_keepsRun (s : State) : s.KeepsRun s.failRead := by
  unfold State.failRead
  split
  · exact .of_eq (by simp)
  · exact .refl s

theorem State.takeWarning_keepsRun (s : State) : s.KeepsRun s.takeWarning :=
  ((State.warnStore_keepsRun _).trans (State.failRead_keepsRun _)).after ⟨rfl, rfl⟩

/-! ### Requests (R86, R93, R108, R176, R181, R183 to R185) -/

/-- Serving a request keeps what its owner keeps. -/
theorem State.serve_keepsRun (s : State) (code : Nat) (owner : State → Request → State)
    (owned : ∀ (u : State) (r : Request), u.KeepsRun (owner u r)) : s.KeepsRun (s.serve code owner) := by
  rcases s.serve_cases code owner with e | ⟨r, e⟩ | ⟨r, e⟩ <;> rw [e]
  · exact .refl s
  · exact .of_eq (by simp)
  · exact (owned s.popRequest r).after ⟨rfl, rfl⟩

theorem State.serveFetchLog_keepsRun (s : State) (r : Request) : s.KeepsRun (s.serveFetchLog r) := by
  unfold State.serveFetchLog
  dsimp only
  split <;> exact .of_eq (by simp)

theorem State.serveFetchNotices_keepsRun (s : State) (r : Request) : s.KeepsRun (s.serveFetchNotices r) := by
  unfold State.serveFetchNotices
  dsimp only
  split <;> exact .of_eq (by simp)

theorem State.serveReadShift_keepsRun (s : State) (r : Request) : s.KeepsRun (s.serveReadShift r) := by
  unfold State.serveReadShift
  split <;> exact .of_eq (by simp)

theorem State.serveAckGroup_keepsRun (s : State) (r : Request) : s.KeepsRun (s.serveAckGroup r) := by
  unfold State.serveAckGroup
  split <;> exact .of_eq (by simp)

theorem State.serveSetTime_keepsRun (gs : List Nat) (s : State) (r : Request) : s.KeepsRun (s.serveSetTime gs r) := by
  have set : ∀ asked, s.KeepsRun (s.setTime asked gs) := fun _ => (s.knowSeconds.step_keepsRun ..).after ⟨rfl, rfl⟩
  unfold State.serveSetTime
  split
  · exact (set _).answer _ _ _
  · exact .of_eq (by simp)

/-! ### The tally unit's own operations (R112 to R116, R118, R120, R125 to R129) -/

theorem State.judgeService_keepsRun (s : State) : s.KeepsRun s.judgeService := by
  unfold State.judgeService
  split
  · exact ((s.setServiceDue true).appendNow_keepsRun _).after ⟨rfl, rfl⟩
  · exact .refl s

theorem State.creditTick_keepsRun (s : State) : s.creditTallies.KeepsRun s.creditTick := by
  unfold State.creditTick
  split
  · exact s.creditTallies.judgeService_keepsRun
  · exact .refl _

/-- The tallies of an acceptance moved and its mode taken (R120). -/
def State.takeCandidate (s : State) (c : Candidate) : State := (s.moveTallies c).takeMode c.mode

/-- The rest of an acceptance leaves the run tallies alone (R120, R125). -/
theorem State.accept_keepsRun (s : State) (c : Candidate) : (s.takeCandidate c).KeepsRun (s.accept c) := by
  refine State.KeepsRun.requestCheckpoint ?_ false
  unfold State.takeCandidate State.judgeService
  split <;> exact .of_eq (by simp)

theorem State.settleStatus_keepsRun (s : State) (comb : Nat) : s.KeepsRun (s.settleStatus comb) where
  bits := ⟨rfl, rfl, rfl, rfl, rfl⟩
  lifetime := rfl
  unsaturated := fun ⟨seven, room, _, waiting⟩ => ⟨seven, room, nofun, waiting⟩
  balanced := fun ⟨openShift, ⟨_, waiting, _⟩, held⟩ => ⟨openShift, ⟨nofun, waiting, nofun⟩, held⟩

theorem State.clearCandidate_keepsRun (s : State) : s.KeepsRun s.clearCandidate where
  bits := ⟨rfl, rfl, rfl, rfl, rfl⟩
  lifetime := rfl
  unsaturated := fun ⟨seven, room, latched, _⟩ => ⟨seven, room, latched, nofun⟩
  balanced := fun ⟨openShift, ⟨latched, _, _⟩, held⟩ => ⟨openShift, ⟨latched, nofun, fun _ _ _ => nofun⟩, held⟩

/-- A qualification ended without its combination qualifying (R112). -/
theorem State.discardStatusTest_keepsRun (s : State) : s.KeepsRun (s.setStatusTest none) where
  bits := ⟨rfl, rfl, rfl, rfl, rfl⟩
  lifetime := rfl
  unsaturated := fun ⟨seven, room, _, waiting⟩ => ⟨seven, room, nofun, waiting⟩
  balanced := fun ⟨openShift, ⟨_, waiting, _⟩, held⟩ => ⟨openShift, ⟨nofun, waiting, nofun⟩, held⟩

/-- A qualification begun: nothing has been counted in its latch yet, and its onset is the latest (R113). -/
theorem State.beginStatusTest_keepsRun (s : State) (comb : Nat) :
    s.KeepsRun (s.setStatusTest (some (s.statusOnset comb))) where
  bits := ⟨rfl, rfl, rfl, rfl, rfl⟩
  lifetime := rfl
  unsaturated := by
    rintro ⟨seven, room, -, waiting⟩
    refine ⟨seven, room, fun t h => ?_, waiting⟩
    obtain rfl := Option.some.inj h
    exact Nat.zero_le _
  balanced := by
    rintro ⟨openShift, ⟨-, waiting, -⟩, held⟩
    refine ⟨openShift, ⟨fun t h => ?_, waiting, fun t c h hc => ?_⟩, held⟩
    · obtain rfl := Option.some.inj h
      exact ⟨Nat.zero_le _, le_refl _⟩
    · obtain rfl := Option.some.inj h
      exact ⟨(waiting c hc).2, Nat.zero_le _⟩

/-- A candidate formed from the latch of the combination that qualifies (R116). -/
theorem State.formedCandidate_keepsRun (s : State) {t : StatusTest} (latched : s.tally.qual = some t) (m : Mode) (dwell : Nat) :
    s.KeepsRun (((s.settleStatus t.comb).setInvalidLogged false).setCandidate (t.candidate m dwell)) where
  bits := ⟨rfl, rfl, rfl, rfl, rfl⟩
  lifetime := rfl
  unsaturated := by
    rintro ⟨seven, room, counted, -⟩
    refine ⟨seven, room, nofun, fun c h => ?_⟩
    obtain rfl := Option.some.inj h
    exact counted t latched
  balanced := by
    rintro ⟨openShift, ⟨counted, -, -⟩, held⟩
    refine ⟨openShift, ⟨nofun, fun c h => ?_, nofun⟩, held⟩
    obtain rfl := Option.some.inj h
    exact counted t latched

/-- What a sample of the status lines and a dwell end can do: leave the run tallies alone, or accept a candidate (R112 to
R116, R120). -/
inductive State.ModeEffect (s t : State) : Prop
  | keeps (h : s.KeepsRun t)
  | accepts (u : State) (c : Candidate) (before : s.KeepsRun u) (held : u.tally.candidate = some c)
      (after : (u.takeCandidate c).KeepsRun t)

theorem State.ModeEffect.of_keeps {s u t : State} (h : s.KeepsRun u) (k : u.ModeEffect t) : s.ModeEffect t := by
  cases k with
  | keeps k => exact .keeps (h.trans k)
  | accepts v c before held after => exact .accepts v c (h.trans before) held after

theorem State.qualifyCombination_effect (s : State) {t : StatusTest} (latched : s.tally.qual = some t) :
    s.ModeEffect (s.qualifyCombination t) := by
  have settled := s.settleStatus_keepsRun t.comb
  have cleared := settled.trans (s.settleStatus t.comb).clearCandidate_keepsRun
  unfold State.qualifyCombination
  split
  · split
    · exact .keeps cleared
    · exact .keeps (cleared.trans ((State.appendNow_keepsRun (State.setInvalidLogged _ true) _).after ⟨rfl, rfl⟩))
  · rename_i m _
    split
    · exact .keeps (cleared.then_eq ⟨rfl, rfl⟩)
    · split
      · exact .keeps (settled.then_eq ⟨rfl, rfl⟩)
      · have formed := s.formedCandidate_keepsRun latched m s.cfg.dwell
        unfold State.formCandidate
        split
        · exact .accepts _ _ formed rfl (State.accept_keepsRun ((s.settleStatus t.comb).setInvalidLogged false) _)
        · exact .keeps formed

theorem State.beginStatusTest_effect (s : State) (comb : Nat) : s.ModeEffect (s.beginStatusTest comb) := by
  have begun := s.beginStatusTest_keepsRun comb
  unfold State.beginStatusTest
  split
  · exact .of_keeps begun (State.qualifyCombination_effect (s.setStatusTest (some (s.statusOnset comb))) rfl)
  · exact .keeps begun

theorem State.sampleStatus_effect (s : State) (comb : Nat) : s.ModeEffect (s.sampleStatus comb) := by
  unfold State.sampleStatus
  split
  · rename_i t latched
    split
    · split
      · exact s.qualifyCombination_effect latched
      · exact .keeps (.refl s)
    · split
      · exact .keeps s.discardStatusTest_keepsRun
      · exact s.beginStatusTest_effect comb
  · split
    · exact .keeps (.refl s)
    · exact s.beginStatusTest_effect comb

end Sys2Proof.Machine
end

section
/-! PROOFS. What each command can do to the run tallies (R112 to R129), said once for all of them. -/

namespace Sys2Proof.Machine

/-- What a command can do to the run tallies: leave them alone or accept a candidate, credit a tick, preset one, write a
protect bit, lock a set down, hold the part in reset, or start it. -/
inductive State.RunEffect (s : State) : Instr → State → Prop
  | mode {c : Instr} {t : State} (h : s.ModeEffect t) : s.RunEffect c t
  | ticks {t : State} (h : s.creditTallies.KeepsRun t) : s.RunEffect .elapsedMillisecondTick t
  | presets {t : State} (target : TallyTarget) (value : Nat) (h : (s.setTally value target).KeepsRun t) :
      s.RunEffect .presetTally t
  | protects {c : Instr} {t : State} (set : TallySet) (on : Bool) (allowed : on = true ∨ s.isLocked set = false)
      (h : (s.setProtect on set).KeepsRun t) : s.RunEffect c t
  | locks {c : Instr} {t : State} (set : TallySet) (h : ((s.lock set).setProtect true set).KeepsRun t) : s.RunEffect c t
  | resets {c : Instr} (k : ResetCause) (sets : setsTallies c = true)
      (clears : k.clearsLock = true → c = .powerOn ∨ ∃ v, c = .supplyReset v) : s.RunEffect c (s.enterReset k)
  | starts (i : StartInputs) (k : ResetCause) : s.RunEffect (.start i) (s.runStart k i)

theorem State.RunEffect.keeps {s : State} {c : Instr} {t : State} (h : s.KeepsRun t) : s.RunEffect c t := .mode (.keeps h)

/-! ### The requests that write the tallies (R127 to R129) -/

theorem State.preset_keepsRun (s : State) (target : TallyTarget) (value : Nat) :
    (s.setTally value target).KeepsRun (s.preset target value) := by
  have logged := (s.setTally value target).appendNow_keepsRun
    (.preset target (s.tally.value target) (min value tallyTop))
  have judged : ∀ u : State, u.KeepsRun u.judgePreset := fun u => by
    unfold State.judgePreset
    split
    · exact u.judgeService_keepsRun
    · exact .of_eq ⟨rfl, rfl⟩
  unfold State.preset
  dsimp only
  split
  · exact (logged.trans (judged _)).requestCheckpoint false
  · exact logged.requestCheckpoint false

theorem State.protect_keepsRun (s : State) (set : TallySet) (on : Bool) (action : ProtectAction) :
    (s.setProtect on set).KeepsRun (s.protect set on action) :=
  ((s.setProtect on set).appendNow_keepsRun _).requestCheckpoint false

theorem State.RunEffect.servedPreset (s : State) : s.RunEffect .presetTally (s.serve 11 State.servePreset) := by
  rcases s.serve_cases 11 State.servePreset with e | ⟨r, e⟩ | ⟨r, e⟩ <;> rw [e]
  · exact .keeps (.refl s)
  · exact .keeps (.of_eq (by simp))
  · unfold State.servePreset
    dsimp only
    split
    · exact .keeps (.of_eq (by simp))
    · split
      · exact .keeps (.of_eq (by simp))
      · split
        · exact .keeps (.of_eq (by simp))
        · have written := (s.popRequest.preset_keepsRun (.ofParams r.params) (fieldAt r.params 2 6)).answer r .ok []
          exact .presets _ _ (written.after (s := s.setTally _ _) ⟨rfl, rfl⟩)

theorem State.RunEffect.servedProtect (s : State) : s.RunEffect .protectTally (s.serve 12 State.serveProtect) := by
  rcases s.serve_cases 12 State.serveProtect with e | ⟨r, e⟩ | ⟨r, e⟩ <;> rw [e]
  · exact .keeps (.refl s)
  · exact .keeps (.of_eq (by simp))
  · have written : ∀ set on action, (s.setProtect on set).KeepsRun ((s.popRequest.protect set on action).answer r .ok []) :=
      fun set on action => ((s.popRequest.protect_keepsRun set on action).answer r .ok []).after ⟨rfl, rfl⟩
    unfold State.serveProtect
    dsimp only
    split
    · exact .keeps (.of_eq (by simp))
    · split
      · exact .protects _ true (.inl rfl) (written _ true .on)
      · split
        · exact .keeps (.of_eq (by simp))
        · rename_i free
          exact .protects _ false (.inr (Bool.eq_false_iff.2 free)) (written _ false .off)

theorem State.RunEffect.servedLockDown (s : State) : s.RunEffect .lockDownTally (s.serve 13 State.serveLockDown) := by
  rcases s.serve_cases 13 State.serveLockDown with e | ⟨r, e⟩ | ⟨r, e⟩ <;> rw [e]
  · exact .keeps (.refl s)
  · exact .keeps (.of_eq (by simp))
  · unfold State.serveLockDown
    dsimp only
    split
    · exact .keeps (.of_eq (by simp))
    · generalize TallySet.ofCode (byteAt r.params 0) = set
      have written := ((s.popRequest.lock set).protect_keepsRun set true .lockDown).answer r .ok []
      exact .locks set (written.after (by cases set <;> exact ⟨rfl, rfl⟩))

/-! ### Every command -/

/-- Every command has one of these effects. -/
theorem exec_runEffect (c : Instr) (s t : State) (h : exec c s = .next t) : s.RunEffect c t := by
  cases c with
  | elapsedMicrosecond p o =>
    obtain rfl := Host.Outcome.next.inj h
    split
    · exact .keeps (s.microsecond_keepsRun p o)
    · exact .keeps (.refl s)
  | reception ch data odd =>
    obtain rfl := Host.Outcome.next.inj h
    split
    · have ended : s.KeepsRun (s.setLine ch { (s.line ch).active s.tb.elapsed with stamp := none }) := .of_eq (by simp)
      dsimp only
      split
      · exact .keeps (ended.then_eq (by simp))
      · split
        · exact .keeps (ended.then_eq ⟨rfl, rfl⟩)
        · exact .keeps (ended.trans (State.receive_keepsRun ..))
    · exact .keeps (.refl s)
  | consoleHandoverNotice payload =>
    obtain rfl := Host.Outcome.next.inj h
    split
    · exact .keeps ((State.takeHandover_keepsRun _ _).after (by simp))
    · exact .keeps (.refl s)
  | inputSample lines order =>
    obtain rfl := Host.Outcome.next.inj h
    split
    · exact .keeps (s.sampleInputs_keepsRun lines _)
    · exact .keeps (.refl s)
  | chatterEnd i =>
    obtain rfl := Host.Outcome.next.inj h
    split
    · exact .keeps (((s.setInput i (s.input i).leaveChatter).reportInput_keepsRun ..).after ⟨rfl, rfl⟩)
    · exact .keeps (.refl s)
  | groupClose g =>
    obtain rfl := Host.Outcome.next.inj h
    split
    · exact .keeps (s.closeIfDue_keepsRun g)
    · exact .keeps (.refl s)
  | statusSample lines =>
    obtain rfl := Host.Outcome.next.inj h
    split
    · exact .mode (s.sampleStatus_effect _)
    · exact .keeps (.refl s)
  | dwellEnd =>
    obtain rfl := Host.Outcome.next.inj h
    split
    · split
      · exact .mode (.accepts s _ (.refl s) ‹_› (s.accept_keepsRun _))
      · exact .keeps (.refl s)
    · exact .keeps (.refl s)
  | elapsedMillisecondTick =>
    obtain rfl := Host.Outcome.next.inj h
    split
    · exact .ticks s.creditTick_keepsRun
    · exact .keeps (.refl s)
  | checkpointIntervalExpiry =>
    obtain rfl := Host.Outcome.next.inj h
    split
    · exact .keeps ((s.requestCheckpoint_keepsRun false).then_eq ⟨rfl, rfl⟩)
    · exact .keeps (.refl s)
  | storeWriteBegin =>
    obtain rfl := Host.Outcome.next.inj h
    split
    · exact .keeps (.of_eq ⟨rfl, Store.beginRecord_held ..⟩)
    · exact .keeps (.refl s)
  | storeWriteEnd verified =>
    obtain rfl := Host.Outcome.next.inj h
    split
    · split
      · exact .keeps (s.recordWritten_keepsRun ..)
      · exact .keeps (s.recordFailed_keepsRun ..)
    · exact .keeps (.refl s)
  | eraseBegin =>
    obtain rfl := Host.Outcome.next.inj h
    split
    · split
      · exact .keeps (s.beginErase_keepsRun _ _)
      · exact .keeps (.refl s)
    · exact .keeps (.refl s)
  | eraseComplete =>
    obtain rfl := Host.Outcome.next.inj h
    split
    · split
      · exact .keeps (s.completeErase_keepsRun _)
      · exact .keeps (.refl s)
    · exact .keeps (.refl s)
  | eraseFail =>
    obtain rfl := Host.Outcome.next.inj h
    split
    · split
      · exact .keeps (s.failErase_keepsRun _)
      · exact .keeps (.refl s)
    · exact .keeps (.refl s)
  | supplyWarning =>
    obtain rfl := Host.Outcome.next.inj h
    split
    · exact .keeps s.takeWarning_keepsRun
    · exact .keeps (.refl s)
  | powerDip =>
    obtain rfl := Host.Outcome.next.inj h
    split
    · exact .keeps ((State.appendNow_keepsRun { s with supply := _, store := s.store.requeueAbandoned } _).after ⟨rfl, rfl⟩)
    · exact .keeps (.refl s)
  | presetTally => obtain rfl := Host.Outcome.next.inj h; exact .servedPreset s
  | protectTally => obtain rfl := Host.Outcome.next.inj h; exact .servedProtect s
  | lockDownTally => obtain rfl := Host.Outcome.next.inj h; exact .servedLockDown s
  | setTime gs => obtain rfl := Host.Outcome.next.inj h; exact .keeps (s.serve_keepsRun _ _ (State.serveSetTime_keepsRun gs))
  | powerOn => obtain rfl := Host.Outcome.next.inj h; exact .resets .powerOn rfl fun _ => .inl rfl
  | resetLine => obtain rfl := Host.Outcome.next.inj h; exact .resets .resetLine rfl nofun
  | supplyReset v =>
    obtain rfl := Host.Outcome.next.inj h
    split
    · exact .resets .supplyLow rfl fun _ => .inr ⟨v, rfl⟩
    · exact .keeps (.refl s)
  | restartReset =>
    obtain rfl := Host.Outcome.next.inj h
    split
    · split
      · exact .resets .restart rfl nofun
      · exact .keeps (.refl s)
    · exact .keeps (.refl s)
  | start i =>
    obtain rfl := Host.Outcome.next.inj h
    split
    · split
      · exact .starts i _
      · exact .keeps (.refl s)
    · exact .keeps (.refl s)
  | status | readTime | readPeers | readGroup | readTallies =>
    obtain rfl := Host.Outcome.next.inj h
    exact .keeps (s.serve_keepsRun _ _ fun u r => State.KeepsRun.answer (.refl u) r .ok _)
  | restart =>
    obtain rfl := Host.Outcome.next.inj h
    exact .keeps (s.serve_keepsRun _ _ fun u r => State.KeepsRun.then_eq (.answer (.refl u) r .ok []) ⟨rfl, rfl⟩)
  | fetchLog => obtain rfl := Host.Outcome.next.inj h; exact .keeps (s.serve_keepsRun _ _ State.serveFetchLog_keepsRun)
  | fetchNotices => obtain rfl := Host.Outcome.next.inj h; exact .keeps (s.serve_keepsRun _ _ State.serveFetchNotices_keepsRun)
  | readArchive => obtain rfl := Host.Outcome.next.inj h; exact .keeps (s.serve_keepsRun _ _ fun u r => .of_eq (by simp))
  | readShift => obtain rfl := Host.Outcome.next.inj h; exact .keeps (s.serve_keepsRun _ _ State.serveReadShift_keepsRun)
  | ackGroup => obtain rfl := Host.Outcome.next.inj h; exact .keeps (s.serve_keepsRun _ _ State.serveAckGroup_keepsRun)
  | clearFlags =>
    obtain rfl := Host.Outcome.next.inj h
    split
    · exact .keeps (.of_eq (by simp))
    · exact .keeps (s.serve_keepsRun _ _ fun u r => .of_eq (by simp))
  | collision ch | sendingComplete ch =>
    obtain rfl := Host.Outcome.next.inj h
    split
    · dsimp only
      split
      · split <;> exact .keeps (.of_eq (by simp))
      · exact .keeps (.refl s)
    · exact .keeps (.refl s)
  | _ =>
    obtain rfl := Host.Outcome.next.inj h
    repeat' split
    all_goals exact .keeps (.of_eq (by simp))

end Sys2Proof.Machine
end

section
/-! PROOFS. What a reset leaves of the array (R154, log entry 8): slot by slot, page by page. -/

namespace Sys2Proof.Machine

/-- What the cut-off of an erase leaves of a slot: as it was, blank, or no record any more. -/
theorem Slot.cut_spec (v : BitVec 2) (x : Slot) :
    x.cut v = x ∨ x.cut v = .blank ∨ (x ≠ .blank ∧ (x.cut v = .incomplete ∨ x.cut v = .torn)) := by
  cases x with
  | blank => exact .inl rfl
  | incomplete | torn | valid seq c =>
    simp only [Slot.cut]
    split_ifs <;> simp

theorem Slot.eq_of_cut_eq_valid {v : BitVec 2} {x : Slot} {seq : Nat} {c : StoredRecord} (h : x.cut v = .valid seq c) :
    x = .valid seq c := by
  rcases x.cut_spec v with e | e | ⟨-, e | e⟩ <;> rw [e] at h
  · exact h
  all_goals cases h

/-- What the cut-off of a program leaves of its slot: blank, incomplete, or the record whole. -/
theorem cutRecord_spec (v : BitVec 2) (seq : Nat) (o : Option StoredRecord) :
    cutRecord v seq o = .blank ∨ cutRecord v seq o = .incomplete ∨ ∃ x, o = some x ∧ cutRecord v seq o = .valid seq x := by
  cases o with
  | none | some x =>
    simp only [cutRecord]
    split_ifs <;> simp

theorem Page.settle_of_undisturbed {g : Page} (h : g.disturbed = false) (index n : Nat) : g.settle index n = g := by
  simp [Page.settle, h]

@[simp] theorem Page.settle_disturbed (g : Page) (index n : Nat) : (g.settle index n).disturbed = false := by
  unfold Page.settle
  split
  · rfl
  · simpa using ‹¬g.disturbed = true›

/-- A disturbed page keeps its slots' number, each slot cut by its own free value. -/
theorem Page.settle_slots {g : Page} (h : g.disturbed = true) (index n i : Nat) :
    (g.settle index n).slots[i]? = g.slots[i]?.map (Slot.cut (Config.cutErase index n i)) := by
  simp [Page.settle, h]

@[simp] theorem Page.settle_length (g : Page) (index n : Nat) : (g.settle index n).slots.length = g.slots.length := by
  unfold Page.settle
  split <;> simp

/-- The store with the slot being programmed as the cut-off of its program leaves it. -/
def Store.cutProgram (st : Store) (index : Nat) : Store :=
  match st.programming with
  | some p => st.setSlot p.page p.slot (cutRecord (Config.cutProgram index) p.seq
      ((st.queue.find? Entry.busy).bind st.contentOf))
  | none => st

theorem Store.cutOff_eq (st : Store) (index : Nat) :
    st.cutOff index = (st.cutProgram index).pages.mapIdx fun n g => g.settle index n := rfl

/-- Nothing in hand, nothing cut off. -/
theorem Store.cutOff_of_rest {st : Store} (idle : st.programming = none) (undisturbed : ∀ p ∈ st.pages, p.disturbed = false)
    (index : Nat) : st.cutOff index = st.pages := by
  have same : st.cutProgram index = st := by rw [Store.cutProgram, idle]
  rw [Store.cutOff_eq, same]
  refine List.ext_getElem? fun n => ?_
  rw [List.getElem?_mapIdx]
  cases page : st.pages[n]? with
  | none => rfl
  | some g => exact congrArg some (Page.settle_of_undisturbed (undisturbed g (List.mem_of_getElem? page)) index n)

/-- A cut-off brings no checkpoint that the array and the image did not hold (R154). -/
theorem Store.cutOff_checkpoints {st : Store} {index : Nat} {c : Checkpoint}
    (h : c ∈ (Store.cleared (st.cutOff index)).checkpoints) : c ∈ st.checkpoints := by
  rcases ((Store.cleared (st.cutOff index)).mem_checkpoints c).1 h with image | ⟨p, hp, seq, slot⟩
  · cases image
  · rw [Store.cleared, Store.cutOff_eq] at hp
    obtain ⟨n, hn, rfl⟩ := List.mem_mapIdx.1 hp
    have before : Slot.valid seq (.checkpoint c) ∈ (st.cutProgram index).pages[n].slots := by
      unfold Page.settle at slot
      split at slot
      · obtain ⟨i, hi, e⟩ := List.mem_mapIdx.1 slot
        exact Slot.eq_of_cut_eq_valid e ▸ List.getElem_mem hi
      · exact slot
    have held := ((st.cutProgram index).mem_checkpoints c).2 (.inr ⟨_, List.getElem_mem hn, seq, before⟩)
    unfold Store.cutProgram at held
    split at held
    · rcases Store.mem_checkpoints_setSlot held with old | ⟨k, new⟩
      · exact old
      · rcases cutRecord_spec _ _ _ with e | e | ⟨x, content, e⟩ <;> rw [e] at new
        · cases new
        · cases new
        · obtain ⟨-, rfl⟩ := Slot.valid.inj new
          obtain ⟨e, -, content⟩ := Option.bind_eq_some_iff.1 content
          exact Store.contentOf_checkpoint content
    · exact held

/-- The checkpoint that START finds stands in the array (R173). -/
theorem foundCheckpoint_mem {pages : List Page} {c : Checkpoint} (h : foundCheckpoint pages = some c) :
    c ∈ (Store.cleared pages).checkpoints := by
  obtain ⟨⟨seq, d⟩, found, rfl⟩ := Option.map_eq_some_iff.1 h
  have newest : (Store.cleared pages).newestIn .journal = some (seq, .checkpoint d) := by
    unfold Store.findings at found
    dsimp only at found
    split at found
    · obtain ⟨rfl, rfl⟩ := Prod.mk.inj (Option.some.inj found)
      assumption
    · cases found
  rcases (Store.cleared pages).newestAmong_spec Region.journal.pages with ⟨e, -⟩ | ⟨k, x, e, ⟨p, -, slot⟩, -⟩
  · cases newest.symm.trans e
  · obtain ⟨rfl, rfl⟩ := Prod.mk.inj (Option.some.inj (newest.symm.trans e))
    refine (Store.mem_checkpoints _ _).2 (.inr ⟨(Store.cleared pages).page p, ?_, seq, slot⟩)
    rw [Store.page, List.getD_eq_getElem?_getD] at slot ⊢
    cases page : (Store.cleared pages).pages[p]? with
    | some g => exact List.mem_of_getElem? page
    | none =>
      rw [page] at slot
      cases List.eq_of_mem_replicate slot

end Sys2Proof.Machine
end

section
/-! PROOFS. The laws of the run tallies: the lifetime tallies' sum (R118), the open shift's balance (R119, R120, R140), and
the protection of a set that is locked down (R126, R128, R129). -/

namespace Sys2Proof.Machine

/-! ### The lifetime tallies (R118, R120) -/

/-- A tick credits one millisecond, where no tally stands at its top (R118). -/
theorem State.Unsaturated.creditTallies_sum {s : State} (h : s.Unsaturated) :
    s.creditTallies.tally.lifetime.sum = s.tally.lifetime.sum + 1 := by
  obtain ⟨seven, room, -, -⟩ := h
  have credited := sum_modifyAt (satInc tallyTop) s.tally.lifetime s.tally.accepted.code
    (seven ▸ s.tally.accepted.code_lt)
  have bound := getD_le_sum s.tally.lifetime s.tally.accepted.code
  have whole : satInc tallyTop (s.tally.lifetime.getD s.tally.accepted.code 0)
      = s.tally.lifetime.getD s.tally.accepted.code 0 + 1 := Nat.min_eq_left (by omega)
  change (modifyAt (satInc tallyTop) s.tally.lifetime s.tally.accepted.code).sum = _
  omega

/-- An acceptance moves milliseconds between two tallies (R120). -/
theorem State.Unsaturated.takeCandidate_sum {s : State} (h : s.Unsaturated) {c : Candidate}
    (held : s.tally.candidate = some c) : (s.takeCandidate c).tally.lifetime.sum = s.tally.lifetime.sum := by
  obtain ⟨seven, room, -, waiting⟩ := h
  obtain ⟨-, sum, -⟩ := moveBetween_spec s.tally.accepted c.mode seven room.le (waiting c held)
  exact sum

theorem State.ModeEffect.lifetime_sum {s t : State} (e : s.ModeEffect t) (h : s.Unsaturated) :
    t.tally.lifetime.sum = s.tally.lifetime.sum := by
  cases e with
  | keeps k => rw [k.lifetime]
  | accepts u c before held after =>
    rw [after.lifetime, (before.unsaturated h).takeCandidate_sum held, before.lifetime]

/-- Settles O39: a tick by its credit, every other command by its effect on the run tallies. -/
theorem lifetimeTalliesGainOnlyTicks : Obligations.LifetimeTalliesGainOnlyTicks := by
  intro c s t running unsaturated others e
  rcases eq_or_ne c .elapsedMillisecondTick with rfl | other
  · by_cases due : 0 < s.tb.elapsed ∧ s.tb.elapsed % 1000 = 0
    · rw [exec_elapsedMillisecondTick_at s running due.1 due.2] at e
      obtain rfl := Host.Outcome.next.inj e
      rw [s.creditTick_keepsRun.lifetime, unsaturated.creditTallies_sum, if_pos ⟨rfl, due⟩]
    · rw [exec_elapsedMillisecondTick_between s (by omega)] at e
      obtain rfl := Host.Outcome.next.inj e
      rw [if_neg fun h => due h.2]
      rfl
  · rw [if_neg fun h => other h.1, Nat.add_zero]
    cases exec_runEffect c s t e with
    | mode k => exact k.lifetime_sum unsaturated
    | ticks => exact absurd rfl other
    | presets => cases others
    | protects set on _ k => rw [k.lifetime]; cases set <;> rfl
    | locks set k => rw [k.lifetime]; cases set <;> rfl
    | resets _ sets => rw [sets] at others; cases others
    | starts => cases others

/-! ### The open shift's balance (R113, R118 to R120, R140) -/

/-- A record credited a tick stays balanced, and its accepted mode has the millisecond while there is room (R118, R119). -/
theorem ShiftRecord.Balanced.credit {r : ShiftRecord} (h : r.Balanced) (m : Mode) :
    (r.credit m).Balanced ∧ (r.credit m).durations.getD m.code 0 =
      r.durations.getD m.code 0 + (decide (r.powered < durationTop)).toNat := by
  obtain ⟨seven, sum, top⟩ := h
  unfold ShiftRecord.credit
  split
  case isTrue room =>
    have credited := sum_modifyAt (· + 1) r.durations m.code (seven ▸ m.code_lt)
    refine ⟨⟨by simpa using seven, ?_, room⟩, ?_⟩
    · dsimp only
      omega
    · rw [getD_modifyAt_self _ _ _ (seven ▸ m.code_lt), decide_eq_true room]
      rfl
  case isFalse full => exact ⟨⟨seven, sum, top⟩, by rw [decide_eq_false full]; rfl⟩

/-- A tick counts in a latch at most where it is credited to the open shift, and leaves its onset (R113, R119). -/
theorem StatusTest.count_spec (t : StatusTest) (now : Nat) (inShift : Bool) :
    (t.count now inShift).elapsed = t.elapsed ∧ (t.count now inShift).ds ≤ t.ds + inShift.toNat := by
  unfold StatusTest.count
  split <;> simp

theorem Candidate.count_spec (c : Candidate) (now : Nat) (inShift : Bool) :
    (c.count now inShift).elapsed = c.elapsed ∧ (c.count now inShift).ds ≤ c.ds + inShift.toNat := by
  unfold Candidate.count
  split <;> simp

/-- A tick that counts in the latch counts in a candidate whose onset is no later (R113). -/
theorem StatusTest.count_ds_le {t : StatusTest} {c : Candidate} (now : Nat) (inShift : Bool)
    (earlier : c.elapsed ≤ t.elapsed) (le : t.ds ≤ c.ds) : (t.count now inShift).ds ≤ (c.count now inShift).ds := by
  unfold StatusTest.count Candidate.count
  split
  · rw [if_pos (by omega)]
    exact Nat.add_le_add_right le _
  · split
    · exact Nat.le_add_right_of_le le
    · exact le

theorem State.ShiftBalanced.creditTallies {s : State} (h : s.ShiftBalanced) : s.creditTallies.ShiftBalanced := by
  obtain ⟨openShift, ⟨latched, waiting, order⟩, held⟩ := h
  obtain ⟨balanced, credited⟩ := openShift.credit s.tally.accepted
  refine ⟨balanced, ⟨fun t e => ?_, fun c e => ?_, fun t c e e' => ?_⟩, held⟩
  · obtain ⟨q, hq, rfl⟩ := Option.map_eq_some_iff.1 e
    obtain ⟨elapsed, ds⟩ := q.count_spec s.tb.elapsed (decide (s.shift.current.powered < durationTop))
    refine ⟨?_, elapsed ▸ (latched q hq).2⟩
    exact (ds.trans (Nat.add_le_add_right (latched q hq).1 _)).trans credited.ge
  · obtain ⟨q, hq, rfl⟩ := Option.map_eq_some_iff.1 e
    obtain ⟨elapsed, ds⟩ := q.count_spec s.tb.elapsed (decide (s.shift.current.powered < durationTop))
    refine ⟨?_, elapsed ▸ (waiting q hq).2⟩
    exact (ds.trans (Nat.add_le_add_right (waiting q hq).1 _)).trans credited.ge
  · obtain ⟨q, hq, rfl⟩ := Option.map_eq_some_iff.1 e
    obtain ⟨p, hp, rfl⟩ := Option.map_eq_some_iff.1 e'
    obtain ⟨earlier, le⟩ := order q p hq hp
    refine ⟨?_, StatusTest.count_ds_le _ _ earlier le⟩
    rw [(q.count_spec _ _).1, (p.count_spec _ _).1]
    exact earlier

/-- An acceptance moves milliseconds between two durations, and the mode it takes has been credited what a latch may still
move (R113, R120). -/
theorem State.ShiftBalanced.takeCandidate {s : State} (h : s.ShiftBalanced) {c : Candidate}
    (taken : s.tally.candidate = some c) : (s.takeCandidate c).ShiftBalanced := by
  obtain ⟨⟨seven, sum, top⟩, ⟨latched, waiting, order⟩, held⟩ := h
  obtain ⟨length, moved, credited⟩ :=
    moveBetween_spec s.tally.accepted c.mode seven (sum ▸ top) (waiting c taken).1
  refine ⟨⟨length, moved.trans sum, top⟩, ⟨fun t e => ?_, nofun, fun _ _ _ => nofun⟩, held⟩
  exact ⟨(order t c e taken).2.trans credited, (latched t e).2⟩

theorem State.ModeEffect.balanced {s t : State} (e : s.ModeEffect t) (h : s.ShiftBalanced) : t.ShiftBalanced := by
  cases e with
  | keeps k => exact k.balanced h
  | accepts u c before held after => exact after.balanced ((before.balanced h).takeCandidate held)

/-! ### Resets and START (R126, R131, R150, R154, R186) -/

/-- A part held in reset has nothing to balance but the checkpoints of its array (R154, R186). -/
theorem State.ShiftBalanced.enterReset {s : State} (h : s.ShiftBalanced) (k : ResetCause) :
    (s.enterReset k).ShiftBalanced := by
  obtain ⟨-, -, held⟩ := h
  exact ⟨⟨rfl, rfl, Nat.zero_le _⟩, ⟨nofun, nofun, nofun⟩, fun c stored => held c (Store.cutOff_checkpoints stored)⟩

/-- The tally unit restored at START has no latch and no candidate, and a set that is locked down is protected (R126,
R131). -/
theorem Tally.restored_spec (cfg : Configuration) (lockLife lockService : Bool) (ck : Option Checkpoint) :
    (Tally.restored cfg lockLife lockService ck).qual = none
      ∧ (Tally.restored cfg lockLife lockService ck).candidate = none
      ∧ (lockLife = true → (Tally.restored cfg lockLife lockService ck).protectLife = true)
      ∧ (lockService = true → (Tally.restored cfg lockLife lockService ck).protectService = true) := by
  cases ck <;> simp +contextual [Tally.restored, Tally.blank]

/-- START takes up the shift of a checkpoint of the array, or opens one with every duration 0 (R150, R173). -/
theorem State.ShiftBalanced.started {s : State} (h : s.ShiftBalanced) (k : ResetCause) (i : StartInputs) :
    (s.started k i).ShiftBalanced := by
  obtain ⟨-, -, held⟩ := h
  obtain ⟨-, -, store⟩ := s.started_log k i
  obtain ⟨-, -, -, -, -, -, -, -, -, -, -, -, -, -, -, -, -, -, tally⟩ := s.started_blocks k i
  obtain ⟨qual, candidate, -⟩ :=
    Tally.restored_spec (loadConfiguration i.memory) s.lockLife s.lockService (foundCheckpoint s.store.pages)
  have array : ∀ c ∈ (Store.cleared s.store.pages).checkpoints, c.shift.Balanced := fun c stored => by
    rcases (Store.mem_checkpoints _ _).1 stored with image | slot
    · cases image
    · exact held c ((Store.mem_checkpoints _ _).2 (.inr slot))
  refine ⟨?_, ?_, fun c stored => array c ?_⟩
  · rw [s.started_shift k i]
    cases found : foundCheckpoint s.store.pages with
    | none => exact ⟨rfl, rfl, Nat.zero_le _⟩
    | some c => exact array c (foundCheckpoint_mem found)
  · rw [State.CountsCredited, tally, qual, candidate]
    exact ⟨nofun, nofun, nofun⟩
  · rw [store, Store.scan_eq] at stored
    exact stored

theorem State.ShiftBalanced.runStart {s : State} (h : s.ShiftBalanced) (k : ResetCause) (i : StartInputs) :
    (s.runStart k i).ShiftBalanced := by
  rw [State.runStart_eq]
  split
  · exact (s.started k i).takeWarning_keepsRun.balanced (h.started k i)
  · exact h.started k i

/-- Every command keeps the balance. -/
theorem exec_shiftBalanced (c : Instr) (s t : State) (h : s.ShiftBalanced) (e : exec c s = .next t) :
    t.ShiftBalanced := by
  cases exec_runEffect c s t e with
  | mode k => exact k.balanced h
  | ticks k => exact k.balanced h.creditTallies
  | presets target value k => exact k.balanced (by cases target <;> exact h)
  | protects set on _ k => exact k.balanced (by cases set <;> exact h)
  | locks set k => exact k.balanced (by cases set <;> exact h)
  | resets k => exact h.enterReset k
  | starts i k => exact h.runStart k i

/-- Settles O40: a step executes the front command, which keeps the balance. -/
theorem shiftDurationsStayBalanced : Obligations.ShiftDurationsStayBalanced := by
  intro s t h e
  unfold step at e
  split at e
  · obtain rfl := Host.Outcome.next.inj e
    exact h
  · rename_i c rest _
    exact exec_shiftBalanced c (s.withPending rest) t h e

/-! ### Protection and lock-down (R126, R128, R129, R186) -/

theorem State.ModeEffect.bits {s t : State} (e : s.ModeEffect t) : s.KeepsBits t := by
  cases e with
  | keeps k => exact k.bits
  | accepts u c before held after =>
    have taken : u.KeepsBits (u.takeCandidate c) := ⟨rfl, rfl, rfl, rfl, rfl⟩
    exact (before.bits.trans taken).trans after.bits

theorem State.LockedProtected.of_bits {s t : State} (h : s.LockedProtected) (b : s.KeepsBits t) : t.LockedProtected := by
  rw [State.LockedProtected, b.phase, b.lockLife, b.lockService, b.protectLife, b.protectService]
  exact h

/-- Protection is taken off a set only while the set is not locked down (R128). -/
theorem State.LockedProtected.setProtect {s : State} (h : s.LockedProtected) {set : TallySet} {on : Bool}
    (allowed : on = true ∨ s.isLocked set = false) : (s.setProtect on set).LockedProtected := by
  intro running
  obtain ⟨life, service⟩ := h running
  have written : s.isLocked set = true → on = true := fun locked => allowed.resolve_right (by simp [locked])
  cases set with
  | lifetime => exact ⟨written, service⟩
  | service => exact ⟨life, written⟩

/-- A set is locked down together with its protection (R129). -/
theorem State.LockedProtected.lock {s : State} (h : s.LockedProtected) (set : TallySet) :
    ((s.lock set).setProtect true set).LockedProtected := by
  intro running
  cases set with
  | lifetime => exact ⟨fun _ => rfl, (h running).2⟩
  | service => exact ⟨(h running).1, fun _ => rfl⟩

/-- START protects a set that is locked down (R126, R131). -/
theorem State.runStart_bits (s : State) (k : ResetCause) (i : StartInputs) :
    ((s.runStart k i).lockLife = s.lockLife ∧ (s.runStart k i).lockService = s.lockService)
      ∧ (s.runStart k i).LockedProtected := by
  obtain ⟨-, -, -, -, -, -, -, -, -, -, -, -, -, -, -, -, life, service, tally⟩ := s.started_blocks k i
  obtain ⟨-, -, protectLife, protectService⟩ :=
    Tally.restored_spec (loadConfiguration i.memory) s.lockLife s.lockService (foundCheckpoint s.store.pages)
  have started : (s.started k i).LockedProtected := fun _ => by
    rw [tally, life, service]
    exact ⟨protectLife, protectService⟩
  rw [State.runStart_eq]
  split
  · have warned := (s.started k i).takeWarning_keepsRun.bits
    exact ⟨⟨warned.lockLife.trans life, warned.lockService.trans service⟩, started.of_bits warned⟩
  · exact ⟨⟨life, service⟩, started⟩

/-- Every command keeps locked-down sets protected. -/
theorem exec_lockedProtected (c : Instr) (s t : State) (h : s.LockedProtected) (e : exec c s = .next t) :
    t.LockedProtected := by
  cases exec_runEffect c s t e with
  | mode k => exact h.of_bits k.bits
  | ticks k => exact State.LockedProtected.of_bits (s := s.creditTallies) h k.bits
  | presets target value k =>
    exact State.LockedProtected.of_bits (s := s.setTally value target) (by cases target <;> exact h) k.bits
  | protects set on allowed k => exact (h.setProtect allowed).of_bits k.bits
  | locks set k => exact (h.lock set).of_bits k.bits
  | resets k => exact nofun
  | starts i k => exact (s.runStart_bits k i).2

/-- A lock-down bit stays set but for a power-on or a supply reset (R126, R129, R186). -/
theorem exec_keepsLocks (c : Instr) (s t : State) (e : exec c s = .next t) (notPowerOn : c ≠ .powerOn)
    (notSupply : ∀ v, c ≠ .supplyReset v) :
    (s.lockLife = true → t.lockLife = true) ∧ (s.lockService = true → t.lockService = true) := by
  cases exec_runEffect c s t e with
  | mode k => exact ⟨k.bits.lockLife.trans, k.bits.lockService.trans⟩
  | ticks k => exact ⟨k.bits.lockLife.trans, k.bits.lockService.trans⟩
  | presets target value k => exact ⟨k.bits.lockLife.trans, k.bits.lockService.trans⟩
  | protects set on allowed k => exact ⟨k.bits.lockLife.trans, k.bits.lockService.trans⟩
  | locks set k =>
    rw [k.bits.lockLife, k.bits.lockService]
    cases set with
    | lifetime => exact ⟨fun _ => rfl, id⟩
    | service => exact ⟨id, fun _ => rfl⟩
  | resets k sets clears =>
    have kept : k.clearsLock = false := by
      rw [Bool.eq_false_iff]
      exact fun locked => (clears locked).elim notPowerOn fun ⟨v, h⟩ => notSupply v h
    refine ⟨fun life => ?_, fun service => ?_⟩
    · change (s.lockLife && !k.clearsLock) = true
      rw [life, kept]
      rfl
    · change (s.lockService && !k.clearsLock) = true
      rw [service, kept]
      rfl
  | starts i k =>
    obtain ⟨⟨life, service⟩, -⟩ := s.runStart_bits k i
    exact ⟨life.trans, service.trans⟩

/-- Settles O41: a step executes the front command, by its effect on the bits. -/
theorem lockedSetsStayProtected : Obligations.LockedSetsStayProtected := by
  refine ⟨fun s t h e => ?_, fun c s t => exec_keepsLocks c s t⟩
  unfold step at e
  split at e
  · obtain rfl := Host.Outcome.next.inj e
    exact h
  · rename_i c rest _
    exact exec_lockedProtected c (s.withPending rest) t h e

end Sys2Proof.Machine
end

section
/-! PROOFS. The four resets (R126, R154, R185, R186). -/

namespace Sys2Proof.Machine

/-! ### The cause of a reset period and what a reset clears (R126, R186) -/

/-- The ranks are the places in R186's order. -/
theorem ResetCause.rank_eq_idxOf (c : ResetCause) :
    c.rank = [ResetCause.powerOn, .supplyLow, .resetLine, .restart].idxOf c := by
  cases c <;> rfl

theorem exec_supplyReset_low {mv : Nat} (low : mv < 3900) (s : State) :
    exec (.supplyReset mv) s = .next (s.enterReset .supplyLow) :=
  congrArg _ (if_pos low)

theorem exec_supplyReset_held {mv : Nat} (held : 3900 ≤ mv) (s : State) : exec (.supplyReset mv) s = .next s :=
  congrArg _ (if_neg (Nat.not_lt.2 held))

/-! ### The reset that a RESTART waits for (R185) -/

theorem LineController.holdsAnswer_iff (lc : LineController) (seq : Nat) :
    lc.holdsAnswer seq = true ↔ ∃ x ∈ lc.list, x.kind = .answer ∧ x.seq = seq := by
  simp [LineController.holdsAnswer]

theorem exec_restartReset_of {s : State} {seq queuedAt : Nat} (running : s.phase = .running)
    (service : s.req.service = some (.restart seq queuedAt)) :
    exec .restartReset s = .next (if (¬∃ x ∈ s.chA.list ++ s.chB.list, x.kind = .answer ∧ x.seq = seq)
      ∨ queuedAt + 100000 ≤ s.tb.elapsed then s.enterReset .restart else s) := by
  have answers : (∃ x ∈ s.chA.list ++ s.chB.list, x.kind = .answer ∧ x.seq = seq)
      ↔ s.chA.holdsAnswer seq = true ∨ s.chB.holdsAnswer seq = true := by
    simp only [LineController.holdsAnswer_iff, List.mem_append, or_and_right, exists_or]
  simp only [exec, execRestartReset, State.isRunning, running, service, answers]
  simp

theorem exec_restartReset_of_not {s : State}
    (not : s.phase ≠ .running ∨ ∀ seq queuedAt, s.req.service ≠ some (.restart seq queuedAt)) :
    exec .restartReset s = .next s := by
  unfold exec
  dsimp only
  unfold execRestartReset
  split
  · rename_i seq queuedAt running service
    rcases not with held | other
    · exact absurd (of_decide_eq_true running) held
    · exact absurd service (other seq queuedAt)
  · rfl

/-! ### What a reset leaves of a page (R154, log entry 8) -/

/-- The cut-off of a program touches its slot alone. -/
theorem Store.cutProgram_page {st : Store} {q : Nat} {g : Page} (page : st.pages[q]? = some g) (index : Nat) :
    ∃ f, (st.cutProgram index).pages[q]? = some f ∧ f.disturbed = g.disturbed ∧ f.slots.length = g.slots.length
      ∧ (∀ i, (¬∃ p, st.programming = some p ∧ p.page = q ∧ p.slot = i) → f.slots[i]? = g.slots[i]?)
      ∧ ∀ i p, i < g.slots.length → st.programming = some p → p.page = q → p.slot = i →
          f.slots[i]? = some (cutRecord (Config.cutProgram index) p.seq ((st.queue.find? Entry.busy).bind st.contentOf)) := by
  unfold Store.cutProgram
  cases programming : st.programming with
  | none => exact ⟨g, page, rfl, rfl, fun _ _ => rfl, nofun⟩
  | some p =>
    by_cases here : q = p.page
    · refine ⟨{ g with slots := g.slots.set p.slot (cutRecord (Config.cutProgram index) p.seq
        ((st.queue.find? Entry.busy).bind st.contentOf)) }, ?_, rfl, by simp, fun i other => ?_, fun i p' lt e _ slot => ?_⟩
      · simp [Store.setSlot, getElem?_modifyAt, here, here ▸ page]
      · exact List.getElem?_set_ne fun slot => other ⟨p, rfl, here.symm, slot⟩
      · obtain rfl := Option.some.inj e
        subst slot
        simp [lt]
    · refine ⟨g, ?_, rfl, rfl, fun _ _ => rfl, fun i p' _ e there => ?_⟩
      · simp [Store.setSlot, getElem?_modifyAt, here, page]
      · obtain rfl := Option.some.inj e
        exact absurd there.symm here

/-- A reset leaves every page its place, undisturbed, each slot as it was, cut, or as the cut-off of its program leaves
it. -/
theorem Store.cutOff_page {st : Store} {index q : Nat} {f : Page} (page : (st.cutProgram index).pages[q]? = some f) :
    (st.cutOff index)[q]? = some (f.settle index q) := by
  rw [Store.cutOff_eq, List.getElem?_mapIdx, page]
  rfl

@[simp] theorem Store.cutOff_length (st : Store) (index : Nat) : (st.cutOff index).length = st.pages.length := by
  rw [Store.cutOff_eq, List.length_mapIdx, Store.cutProgram]
  split
  · exact modifyAt_length ..
  · rfl

/-- The record that the entry being written writes, as its kind gives it (R158). -/
theorem Store.contentOf_eq {st : Store} {e : Entry} {x : StoredRecord} (h : st.contentOf e = some x) :
    match e.kind with
    | .archive a => x = .archive a
    | .shift c => x = .shift c
    | _ => st.image.content.map .checkpoint = some x := by
  unfold Store.contentOf at h
  revert h
  cases e.kind with
  | archive a | shift c => exact fun h => (Option.some.inj h).symm
  | powerFail | checkpoint => exact id

/-- Settles O59: the cause by the phase, the RESTART by its wait, and the array page by page. -/
theorem resetsClearTheVolatileState : Obligations.ResetsClearTheVolatileState := by
  refine ⟨?kinds, ?array, ?restart⟩
  case kinds =>
    intro s order after
    have resets : ∀ k, Host.Outcome.next (s.enterReset k) = after k k.clearsLock := fun k => by
      simp only [after, State.enterReset]
      cases phase : s.phase with
      | running => rfl
      | inReset d =>
        simp only [Phase.causeWith, ResetCause.merge, ResetCause.rank_eq_idxOf]
        rfl
    refine ⟨resets .powerOn, resets .resetLine, fun mv low => (exec_supplyReset_low low s).trans (resets .supplyLow),
      fun mv held => exec_supplyReset_held held s, fun idle rest => Store.cutOff_of_rest idle rest _,
      exec_restartReset_of_not, ?_⟩
    intro seq at' running service waiting
    rw [exec_restartReset_of running service]
    refine ⟨fun ended => ?_, fun waits early => ?_⟩
    · rw [if_pos ended]
      exact resets .restart
    · rw [if_neg (by rintro (none | late); exacts [none waits, absurd late (by omega)])]
  case array =>
    intro st index q g page held
    obtain ⟨f, programmed, disturbed, length, kept, cut⟩ := Store.cutProgram_page page index
    refine ⟨st.cutOff_length index, f.settle index q, Store.cutOff_page programmed, f.settle_disturbed index q,
      (f.settle_length index q).trans length, fun i x slot free => ⟨fun whole => ?_, fun erasing => ?_⟩,
      fun i p whole lt programming here there => ?_⟩
    · rw [Page.settle_of_undisturbed (disturbed.trans whole), kept i free, slot]
    · rw [Page.settle_slots (disturbed.trans erasing), kept i free, slot]
      exact ⟨_, rfl, x.cut_spec _⟩
    · rw [Page.settle_of_undisturbed (disturbed.trans whole), cut i p lt programming here there]
      refine ⟨_, rfl, ?_⟩
      rcases cutRecord_spec (Config.cutProgram index) p.seq ((st.queue.find? Entry.busy).bind st.contentOf) with
        e | e | ⟨x, content, e⟩
      · exact .inl e
      · exact .inr (.inl e)
      · obtain ⟨entry, found, content⟩ := Option.bind_eq_some_iff.1 content
        refine .inr (.inr ⟨entry, List.mem_of_find?_eq_some found, List.find?_some found, x, e, ?_⟩)
        have written := Store.contentOf_eq content
        revert written
        cases entry.kind <;> exact id
  case restart =>
    intro s r served code ok t
    exact State.next_serve_of State.serveRestart served ok code

end Sys2Proof.Machine
end

section
/-! PROOFS. The candidate accepted at its dwell's end (R116, R120 to R123), and a sample of the status lines (R112 to
R116). -/

namespace Sys2Proof.Machine

/-! ### What an acceptance moves and counts (R119 to R122) -/

theorem Mode.ofCode_code (m : Mode) : Mode.ofCode m.code = some m := by cases m <;> rfl

theorem Mode.code_injective : Function.Injective Mode.code := fun a b same =>
  Option.some.inj (by rw [← a.ofCode_code, same, b.ofCode_code])

/-- A number moved between two modes, as the list with both places set (R120). -/
theorem moveBetween_eq {old new : Mode} (differ : new ≠ old) (top d : Nat) (l : List Nat) :
    moveBetween top d l old new =
      (l.set old.code (l.getD old.code 0 - d)).set new.code (min top (l.getD new.code 0 + d)) := by
  have apart : old.code ≠ new.code := fun e => differ (Mode.code_injective e.symm)
  have other : (l.set old.code (l.getD old.code 0 - d)).getD new.code 0 = l.getD new.code 0 := by
    rw [List.getD_eq_getElem?_getD, List.getElem?_set_ne apart, List.getD_eq_getElem?_getD]
  rw [moveBetween, modifyAt_eq_set _ _ _ 0, modifyAt_eq_set _ _ _ 0, other, satAdd, Nat.min_comm]

/-- A count one higher at one place, stopping at its top (R119). -/
theorem modifyAt_satInc (top : Nat) (l : List Nat) (i : Nat) :
    modifyAt (satInc top) l i = l.set i (min top (l.getD i 0 + 1)) := by
  rw [modifyAt_eq_set _ _ _ 0, satInc, Nat.min_comm]

theorem countIf_eq (b : Bool) (n : Nat) : countIf b n = if b = true then min 16777215 (n + 1) else n := by
  rw [countIf, satInc, Nat.min_comm]
  rfl

theorem Mode.running_eq_decide (m : Mode) : m.running = decide (m ≠ .standstill ∧ m ≠ .isolated) := by
  cases m <;> rfl

/-- A stop takes the unit from turning to not turning (R122). -/
theorem State.isStop_eq (s : State) (c : Candidate) :
    s.isStop c = decide ((s.tally.accepted ≠ .standstill ∧ s.tally.accepted ≠ .isolated)
      ∧ ¬(c.mode ≠ .standstill ∧ c.mode ≠ .isolated)) := by
  rw [State.isStop, Mode.running_eq_decide, Mode.running_eq_decide, ← decide_not, ← Bool.decide_and]

/-- The stop and its cause (R122). -/
theorem State.tripStop_eq (s : State) (c : Candidate) :
    s.tripStop c = decide ((s.tally.accepted ≠ .standstill ∧ s.tally.accepted ≠ .isolated)
      ∧ ¬(c.mode ≠ .standstill ∧ c.mode ≠ .isolated)
      ∧ ∃ t, s.tally.association = some t ∧ c.elapsed ≤ t + s.cfg.associationWin * 1000000 ∧ t ≤ c.elapsed) := by
  rw [State.tripStop, State.isStop_eq]
  cases s.tally.association with
  | none => simp [isTripStop]
  | some t => simp [isTripStop, and_assoc, Bool.and_assoc]

/-- And a stop that is no trip stop is a normal stop (R122). -/
theorem State.normalStop_eq (s : State) (c : Candidate) :
    s.normalStop c = (decide ((s.tally.accepted ≠ .standstill ∧ s.tally.accepted ≠ .isolated)
      ∧ ¬(c.mode ≠ .standstill ∧ c.mode ≠ .isolated)) && !s.tripStop c) := by
  rw [State.normalStop, State.isStop_eq]

/-- The service tally after an acceptance (R121). -/
theorem serviceAfter_eq (old new : Mode) (d service : Nat) :
    serviceAfter old new d service =
      if (old ≠ .standstill ∧ old ≠ .isolated) ∧ ¬(new ≠ .standstill ∧ new ≠ .isolated) then service - d
      else if ¬(old ≠ .standstill ∧ old ≠ .isolated) ∧ (new ≠ .standstill ∧ new ≠ .isolated) then
        min 140737488355327 (service + d)
      else service := by
  simp only [serviceAfter, Mode.running_eq_decide, Bool.and_eq_true, Bool.not_eq_true', decide_eq_true_eq,
    decide_eq_false_iff_not, satAdd, Nat.min_comm (service + d)]
  rfl

/-- What an acceptance logs is dated by the time and the quality in force (R77). -/
@[simp] theorem State.judgeService_dating (s : State) : s.judgeService.dating = s.dating := by
  simp [State.dating, State.quality]

/-- The dwell end of a candidate, reached or not (R116). -/
theorem exec_dwellEnd_of {s : State} {c : Candidate} (running : s.phase = .running)
    (held : s.tally.candidate = some c) :
    exec .dwellEnd s = .next (if c.dwellEnd ≤ s.tb.elapsed then s.accept c else s) := by
  simp [exec, execDwellEnd, State.isRunning, running, held]

/-- Settles O37: due or not by the dwell end, and the tallies an acceptance moves field by field. -/
theorem dwellEndAcceptsTheCandidate : Obligations.DwellEndAcceptsTheCandidate := by
  intro s c running held differ old turns trip normal moved entered counted service v logged
  have movedTallies : s.moveTallies c = v := by
    have tripEq : s.tripStop c = trip := s.tripStop_eq c
    have normalEq : s.normalStop c = normal := by rw [s.normalStop_eq c, tripEq]
    rw [State.moveTallies, ShiftRecord.acceptMode, Tally.acceptMode, tripEq, normalEq]
    simp only [moveBetween_eq differ, modifyAt_satInc, countIf_eq, serviceAfter_eq]
    rfl
  have accepted : s.accept c = State.requestCheckpoint
      { logged with tally := { logged.tally with accepted := c.mode, candidate := none } } false := by
    rw [State.accept, State.appendNow, State.judgeService_dating, movedTallies, s.tripStop_eq c]
    rfl
  rw [exec_dwellEnd_of running held]
  exact ⟨fun due => by rw [if_pos due, accepted], fun early => by rw [if_neg (Nat.not_le.2 early)]⟩

/-! ### A sample of the status lines (R112 to R116) -/

/-- A sample is taken at a multiple of 250 µs while the part runs (R112). -/
theorem exec_statusSample_of {s : State} {lines : BitVec 6} (running : s.phase = .running)
    (grid : s.tb.elapsed % 250 = 0) : exec (.statusSample lines) s = .next (s.sampleStatus lines.toNat) := by
  simp [exec, execStatusSample, State.isRunning, running, grid]

/-- No qualification under way (R112). -/
theorem State.sampleStatus_of_none {s : State} (settled : s.tally.qual = none) (comb : Nat) :
    s.sampleStatus comb = if s.tally.qualified = some comb then s else s.beginStatusTest comb := by
  rw [State.sampleStatus, settled]

/-- One under way, for a latch `t` (R112). -/
theorem State.sampleStatus_of_some {s : State} {t : StatusTest} (latched : s.tally.qual = some t) (comb : Nat) :
    s.sampleStatus comb =
      if comb = t.comb then
        if t.elapsed + s.cfg.qualMs * 1000 ≤ s.tb.elapsed then s.qualifyCombination t else s
      else if s.tally.qualified = some comb then s.setStatusTest none else s.beginStatusTest comb := by
  rw [State.sampleStatus, latched]

/-- A combination begins its qualification, unless it is the qualified one or is under test already (R112). -/
theorem State.sampleStatus_begins {s : State} {comb : Nat} (other : s.tally.qualified ≠ some comb)
    (untested : ∀ w, s.tally.qual = some w → w.comb ≠ comb) : s.sampleStatus comb = s.beginStatusTest comb := by
  cases latched : s.tally.qual with
  | none => rw [State.sampleStatus_of_none latched, if_neg other]
  | some w => rw [State.sampleStatus_of_some latched, if_neg (untested w latched).symm, if_neg other]

/-- A sample at which the latched combination has stood for Q qualifies it, and so does with Q = 0 its onset sample
(R112). -/
theorem State.sampleStatus_qualifies {s : State} {comb : Nat} {t : StatusTest}
    (due : (s.tally.qual = some t ∧ t.comb = comb ∧ t.elapsed + s.cfg.qualMs * 1000 ≤ s.tb.elapsed)
      ∨ (s.cfg.qualMs = 0 ∧ t = s.statusOnset comb ∧ s.tally.qualified ≠ some comb
        ∧ ∀ w, s.tally.qual = some w → w.comb ≠ comb)) :
    t.comb = comb ∧ s.sampleStatus comb = s.qualifyCombination t := by
  rcases due with ⟨latched, rfl, stood⟩ | ⟨zero, rfl, other, untested⟩
  · exact ⟨rfl, by rw [State.sampleStatus_of_some latched, if_pos rfl, if_pos stood]⟩
  · exact ⟨rfl, by rw [State.sampleStatus_begins other untested, State.beginStatusTest, if_pos zero]⟩

/-- A combination that is INVALID qualifies (R114, R115). -/
theorem State.qualifyCombination_invalid {s : State} {t : StatusTest}
    (invalid : s.cfg.modeTable.getD t.comb none = none) :
    s.qualifyCombination t =
      if s.tally.invalidLogged then (s.settleStatus t.comb).clearCandidate
      else ((s.settleStatus t.comb).clearCandidate.setInvalidLogged true).appendNow (.invalidCombination t.comb) := by
  rw [State.qualifyCombination, invalid]

/-- A combination that decodes to a mode qualifies (R114, R116). -/
theorem State.qualifyCombination_mode {s : State} {t : StatusTest} {m : Mode}
    (decoded : s.cfg.modeTable.getD t.comb none = some m) :
    s.qualifyCombination t =
      if m = s.tally.accepted then (s.settleStatus t.comb).clearCandidate.setInvalidLogged false
      else if s.tally.candidate.map (·.mode) = some m then (s.settleStatus t.comb).setInvalidLogged false
      else ((s.settleStatus t.comb).setInvalidLogged false).formCandidate m t := by
  rw [State.qualifyCombination, decoded]

/-- Settles O36: the sample by what is under test, and the combination that qualifies by what it decodes to. -/
theorem statusSampleIsQualified : Obligations.StatusSampleIsQualified := by
  intro s lines running grid comb onset withTally run
  have sampled : run = .next (s.sampleStatus comb) := exec_statusSample_of running grid
  rw [sampled]
  have begins : s.tally.qualified ≠ some comb → (∀ w, s.tally.qual = some w → w.comb ≠ comb) → 1 ≤ s.cfg.qualMs →
      s.sampleStatus comb = withTally { s.tally with qual := some onset } := fun other untested positive => by
    rw [State.sampleStatus_begins other untested, State.beginStatusTest, if_neg (Nat.ne_of_gt positive)]
    rfl
  refine ⟨fun settled same => ?_, fun settled other positive => ?_, fun t latched =>
    ⟨fun same early => ?_, fun differ same => ?_, fun differ other positive => ?_⟩, ?qualifies⟩
  · rw [State.sampleStatus_of_none settled, if_pos same]
  · rw [begins other (by simp [settled]) positive]
  · rw [State.sampleStatus_of_some latched, if_pos same.symm, if_neg (Nat.not_le.2 early)]
  · rw [State.sampleStatus_of_some latched, if_neg differ.symm, if_pos same]
    rfl
  · rw [begins other (by simpa [latched] using differ) positive]
  case qualifies =>
    intro t due settled decoded
    obtain ⟨combEq, qualified⟩ := State.sampleStatus_qualifies due
    have settledEq : s.settleStatus t.comb = withTally settled := by
      rw [combEq]
      rfl
    rw [qualified]
    refine ⟨fun invalid logged => ?_, fun invalid unlogged => ?_, fun accepted => ?_, ?formed⟩
    · rw [State.qualifyCombination_invalid (by rw [combEq]; exact invalid), if_pos logged, settledEq]
      rfl
    · rw [State.qualifyCombination_invalid (by rw [combEq]; exact invalid), unlogged, settledEq, combEq]
      rfl
    · rw [State.qualifyCombination_mode (by rw [combEq]; exact accepted), if_pos rfl, settledEq]
      rfl
    case formed =>
      intro m mode differ formed
      rw [State.qualifyCombination_mode (by rw [combEq]; exact mode), if_neg differ, settledEq]
      refine ⟨fun same => ?_, fun other early => ?_, fun other stood => ?_⟩
      · rw [if_pos same]
        rfl
      · rw [if_neg other]
        exact congrArg _ (if_neg (Nat.not_le.2 early))
      · rw [if_neg other]
        exact congrArg _ (if_pos stood)

end Sys2Proof.Machine
end

section
/-! PROOFS. PRESET TALLY, PROTECT TALLY and LOCK DOWN TALLY (R125, R127 to R129, R182). -/

namespace Sys2Proof.Machine

/-! ### The set that a request names (R126, R182) -/

theorem Tally.setProtect_ofCode (t : Tally) (b : Bool) (n : Nat) :
    t.setProtect b (.ofCode n) = if n = 0 then { t with protectLife := b } else { t with protectService := b } := by
  unfold TallySet.ofCode
  split <;> rfl

theorem State.isLocked_ofCode (s : State) (n : Nat) :
    s.isLocked (.ofCode n) = if n = 0 then s.lockLife else s.lockService := by
  unfold TallySet.ofCode
  split <;> rfl

theorem State.lock_ofCode (s : State) (n : Nat) :
    s.lock (.ofCode n) = { s with
      lockLife := if n = 0 then true else s.lockLife
      lockService := if n = 0 then s.lockService else true } := by
  unfold TallySet.ofCode
  split <;> rfl

/-- The target of a PRESET of the first set, its mode read from the second parameter (R127, R178). -/
theorem TallyTarget.ofParams_first {r : Request} (ok : r.acceptable = true) (code : r.code = 11)
    (first : byteAt r.params 0 = 0) :
    ∃ m : Mode, m.code = byteAt r.params 1 ∧ TallyTarget.ofParams r.params = .mode m := by
  have range : (byteAt r.params 0 = 0 ∧ byteAt r.params 1 ≤ 6) ∨ (byteAt r.params 0 = 1 ∧ byteAt r.params 1 = 255) := by
    obtain ⟨-, range⟩ := r.acceptable_iff.1 ok
    rw [code] at range
    exact of_decide_eq_true range
  have decodes := Mode.code_ofCode (byteAt r.params 1)
  rw [if_pos (by omega)] at decodes
  obtain ⟨m, mode, eq⟩ := Option.map_eq_some_iff.1 decodes
  exact ⟨m, eq, by rw [TallyTarget.ofParams, if_pos first, mode]; rfl⟩

theorem TallyTarget.ofParams_second {p : List Byte} (second : byteAt p 0 ≠ 0) : TallyTarget.ofParams p = .service :=
  if_neg second

theorem Tally.isProtected_ofParams (t : Tally) (p : List Byte) :
    t.isProtected (TallyTarget.ofParams p).set = if byteAt p 0 = 0 then t.protectLife else t.protectService := by
  unfold TallyTarget.ofParams
  split <;> rfl

/-! ### The three requests served (R127 to R129) -/

/-- While PROTECTION_FAULT is set each is answered FLAG_PENDING (R127 to R129). -/
theorem State.serveTally_pending {s : State} (fault : s.flags.protectionFault = true) (r : Request) :
    s.servePreset r = s.answer r .flagPending [] ∧ s.serveProtect r = s.answer r .flagPending []
      ∧ s.serveLockDown r = s.answer r .flagPending [] :=
  ⟨if_pos fault, if_pos fault, if_pos fault⟩

theorem State.servePreset_of_clear {s : State} (clear : s.flags.protectionFault = false) (r : Request) :
    s.servePreset r =
      if s.tally.candidate.isSome then s.answer r .modePending []
      else if s.tally.isProtected (TallyTarget.ofParams r.params).set then
        s.setProtectionFault.answer r .isProtected []
      else (s.preset (.ofParams r.params) (fieldAt r.params 2 6)).answer r .ok [] :=
  if_neg (by simp [clear])

theorem State.serveProtect_of_clear {s : State} (clear : s.flags.protectionFault = false) (r : Request) :
    s.serveProtect r =
      if byteAt r.params 1 = 1 then (s.protect (.ofCode (byteAt r.params 0)) true .on).answer r .ok []
      else if s.isLocked (.ofCode (byteAt r.params 0)) then s.answer r .isProtected []
      else (s.protect (.ofCode (byteAt r.params 0)) false .off).answer r .ok [] :=
  if_neg (by simp [clear])

theorem State.serveLockDown_of_clear {s : State} (clear : s.flags.protectionFault = false) (r : Request) :
    s.serveLockDown r =
      ((s.lock (.ofCode (byteAt r.params 0))).protect (.ofCode (byteAt r.params 0)) true .lockDown).answer r .ok [] :=
  if_neg (by simp [clear])

/-- A protection action (R128, R129), with the bits it leaves. -/
theorem State.protect_ofCode (s : State) (n : Nat) (on : Bool) (action : ProtectAction) :
    s.protect (.ofCode n) on action =
      (State.append { s with
        tally := if n = 0 then { s.tally with protectLife := on } else { s.tally with protectService := on } }
        ⟨s.tb.time, s.tb.g, s.quality⟩ (.protect (.ofCode n) action)).requestCheckpoint false := by
  rw [← Tally.setProtect_ofCode]
  rfl

/-- A PRESET of a lifetime tally carried out (R127). -/
theorem State.preset_mode (s : State) (m : Mode) (asked : Nat) :
    s.preset (.mode m) asked =
      (State.append { s with tally := { s.tally with lifetime := s.tally.lifetime.set m.code (min 140737488355327 asked) } }
        ⟨s.tb.time, s.tb.g, s.quality⟩
        (.preset (.mode m) (s.tally.lifetime.getD m.code 0) (min 140737488355327 asked))).requestCheckpoint false := by
  rw [Nat.min_comm]
  rfl

/-- A PRESET of the service tally carried out: service-due is judged, or cleared below the threshold (R125, R127). -/
theorem State.preset_service (s : State) (asked : Nat) (t : State)
    (written : t = State.append { s with tally := { s.tally with service := min 140737488355327 asked } }
      ⟨s.tb.time, s.tb.g, s.quality⟩ (.preset .service s.tally.service (min 140737488355327 asked))) :
    s.preset .service asked =
      (if s.cfg.serviceLimit ≠ 0 ∧ s.cfg.serviceLimit * 3600000 ≤ min 140737488355327 asked then t.judgeService
        else { t with tally := { t.tally with serviceDue := false } }).requestCheckpoint false := by
  have judged : t.judgePreset = if s.cfg.serviceLimit ≠ 0 ∧ s.cfg.serviceLimit * 3600000 ≤ min 140737488355327 asked
      then t.judgeService else { t with tally := { t.tally with serviceDue := false } } := by
    have tally : t.tally.service = min 140737488355327 asked := by simp [written]
    have cfg : t.cfg = s.cfg := by simp [written]
    rw [State.judgePreset]
    exact if_congr (by rw [t.serviceReached_iff, tally, cfg]) rfl rfl
  rw [← judged, written, Nat.min_comm]
  rfl

/-- Settles O57: FLAG_PENDING for all three, then each request by its tests in their order. -/
theorem tallyRequestsAreJudged : Obligations.TallyRequestsAreJudged := by
  intro s r served ok u now first value refused done withTally set' protectTo
  have preset : r.code = 11 → exec .presetTally s = .next (u.servePreset r) := fun code =>
    State.next_serve_of State.servePreset served ok code
  have protect : r.code = 12 → exec .protectTally s = .next (u.serveProtect r) := fun code =>
    State.next_serve_of State.serveProtect served ok code
  have lockDown : r.code = 13 → exec .lockDownTally s = .next (u.serveLockDown r) := fun code =>
    State.next_serve_of State.serveLockDown served ok code
  refine ⟨fun fault => ?pending, fun clear code => ?preset, fun clear code => ?protect, fun clear code => ?lockDown⟩
  case pending =>
    obtain ⟨presets, protects, locks⟩ := State.serveTally_pending (s := u) fault r
    exact ⟨fun code => (preset code).trans (congrArg _ presets), fun code => (protect code).trans (congrArg _ protects),
      fun code => (lockDown code).trans (congrArg _ locks)⟩
  case preset =>
    rw [preset code, State.servePreset_of_clear (s := u) clear r]
    have settled : s.tally.candidate = none → ¬u.tally.candidate.isSome = true := Option.not_isSome_iff_eq_none.2
    refine ⟨fun waiting => ?_, fun none guarded => ?_, fun none isFirst free => ?_, ?service⟩
    · exact congrArg _ (if_pos (Option.isSome_iff_ne_none.2 waiting))
    · rw [if_neg (settled none), Tally.isProtected_ofParams]
      exact congrArg _ (if_pos guarded)
    · obtain ⟨m, mode, target⟩ := TallyTarget.ofParams_first ok code isFirst
      refine ⟨m, mode, ?_⟩
      rw [if_neg (settled none), Tally.isProtected_ofParams, if_pos isFirst, target, State.preset_mode]
      exact congrArg _ (if_neg (Bool.eq_false_iff.1 free))
    case service =>
      intro none second free set'' reached
      have run : u.servePreset r = State.answer (State.requestCheckpoint (if reached then set''.judgeService
          else { set'' with tally := { set''.tally with serviceDue := false } }) false) r .ok [] := by
        rw [State.servePreset_of_clear (s := u) clear r, if_neg (settled none), Tally.isProtected_ofParams,
          if_neg second, TallyTarget.ofParams_second second, u.preset_service (fieldAt r.params 2 6) set'' rfl]
        exact if_neg (Bool.eq_false_iff.1 free)
      rw [← State.servePreset_of_clear (s := u) clear r, run]
      exact ⟨fun hit => by rw [if_pos hit], fun no => by rw [if_neg no]⟩
  case protect =>
    rw [protect code, State.serveProtect_of_clear (s := u) clear r]
    refine ⟨fun on => ?_, fun off locked => ?_, fun off free => ?_⟩
    · rw [if_pos on, State.protect_ofCode]
      rfl
    · rw [if_neg (by omega), State.isLocked_ofCode]
      exact congrArg _ (if_pos locked)
    · rw [if_neg (by omega), State.isLocked_ofCode, State.protect_ofCode]
      exact congrArg _ (if_neg (by rw [Bool.not_eq_true]; exact free))
  case lockDown =>
    rw [lockDown code, State.serveLockDown_of_clear (s := u) clear r, State.protect_ofCode, State.lock_ofCode]
    rfl

end Sys2Proof.Machine
end

section
/-! PROOFS. The shift schedule (R133, R134), and the two instants of an open shift against station time (R138, R139). -/

namespace Sys2Proof.Machine

/-! ### The number of a station time, and the two instants of a shift (R134) -/

/-- A shift is three hours long at least (R133). -/
theorem Configuration.shiftLength_ge (c : Configuration) (shifts : c.shiftsPerDay ∈ [1, 2, 3, 4, 6, 8]) :
    10800 ≤ c.shiftLength := by
  simp only [List.mem_cons, List.not_mem_nil, or_false] at shifts
  rcases shifts with h | h | h | h | h | h <;> simp [Configuration.shiftLength, h]

/-- Before the first boundary station time has shift number 0 (R134). -/
theorem Configuration.shiftNumber_before (c : Configuration) {sec : Nat} (before : sec < c.firstBoundary) :
    c.shiftNumber sec = 0 :=
  if_pos before

/-- From the first boundary on the number counts the whole shift lengths that have passed (R134). -/
theorem Configuration.shiftNumber_from (c : Configuration) {sec : Nat} (from' : c.firstBoundary ≤ sec) :
    c.shiftNumber sec = (sec - c.firstBoundary) / c.shiftLength + 1 :=
  if_neg (Nat.not_lt.2 from')

/-- A station time lies between the boundary of its number and the next (R134). -/
theorem Configuration.shiftNumber_between (c : Configuration) {sec : Nat} (from' : c.firstBoundary ≤ sec)
    (long : 0 < c.shiftLength) :
    c.firstBoundary + (c.shiftNumber sec - 1) * c.shiftLength ≤ sec
      ∧ sec < c.firstBoundary + c.shiftNumber sec * c.shiftLength := by
  have begun := Nat.div_mul_le_self (sec - c.firstBoundary) c.shiftLength
  have ends := Nat.lt_div_mul_add (a := sec - c.firstBoundary) long
  rw [c.shiftNumber_from from', Nat.add_sub_cancel, Nat.add_mul, Nat.one_mul]
  omega

/-- No station second has a number above 397,683 (R2, R134). -/
theorem Configuration.shiftNumber_le (c : Configuration) (shifts : c.shiftsPerDay ∈ [1, 2, 3, 4, 6, 8]) {sec : Nat}
    (top : sec ≤ 4294967295) : c.shiftNumber sec ≤ 397683 := by
  rcases Nat.lt_or_ge sec c.firstBoundary with before | from'
  · rw [c.shiftNumber_before before]
    omega
  · have lengths : (sec - c.firstBoundary) / c.shiftLength ≤ 4294967295 / 10800 :=
      Nat.div_le_div (by omega) (c.shiftLength_ge shifts) (by omega)
    rw [c.shiftNumber_from from']
    omega

/-- A grace shorter than a shift leaves force close before the end of the shift that follows (R134). -/
theorem Configuration.forceClose_lt (c : Configuration) (n : Nat) (short : c.grace < c.shiftLength) :
    c.forceClose n < c.firstBoundary + (n + 1) * c.shiftLength := by
  rw [Configuration.forceClose, Nat.add_mul, Nat.one_mul]
  omega

/-! ### The two instants against station time (R138, R139) -/

/-- A shift opened by a forced close is followed in the same evaluation by none opened otherwise (R138, R139). -/
theorem State.evaluateDepth_forced (k : Nat) (s : State) (forced : s.shift.current.openCause = .forced) :
    (s.evaluateDepth k).shift.current.openCause = .forced := by
  induction k generalizing s with
  | zero => exact forced
  | succ k ih =>
    rw [State.evaluateDepth]
    split
    · split
      · exact ih _ (by simp [State.forcedClose, State.closeShift_shift, ShiftRecord.opening])
      · split <;> exact forced
    · exact forced

/-- At or after its force close a shift gives way to one that is opened by force (R139). -/
theorem State.evaluate_forced (s : State) (n : Nat) (due : s.shift.deferred = false)
    (number : s.shift.current.number = some n) (after : s.cfg.forceClose n * 1000000 ≤ s.instant) :
    s.evaluate.shift.current.openCause = .forced := by
  rw [State.evaluate, s.evaluateDepth_succ 1 n due number, if_pos after]
  exact State.evaluateDepth_forced 1 _ (by simp [State.forcedClose, State.closeShift_shift, ShiftRecord.opening])

/-- Settles O42: the number and the two instants from the boundaries, then both instants as an evaluation compares them
with station time, and the rule's example. -/
theorem shiftScheduleIsByBoundaries : Obligations.ShiftScheduleIsByBoundaries := by
  refine ⟨fun c sec n shifts => ?schedule, fun s n due number => ?compared, by decide⟩
  case schedule =>
    intro lsh _ lead grace begins
    have long : 10800 ≤ lsh := c.shiftLength_ge shifts
    have ends : begins (n + 1) = c.firstBoundary + n * lsh := rfl
    refine ⟨c.shiftNumber_before, fun from' => ⟨c.shiftNumber_from from', ?_⟩, ?_, rfl, ?_, c.shiftNumber_le shifts,
      fun eight zero => ?_⟩
    · exact c.shiftNumber_between from' (by change 0 < lsh; omega)
    · have opens : c.windowOpen n = begins (n + 1) - c.lead := rfl
      omega
    · exact c.forceClose_lt n (by change c.grace < lsh; omega)
    · rw [c.shiftNumber_from (by omega), Configuration.shiftLength, eight, zero]
  case compared =>
    refine ⟨s.evaluate_forced n due number, fun before running => ?_⟩
    have evaluated : s.evaluate = _ := s.evaluateDepth_before 1 n due number before
    rw [evaluated]
    split
    · rename_i opens
      exact ⟨rfl, fun _ => opens.2, fun _ => rfl⟩
    · rename_i ahead
      refine ⟨rfl, fun window => ?_, fun opens => absurd ⟨running, opens⟩ ahead⟩
      rw [running] at window
      cases window

end Sys2Proof.Machine
end

section
/-! PROOFS. Handover notices (R141 to R145): the payload check, SIGN_OFF, and TAKE_OVER. -/

namespace Sys2Proof.Machine

/-! ### What the shift unit takes (R141) -/

/-- The payload check of R141: an action of the two, and station times whose microseconds lie below a second. -/
theorem HandoverNotice.wellFormed_iff (a : HandoverNotice) :
    a.wellFormed = true ↔
      (a.action = 1 ∨ a.action = 2) ∧ a.time.u < 1000000 ∧ ∀ t, a.signOff = some t → t.u < 1000000 := by
  cases found : a.signOff <;> simp [HandoverNotice.wellFormed, found, and_assoc]

/-- A stray notice counted, with the limit written first (R141). -/
theorem State.strayNotice_eq (s : State) :
    s.strayNotice = s.modShift fun r => { r with strays := min 65535 (r.strays + 1) } := by
  simp only [State.strayNotice, satInc_eq]

/-- A notice that fails the check, comes before the first evaluation or finds no number is stray (R141). -/
theorem State.takeHandover_stray (s : State) (a : HandoverNotice)
    (unfit : a.wellFormed = false ∨ s.shift.deferred = true ∨ s.shift.current.number = none) :
    s.takeHandover a = s.strayNotice := by
  refine if_pos ?_
  rcases unfit with h | h | h <;> simp [h]

/-- Every other notice is taken by its action (R141). -/
theorem State.takeHandover_sound (s : State) {a : HandoverNotice} {n : Nat} (sound : a.wellFormed = true)
    (due : s.shift.deferred = false) (number : s.shift.current.number = some n) :
    s.takeHandover a = if a.action = 1 then s.takeSignOff a else s.takeTakeOver a :=
  if_neg (by simp [sound, due, number])

/-! ### SIGN_OFF (R142) -/

/-- A SIGN_OFF that names another shift is stray (R142). -/
theorem State.takeSignOff_other (s : State) {a : HandoverNotice} {n : Nat} (number : s.shift.current.number = some n)
    (other : a.number ≠ n) : s.takeSignOff a = s.strayNotice :=
  if_neg fun same => other (Option.some.inj (number.symm.trans same)).symm

/-- In WINDOW the SIGN_OFF of the open shift fills its sign-off time and outgoing crew (R142). -/
theorem State.takeSignOff_window (s : State) {a : HandoverNotice} (named : s.shift.current.number = some a.number)
    (window : s.shift.state = .window) :
    s.takeSignOff a =
      (s.modShift fun r => { r with signOff := some a.time, outgoing := some a.crew }).setHandover .signedOff := by
  rw [State.takeSignOff, if_pos named, window]

/-- A second SIGN_OFF of the open shift has no effect (R142). -/
theorem State.takeSignOff_signedOff (s : State) {a : HandoverNotice} (named : s.shift.current.number = some a.number)
    (signedOff : s.shift.state = .signedOff) : s.takeSignOff a = s := by
  rw [State.takeSignOff, if_pos named, signedOff]

/-- A SIGN_OFF of the open shift before its window is stray (R142). -/
theorem State.takeSignOff_running (s : State) {a : HandoverNotice} (named : s.shift.current.number = some a.number)
    (running : s.shift.state = .running) : s.takeSignOff a = s.strayNotice := by
  rw [State.takeSignOff, if_pos named, running]

/-! ### TAKE_OVER (R143, R145) -/

/-- The instant of the later of two station times. -/
theorem StationTime.later_instant (a b : StationTime) : (StationTime.later a b).instant = max a.instant b.instant := by
  unfold StationTime.later
  split <;> omega

/-- The instant of a whole second. -/
theorem StationTime.instant_whole (sec : Nat) : StationTime.instant ⟨sec, 0⟩ = sec * 1000000 := Nat.add_zero _

/-- The close of a TAKE_OVER: its action time, no later than now, and no earlier than window open and opened-at (R143). -/
theorem State.takeoverClosedAt_instant (s : State) (n : Nat) (action : StationTime) :
    (s.takeoverClosedAt n action).instant =
      max (max (min action.instant s.instant) (s.cfg.windowOpen n * 1000000)) s.shift.current.openedAt.time.instant := by
  have first : (if s.instant < action.instant then s.tb.time else action).instant = min action.instant s.instant := by
    rw [State.instant]
    split <;> omega
  rw [State.takeoverClosedAt, StationTime.later_instant, StationTime.later_instant, first, StationTime.instant_whole]

/-- The closing record: as signed off, or with the sign-off time that the TAKE_OVER brings, or marked without one (R143). -/
theorem ShiftRecord.signedAtTakeover_eq (r : ShiftRecord) {state : HandoverState} (begun : state ≠ .running)
    (signOff : Option StationTime) :
    r.signedAtTakeover state signOff =
      if state = .signedOff then r
      else if signOff = none then { r with noSignOff := true } else { r with signOff := signOff } := by
  cases state with
  | running => exact absurd rfl begun
  | signedOff => rfl
  | window => cases signOff <;> rfl

/-- A TAKE_OVER of the open shift before its window is stray (R143). -/
theorem State.takeTakeOver_running (s : State) {a : HandoverNotice} (named : s.shift.current.number = some a.number)
    (running : s.shift.state = .running) : s.takeTakeOver a = s.strayNotice :=
  (if_pos named).trans (if_pos running)

/-- A TAKE_OVER of the open shift in WINDOW or SIGNED_OFF closes it and opens the next (R143). -/
theorem State.takeTakeOver_own (s : State) {a : HandoverNotice} (named : s.shift.current.number = some a.number)
    (begun : s.shift.state ≠ .running) :
    s.takeTakeOver a = State.evaluate (s.closeShift (s.shift.current.signedAtTakeover s.shift.state a.signOff)
      (s.takeoverClosedAt a.number a.time) .takeover (ShiftRecord.opening (some (a.number + 1))
        (s.openedFrom (s.takeoverClosedAt a.number a.time)) .takeover (some (a.crew, a.time)))) :=
  (if_pos named).trans (if_neg begun)

/-- A TAKE_OVER that names another shift: the late one of the shift before a forced close, or a stray (R145). -/
theorem State.takeTakeOver_other (s : State) {a : HandoverNotice} {n : Nat} (number : s.shift.current.number = some n)
    (other : a.number ≠ n) :
    s.takeTakeOver a =
      if s.shift.current.openCause = .forced ∧ s.shift.current.crew = none ∧ n = a.number + 1 then
        s.modShift fun r => { r with crew := some (a.crew, a.time), lateTakeover := true }
      else s.strayNotice := by
  have unnamed : s.shift.current.number ≠ some a.number := fun same =>
    other (Option.some.inj (number.symm.trans same)).symm
  rw [State.takeTakeOver, if_neg unnamed, number]
  simp only [Option.some.injEq]

/-- Settles O44: the notices that are stray before they are read, then SIGN_OFF and TAKE_OVER by the shift they name and the
handover state. -/
theorem handoverNoticeIsTaken : Obligations.HandoverNoticeIsTaken := by
  intro s a r stray sound
  have counted : s.strayNotice = stray := s.strayNotice_eq
  have checked : a.wellFormed = true ↔ sound := a.wellFormed_iff
  refine ⟨fun unfit => ?_, fun n fit due number => ?_⟩
  · rw [← checked, Bool.not_eq_true] at unfit
    exact (s.takeHandover_stray a unfit).trans counted
  · have taken := s.takeHandover_sound (checked.2 fit) due number
    have signOff : a.action = 1 → s.takeHandover a = s.takeSignOff a := fun one => taken.trans (if_pos one)
    have takeOver : a.action = 2 → s.takeHandover a = s.takeTakeOver a := fun two => taken.trans (if_neg (by omega))
    refine ⟨fun one named => ?_, fun one other => ?_, fun two named running => ?_, fun two named begun => ?_,
      fun two other => ?_⟩
    · subst named
      rw [signOff one]
      exact ⟨s.takeSignOff_window number, s.takeSignOff_signedOff number, fun running =>
        (s.takeSignOff_running number running).trans counted⟩
    · exact (signOff one).trans ((s.takeSignOff_other number other).trans counted)
    · subst named
      exact (takeOver two).trans ((s.takeTakeOver_running number running).trans counted)
    · subst named
      refine ⟨s.takeoverClosedAt a.number a.time, s.takeoverClosedAt_instant a.number a.time, ?_⟩
      rw [takeOver two, s.takeTakeOver_own number begun, ShiftRecord.signedAtTakeover_eq _ begun]
      rfl
    · rw [takeOver two, s.takeTakeOver_other number other]
      exact ⟨fun forced crewless next => if_pos ⟨forced, crewless, next⟩, fun late => (if_neg late).trans counted⟩

end Sys2Proof.Machine
end

section
/-! PROOFS. The open shift keeps its number and its opened-at (R135) through everything but the shift unit's closes and first
evaluation: the groups, the inputs, the tallies, and the shift unit's own counts. -/

namespace Sys2Proof.Machine

/-! ### The groups and the inputs (R67, R97, R99 to R105) -/

@[simp] theorem State.closeGroup_number_openedAt (s : State) (g : Nat) :
    (s.closeGroup g).shift.current.number = s.shift.current.number
      ∧ (s.closeGroup g).shift.current.openedAt = s.shift.current.openedAt := by
  unfold State.closeGroup
  dsimp only
  split
  · simp
  · split <;> simp [State.countFirstOut]

@[simp] theorem State.closeIfDue_number_openedAt (s : State) (g : Nat) :
    (s.closeIfDue g).shift.current.number = s.shift.current.number
      ∧ (s.closeIfDue g).shift.current.openedAt = s.shift.current.openedAt := by
  unfold State.closeIfDue
  split <;> simp

@[simp] theorem State.closeDue_number_openedAt (s : State) (gs : List Nat) :
    (s.closeDue gs).shift.current.number = s.shift.current.number
      ∧ (s.closeDue gs).shift.current.openedAt = s.shift.current.openedAt := by
  unfold State.closeDue
  induction gs generalizing s with
  | nil => exact ⟨rfl, rfl⟩
  | cons g gs ih => simp [ih]

@[simp] theorem State.handMember_number_openedAt (s : State) (g : Nat) (m : Member) :
    (s.handMember g m).shift.current.number = s.shift.current.number
      ∧ (s.handMember g m).shift.current.openedAt = s.shift.current.openedAt := by
  unfold State.handMember State.openGroup
  dsimp only
  split
  · split
    · simp
    · split <;> simp
  · simp
  · split <;> simp

@[simp] theorem State.offerMember_number_openedAt (s : State) (r : Received) :
    (s.offerMember r).shift.current.number = s.shift.current.number
      ∧ (s.offerMember r).shift.current.openedAt = s.shift.current.openedAt := by
  unfold State.offerMember
  dsimp only
  split <;> simp

@[simp] theorem State.takeTrip_number_openedAt (s : State) (i n : Nat) (d : Dating) :
    (s.takeTrip i n d).shift.current.number = s.shift.current.number
      ∧ (s.takeTrip i n d).shift.current.openedAt = s.shift.current.openedAt := by
  unfold State.takeTrip
  dsimp only
  split <;> simp [State.modShift, ShiftRecord.countTrip]

@[simp] theorem State.inputEvent_number_openedAt (s : State) (i : Nat) (c : InputChannel) (t : InputTest) :
    (s.inputEvent i c t).shift.current.number = s.shift.current.number
      ∧ (s.inputEvent i c t).shift.current.openedAt = s.shift.current.openedAt := by
  unfold State.inputEvent State.inputChange
  dsimp only
  split
  · simp
  · split
    · simp
    · split <;> simp

@[simp] theorem State.sampleInput_number_openedAt (s : State) (lines : BitVec 16) (i : Nat) :
    (s.sampleInput lines i).shift.current.number = s.shift.current.number
      ∧ (s.sampleInput lines i).shift.current.openedAt = s.shift.current.openedAt := by
  unfold State.sampleInput State.inputQualifies
  dsimp only
  split
  · split
    · simp
    · split <;> simp
  · simp

@[simp] theorem State.sampleInputs_number_openedAt (s : State) (lines : BitVec 16) (order : List Nat) :
    (order.foldl (fun t i => t.sampleInput lines i) s).shift.current.number = s.shift.current.number
      ∧ (order.foldl (fun t i => t.sampleInput lines i) s).shift.current.openedAt = s.shift.current.openedAt := by
  induction order generalizing s with
  | nil => exact ⟨rfl, rfl⟩
  | cons i order ih => simp [ih]

/-! ### The tallies (R112 to R122) -/

@[simp] theorem ShiftRecord.credit_number_openedAt (r : ShiftRecord) (m : Mode) :
    (r.credit m).number = r.number ∧ (r.credit m).openedAt = r.openedAt := by
  unfold ShiftRecord.credit
  split <;> exact ⟨rfl, rfl⟩

@[simp] theorem State.creditTick_number_openedAt (s : State) :
    s.creditTick.shift.current.number = s.shift.current.number
      ∧ s.creditTick.shift.current.openedAt = s.shift.current.openedAt := by
  unfold State.creditTick
  split <;> simp

@[simp] theorem State.accept_number_openedAt (s : State) (c : Candidate) :
    (s.accept c).shift.current.number = s.shift.current.number
      ∧ (s.accept c).shift.current.openedAt = s.shift.current.openedAt := by
  simp [State.accept, State.moveTallies, ShiftRecord.acceptMode]

@[simp] theorem State.qualifyCombination_number_openedAt (s : State) (t : StatusTest) :
    (s.qualifyCombination t).shift.current.number = s.shift.current.number
      ∧ (s.qualifyCombination t).shift.current.openedAt = s.shift.current.openedAt := by
  unfold State.qualifyCombination State.formCandidate
  split
  · split <;> simp
  · split
    · simp
    · split
      · simp
      · split <;> simp

@[simp] theorem State.beginStatusTest_number_openedAt (s : State) (comb : Nat) :
    (s.beginStatusTest comb).shift.current.number = s.shift.current.number
      ∧ (s.beginStatusTest comb).shift.current.openedAt = s.shift.current.openedAt := by
  unfold State.beginStatusTest
  split <;> simp

@[simp] theorem State.sampleStatus_number_openedAt (s : State) (comb : Nat) :
    (s.sampleStatus comb).shift.current.number = s.shift.current.number
      ∧ (s.sampleStatus comb).shift.current.openedAt = s.shift.current.openedAt := by
  unfold State.sampleStatus
  split
  · split
    · split <;> simp
    · split <;> simp
  · split <;> simp

/-! ### The shift unit's own counts (R141, R142, R144, R148, R149) -/

@[simp] theorem State.strayNotice_number_openedAt (s : State) :
    s.strayNotice.shift.current.number = s.shift.current.number
      ∧ s.strayNotice.shift.current.openedAt = s.shift.current.openedAt := ⟨rfl, rfl⟩

@[simp] theorem State.countStep_number_openedAt (s : State) (d : Int) :
    (s.countStep d).shift.current.number = s.shift.current.number
      ∧ (s.countStep d).shift.current.openedAt = s.shift.current.openedAt := ⟨rfl, rfl⟩

@[simp] theorem State.tellQuality_number_openedAt (s : State) (old : AgreementState) :
    (s.tellQuality old).shift.current.number = s.shift.current.number
      ∧ (s.tellQuality old).shift.current.openedAt = s.shift.current.openedAt := by
  unfold State.tellQuality
  split <;> exact ⟨rfl, rfl⟩

@[simp] theorem State.takeSignOff_number_openedAt (s : State) (a : HandoverNotice) :
    (s.takeSignOff a).shift.current.number = s.shift.current.number
      ∧ (s.takeSignOff a).shift.current.openedAt = s.shift.current.openedAt := by
  unfold State.takeSignOff
  split
  · split <;> exact ⟨rfl, rfl⟩
  · exact ⟨rfl, rfl⟩

end Sys2Proof.Machine
end

section
/-! PROOFS. The open shift's number only rises (R139, R140, R143, R151): what each operation that closes a shift or makes the
first evaluation does to it, and so each command of a running part. -/

namespace Sys2Proof.Machine

/-! ### A shift that stays or gives way to a greater one -/

/-- Where `r` has a number, `r'` is the same shift or one with a greater number (R140). -/
def ShiftRecord.GivesWayTo (r r' : ShiftRecord) : Prop :=
  ∀ n, r.number = some n →
    (r'.number = some n ∧ r'.openedAt = r.openedAt) ∨ ∃ m, r'.number = some m ∧ n < m

theorem ShiftRecord.GivesWayTo.trans {r r' r'' : ShiftRecord} (h : r.GivesWayTo r') (k : r'.GivesWayTo r'') :
    r.GivesWayTo r'' := by
  intro n number
  rcases h n number with ⟨same, openedAt⟩ | ⟨m, greater, lt⟩
  · rw [← openedAt]
    exact k n same
  · rcases k m greater with ⟨same, -⟩ | ⟨l, greater', lt'⟩
    · exact .inr ⟨m, same, lt⟩
    · exact .inr ⟨l, greater', lt.trans lt'⟩

/-- What the shift numbers of R134 rest on: shifts have a length, and station time is in range (R2, R133). -/
def State.OnSchedule (s : State) : Prop := 0 < s.cfg.shiftLength ∧ s.tb.time.u < 1000000

/-- From `s` to `t` the schedule's premises stay, and the open shift stays or gives way to a greater one. -/
structure State.ShiftRises (s t : State) : Prop where
  schedule : s.OnSchedule → t.OnSchedule
  record   : s.OnSchedule → s.shift.current.GivesWayTo t.shift.current

theorem State.ShiftRises.trans {s t u : State} (h : s.ShiftRises t) (k : t.ShiftRises u) : s.ShiftRises u where
  schedule := k.schedule ∘ h.schedule
  record on := (h.record on).trans (k.record (h.schedule on))

/-- The same shift is open, and station time is in range if it was. -/
theorem State.ShiftRises.of_range {s t : State} (number : t.shift.current.number = s.shift.current.number)
    (openedAt : t.shift.current.openedAt = s.shift.current.openedAt) (cfg : t.cfg = s.cfg)
    (range : s.tb.time.u < 1000000 → t.tb.time.u < 1000000) : s.ShiftRises t where
  schedule := fun ⟨long, u⟩ => ⟨cfg ▸ long, range u⟩
  record _ _ named := .inl ⟨number.trans named, openedAt⟩

/-- The same shift is open, the configuration is the same and station time stands. -/
@[simp, reducible] def State.SameShift (s t : State) : Prop :=
  t.shift.current.number = s.shift.current.number ∧ t.shift.current.openedAt = s.shift.current.openedAt
    ∧ t.cfg = s.cfg ∧ t.tb.time = s.tb.time

theorem State.ShiftRises.of_eq {s t : State} (same : s.SameShift t) : s.ShiftRises t := by
  obtain ⟨number, openedAt, cfg, time⟩ := same
  exact .of_range number openedAt cfg fun u => time ▸ u

theorem State.ShiftRises.refl (s : State) : s.ShiftRises s := .of_eq ⟨rfl, rfl, rfl, rfl⟩

/-- A shift with a greater number is open, or one follows a shift that has none. -/
theorem State.ShiftRises.of_greater {s t : State} (cfg : t.cfg = s.cfg) (time : t.tb.time = s.tb.time)
    (greater : s.OnSchedule → ∀ n, s.shift.current.number = some n → ∃ m, t.shift.current.number = some m ∧ n < m) :
    s.ShiftRises t where
  schedule := fun ⟨long, u⟩ => ⟨cfg ▸ long, time ▸ u⟩
  record on n number := .inr (greater on n number)

/-- Whatever follows without touching any of it. -/
theorem State.ShiftRises.then_eq {s t u : State} (h : s.ShiftRises t)
    (same : t.SameShift u) : s.ShiftRises u :=
  h.trans (.of_eq same)

/-- Whatever came before without touching any of it. -/
theorem State.ShiftRises.after {s t u : State} (k : t.ShiftRises u)
    (same : s.SameShift t) : s.ShiftRises u :=
  State.ShiftRises.trans (.of_eq same) k

/-- A request answered (R177). -/
theorem State.ShiftRises.answer {s t : State} (h : s.ShiftRises t) (r : Request) (st : Status) (c : List Byte) :
    s.ShiftRises (t.answer r st c) :=
  h.then_eq (by simp)

/-! ### Closes, evaluations and notices (R138 to R144, R151) -/

/-- A close opens a shift with a greater number where the next record has one (R140). -/
theorem State.closeShift_rises (s : State) (r : ShiftRecord) (t : StationTime) (c : CloseCause) (next : ShiftRecord)
    (greater : s.OnSchedule → ∀ n, s.shift.current.number = some n → ∃ m, next.number = some m ∧ n < m) :
    s.ShiftRises (s.closeShift r t c next) :=
  .of_greater (by simp) (by simp) (by simpa only [State.closeShift_shift] using greater)

/-- A station time that has reached the force close of shift `n` has a greater number (R134). -/
theorem Configuration.lt_shiftNumber (c : Configuration) {n : Nat} {t : StationTime} (long : 0 < c.shiftLength)
    (u : t.u < 1000000) (past : c.forceClose n * 1000000 ≤ t.instant) : n < c.shiftNumber t.s := by
  have second : c.firstBoundary + n * c.shiftLength ≤ t.s := by
    rw [StationTime.instant, Configuration.forceClose] at past
    omega
  have between := (c.shiftNumber_between (sec := t.s) (by omega) long).2
  exact Nat.lt_of_mul_lt_mul_right (a := c.shiftLength) (by omega)

/-- A forced close opens n + 1, or the shift of a station time past the force close of that (R139). -/
theorem State.lt_forcedNext {s : State} (on : s.OnSchedule) (n : Nat) : n < s.forcedNext n := by
  unfold State.forcedNext
  split
  · omega
  · rename_i past
    exact (Nat.lt_succ_self n).trans (s.cfg.lt_shiftNumber on.1 on.2 (Nat.not_lt.1 past))

theorem State.forcedClose_rises (s : State) (n : Nat) (number : s.shift.current.number = some n) :
    s.ShiftRises (s.forcedClose n) := by
  refine .of_greater (by simp) (by simp) fun on k named => ⟨s.forcedNext n, (s.forcedClose_opens n).1, ?_⟩
  obtain rfl := Option.some.inj (number.symm.trans named)
  exact State.lt_forcedNext on n

theorem State.evaluateDepth_rises (k : Nat) (s : State) : s.ShiftRises (s.evaluateDepth k) := by
  induction k generalizing s with
  | zero => exact .refl s
  | succ k ih =>
    unfold State.evaluateDepth
    split
    · split
      · exact (s.forcedClose_rises _ ‹_›).trans (ih _)
      · split <;> exact .of_eq ⟨rfl, rfl, rfl, rfl⟩
    · exact .refl s

theorem State.evaluate_rises (s : State) : s.ShiftRises s.evaluate := s.evaluateDepth_rises 2

/-- A shift that has a number and is not recovered is evaluated as it stands (R151). -/
theorem State.firstEvaluation_numbered (s : State) (n : Nat) (number : s.shift.current.number = some n)
    (fresh : s.shift.recovered = none) : s.firstEvaluation = s.endDeferral.evaluate := by
  simp only [State.firstEvaluation, number, fresh]

/-- The first evaluation numbers a shift without a number, continues a recovered one, or closes it for that of a later
number (R151). -/
theorem State.firstEvaluation_rises (s : State) : s.ShiftRises s.firstEvaluation := by
  have evaluates : ∀ u : State, s.SameShift u → s.ShiftRises u.evaluate := fun u => u.evaluate_rises.after
  cases number : s.shift.current.number with
  | none => exact .of_greater (by simp) (by simp) fun _ _ named => by simp [number] at named
  | some n =>
    cases recovered : s.shift.recovered with
    | none =>
      rw [s.firstEvaluation_numbered n number recovered]
      exact evaluates _ ⟨rfl, rfl, rfl, rfl⟩
    | some at' =>
      rw [s.firstEvaluation_recovered n at' number recovered]
      split
      · exact evaluates _ ⟨rfl, rfl, rfl, rfl⟩
      · rename_i later
        have ended : s.ShiftRises s.endDeferral := .of_eq ⟨rfl, rfl, rfl, rfl⟩
        refine (ended.trans (s.endDeferral.closeShift_rises _ _ _ _ fun _ k named => ⟨_, rfl, ?_⟩)).trans
          (State.evaluate_rises _)
        obtain rfl := Option.some.inj (number.symm.trans named)
        omega

/-- A TAKE_OVER of the open shift opens the next; every other leaves the open shift (R143, R145). -/
theorem State.takeTakeOver_rises (s : State) (a : HandoverNotice) : s.ShiftRises (s.takeTakeOver a) := by
  unfold State.takeTakeOver
  dsimp only
  split
  · rename_i own
    split
    · exact .of_eq (by simp)
    · refine (s.closeShift_rises _ _ _ _ fun _ n named => ⟨_, rfl, ?_⟩).trans (State.evaluate_rises _)
      obtain rfl := Option.some.inj (own.symm.trans named)
      exact Nat.lt_succ_self _
  · split <;> exact .of_eq ⟨rfl, rfl, rfl, rfl⟩

theorem State.takeHandover_rises (s : State) (a : HandoverNotice) : s.ShiftRises (s.takeHandover a) := by
  unfold State.takeHandover
  split
  · exact .of_eq (by simp)
  · split
    · exact .of_eq (by simp)
    · exact s.takeTakeOver_rises a

theorem State.tellLeftFree_rises (s : State) (old : AgreementState) : s.ShiftRises (s.tellLeftFree old) := by
  unfold State.tellLeftFree
  split
  · exact s.firstEvaluation_rises
  · exact .refl s

/-! ### Steps and seconds of station time (R3, R6, R11) -/

theorem State.stepped_rises (s : State) (c : Int) (w : StepCause) (n : AgreementState) (gs : List Nat) :
    s.ShiftRises (s.stepped c w n gs) := by
  have logged : s.ShiftRises (s.stepLogged c w n gs) :=
    .of_range (by simp [State.stepLogged]) (by simp [State.stepLogged]) (by simp [State.stepLogged])
      fun _ => by simp [State.stepLogged, Timebase.stepTo, StationTime.ofInstant_u_lt]
  rw [State.stepped_eq_stepLogged]
  exact (logged.then_eq (by simp)).trans (State.tellLeftFree_rises _ _)

/-- A station second signalled, without its round (R11, R12). -/
theorem State.queueSecond_rises (s : State) : s.ShiftRises s.startPulse.queueBeacon :=
  .of_eq (by simp [State.startPulse_tb])

theorem State.step_rises (s : State) (c : Int) (w : StepCause) (n : AgreementState) (gs : List Nat) :
    s.ShiftRises (State.step s c w n gs) := by
  rw [State.step_eq_stepped]
  split
  · exact ((s.stepped_rises c w n gs).trans (State.queueSecond_rises _)).trans (State.evaluate_rises _)
  · exact s.stepped_rises c w n gs

theorem State.enterState_rises (s : State) (n : AgreementState) : s.ShiftRises (s.enterState n) :=
  (State.tellLeftFree_rises _ _).after (by simp)

theorem State.applyDecision_rises (s : State) (d : Decision) (gs : List Nat) : s.ShiftRises (s.applyDecision d gs) := by
  unfold State.applyDecision
  dsimp only
  split
  case h_4 => exact ((s.setCounts d).step_rises ..).after ⟨rfl, rfl, rfl, rfl⟩
  all_goals exact (State.enterState_rises _ _).after ⟨rfl, rfl, rfl, rfl⟩

theorem State.roundIfBoundary_rises (s : State) (d : SecondDue) (gs : List Nat) :
    s.ShiftRises (s.roundIfBoundary d gs) := by
  have begun : s.ShiftRises (s.endHold.mapPeers Peer.takeStock) := .of_eq ⟨rfl, rfl, rfl, rfl⟩
  unfold State.roundIfBoundary
  split
  · exact (begun.trans (State.applyDecision_rises _ _ gs)).then_eq ⟨rfl, rfl, rfl, rfl⟩
  · exact .refl s

theorem State.deliverSecond_rises (s : State) (o : SecondOrder) : s.ShiftRises (s.deliverSecond o) := by
  unfold State.deliverSecond
  split
  · exact .refl s
  · have queued : s.ShiftRises s.takeSecond.startPulse.queueBeacon :=
      s.takeSecond.queueSecond_rises.after ⟨rfl, rfl, rfl, rfl⟩
    dsimp only
    split
    · exact (queued.trans (State.evaluate_rises _)).trans (State.roundIfBoundary_rises ..)
    · exact (queued.trans (State.roundIfBoundary_rises ..)).trans (State.evaluate_rises _)

/-- An elapsed microsecond leaves station time in range, with the carry of R2. -/
theorem State.tick_rises (s : State) : s.ShiftRises s.tick :=
  .of_range rfl rfl rfl fun _ => StationTime.ofInstant_u_lt _

theorem State.microsecond_rises (s : State) (p : MicroPart) (o : SecondOrder) : s.ShiftRises (s.microsecond p o) := by
  have ended : s.ShiftRises (s.endMicrosecond o) :=
    (s.deliverSecond_rises o).then_eq (by simp [State.endMicrosecond])
  have ticked := ended.trans (State.tick_rises _)
  cases p with
  | whole => exact ticked.trans (State.deliverSecond_rises _ o)
  | advance => exact ticked
  | signal => exact s.deliverSecond_rises o

/-! ### Receptions and requests (R32, R176, R183) -/

theorem State.route_rises (s : State) (ch : Channel) (r : Received) (p : Stamp) : s.ShiftRises (s.route ch r p) := by
  unfold State.route
  split
  case h_3 => exact s.takeHandover_rises _
  case h_4 | h_5 => split <;> exact .of_eq (by simp)
  all_goals exact .of_eq (by simp)

theorem State.receive_rises (s : State) (ch : Channel) (r : Received) (p : Stamp) : s.ShiftRises (s.receive ch r p) := by
  unfold State.receive
  dsimp only
  split
  · exact (State.route_rises (s.setPeer _ _) ch r p).after ⟨rfl, rfl, rfl, rfl⟩
  · split <;> exact .of_eq ⟨rfl, rfl, rfl, rfl⟩

/-- Serving a request does to the open shift what its owner does. -/
theorem State.serve_rises (s : State) (code : Nat) (owner : State → Request → State)
    (owned : ∀ (u : State) (r : Request), u.ShiftRises (owner u r)) : s.ShiftRises (s.serve code owner) := by
  rcases s.serve_cases code owner with e | ⟨r, e⟩ | ⟨r, e⟩ <;> rw [e]
  · exact .refl s
  · exact .of_eq (by simp)
  · exact (owned s.popRequest r).after ⟨rfl, rfl, rfl, rfl⟩

theorem State.serveSetTime_rises (gs : List Nat) (s : State) (r : Request) : s.ShiftRises (s.serveSetTime gs r) := by
  have set : ∀ asked, s.ShiftRises (s.setTime asked gs) := fun _ =>
    (s.knowSeconds.step_rises ..).after ⟨rfl, rfl, rfl, rfl⟩
  unfold State.serveSetTime
  split
  · exact (set _).answer _ _ _
  · exact .of_eq (by simp)

@[simp] theorem State.serveFetchLog_shift_cfg (s : State) (r : Request) :
    (s.serveFetchLog r).shift = s.shift ∧ (s.serveFetchLog r).cfg = s.cfg := by
  unfold State.serveFetchLog
  dsimp only
  split <;> simp

@[simp] theorem State.serveFetchNotices_shift_cfg (s : State) (r : Request) :
    (s.serveFetchNotices r).shift = s.shift ∧ (s.serveFetchNotices r).cfg = s.cfg := by
  unfold State.serveFetchNotices
  dsimp only
  split <;> simp

@[simp] theorem State.serveReadShift_shift_cfg (s : State) (r : Request) :
    (s.serveReadShift r).shift = s.shift ∧ (s.serveReadShift r).cfg = s.cfg := by
  unfold State.serveReadShift
  split <;> simp

@[simp] theorem State.serveAckGroup_shift_cfg (s : State) (r : Request) :
    (s.serveAckGroup r).shift = s.shift ∧ (s.serveAckGroup r).cfg = s.cfg := by
  unfold State.serveAckGroup
  split <;> simp

@[simp] theorem State.servePreset_shift_cfg (s : State) (r : Request) :
    (s.servePreset r).shift = s.shift ∧ (s.servePreset r).cfg = s.cfg := by
  unfold State.servePreset
  dsimp only
  repeat' split
  all_goals simp

@[simp] theorem State.serveProtect_shift_cfg (s : State) (r : Request) :
    (s.serveProtect r).shift = s.shift ∧ (s.serveProtect r).cfg = s.cfg := by
  unfold State.serveProtect
  dsimp only
  repeat' split
  all_goals simp

@[simp] theorem State.serveLockDown_shift_cfg (s : State) (r : Request) :
    (s.serveLockDown r).shift = s.shift ∧ (s.serveLockDown r).cfg = s.cfg := by
  unfold State.serveLockDown
  dsimp only
  split <;> simp

/-! ### Every command -/

/-- A running part that still runs after a command has had no reset and no START (R186, R187): its open shift stays or gives
way to a greater one. -/
theorem exec_shiftRises (c : Instr) (s t : State) (running : s.phase = .running) (runs : t.phase = .running)
    (h : exec c s = .next t) : s.ShiftRises t := by
  cases c with
  | elapsedMicrosecond p o =>
    obtain rfl := Host.Outcome.next.inj h
    split
    · exact s.microsecond_rises p o
    · exact .refl s
  | setTime gs => obtain rfl := Host.Outcome.next.inj h; exact s.serve_rises _ _ (State.serveSetTime_rises gs)
  | consoleHandoverNotice payload =>
    obtain rfl := Host.Outcome.next.inj h
    split
    · exact (State.takeHandover_rises _ _).after (by simp)
    · exact .refl s
  | reception ch data odd =>
    obtain rfl := Host.Outcome.next.inj h
    split
    · have ended : s.ShiftRises (s.setLine ch { (s.line ch).active s.tb.elapsed with stamp := none }) := .of_eq (by simp)
      dsimp only
      split
      · exact ended.then_eq (by simp)
      · split
        · exact ended.then_eq ⟨rfl, rfl, rfl, rfl⟩
        · exact ended.trans (State.receive_rises ..)
    · exact .refl s
  | status | readTime | readPeers | readGroup | readTallies | restart =>
    obtain rfl := Host.Outcome.next.inj h
    exact s.serve_rises _ _ fun u r =>
      State.ShiftRises.then_eq (.answer (.refl u) r .ok _) ⟨rfl, rfl, rfl, rfl⟩
  | fetchLog | readArchive | fetchNotices | ackGroup | readShift | presetTally | protectTally | lockDownTally =>
    obtain rfl := Host.Outcome.next.inj h
    exact s.serve_rises _ _ fun u r => .of_eq (by simp)
  | clearFlags =>
    obtain rfl := Host.Outcome.next.inj h
    split
    · exact .of_eq (by simp)
    · exact s.serve_rises _ _ fun u r => .of_eq (by simp)
  | collision ch | sendingComplete ch =>
    obtain rfl := Host.Outcome.next.inj h
    split
    · dsimp only
      split
      · split <;> exact .of_eq (by simp)
      · exact .refl s
    · exact .refl s
  | powerOn | resetLine =>
    obtain rfl := Host.Outcome.next.inj h
    cases runs
  | supplyReset =>
    obtain rfl := Host.Outcome.next.inj h
    revert runs
    split
    · exact nofun
    · exact fun _ => .refl s
  | restartReset =>
    obtain rfl := Host.Outcome.next.inj h
    revert runs
    split
    · split
      · exact nofun
      · exact fun _ => .refl s
    · exact fun _ => .refl s
  | start i =>
    obtain rfl := Host.Outcome.next.inj h
    rw [running]
    exact .refl s
  | _ =>
    obtain rfl := Host.Outcome.next.inj h
    repeat' split
    all_goals exact .of_eq (by simp)

/-- Settles O45: what every command does to the open shift, taken at a state whose schedule is in range. -/
theorem shiftNumbersOnlyRise : Obligations.ShiftNumbersOnlyRise := by
  intro c s t n running runs h shifts u number
  rcases (exec_shiftRises c s t running runs h).record ⟨s.cfg.shiftLength_pos shifts, u⟩ n number with
    ⟨same, openedAt⟩ | ⟨m, greater, lt⟩
  · exact ⟨n, same, le_refl n, fun changed => absurd openedAt changed⟩
  · exact ⟨m, greater, lt.le, fun _ => lt⟩

end Sys2Proof.Machine
end

section
/-! PROOFS. O49: the write queue's places (R160, R161, R168) and the staging image (R162 to R164). -/

namespace Sys2Proof.Machine

/-! ### Entries by their places in a list -/

/-- The first place of which `p` holds. -/
theorem findIdx?_of_first {α : Type} {p : α → Bool} {l : List α} {i : Nat} {x : α} (held : l[i]? = some x)
    (holds : p x = true) (first : ∀ j y, j < i → l[j]? = some y → p y = false) : l.findIdx? p = some i := by
  obtain ⟨lt, rfl⟩ := List.getElem?_eq_some_iff.1 held
  refine List.findIdx?_eq_some_iff_getElem.2 ⟨lt, holds, fun j before => ?_⟩
  exact Bool.eq_false_iff.1 (first j _ before (List.getElem?_eq_getElem (before.trans lt)))

/-- Removing the first element that `p` holds of. -/
theorem eraseP_of_first {α : Type} {p : α → Bool} {l : List α} {i : Nat} {x : α} (held : l[i]? = some x)
    (holds : p x = true) (first : ∀ j y, j < i → l[j]? = some y → p y = false) : l.eraseP p = l.eraseIdx i := by
  rw [List.eraseP_eq_eraseIdx, findIdx?_of_first held holds first]

/-- Removing the last element that `p` holds of. -/
theorem dropLastWhere_of_last {α : Type} {p : α → Bool} {l : List α} {i : Nat} {x : α} (held : l[i]? = some x)
    (holds : p x = true) (last : ∀ j y, i < j → l[j]? = some y → p y = false) :
    dropLastWhere p l = l.eraseIdx i := by
  obtain ⟨lt, rfl⟩ := List.getElem?_eq_some_iff.1 held
  have split : l.reverse = (l.drop (i + 1)).reverse ++ l[i] :: (l.take i).reverse := by
    conv_lhs => rw [← List.take_append_drop i l, List.drop_eq_getElem_cons lt]
    rw [List.reverse_append, List.reverse_cons, List.append_assoc, List.singleton_append]
  have later : ∀ y ∈ (l.drop (i + 1)).reverse, ¬p y = true := by
    intro y mem
    obtain ⟨k, at'⟩ := List.mem_iff_getElem?.1 (List.mem_reverse.1 mem)
    rw [List.getElem?_drop] at at'
    exact Bool.eq_false_iff.1 (last _ y (by omega) at')
  calc dropLastWhere p l
      = (((l.drop (i + 1)).reverse ++ l[i] :: (l.take i).reverse).eraseP p).reverse := by
        rw [dropLastWhere, split]
    _ = l.take i ++ l.drop (i + 1) := by
        rw [List.eraseP_append_right _ later, List.eraseP_cons_of_pos holds]
        simp
    _ = l.eraseIdx i := (List.eraseIdx_eq_take_drop_succ l i).symm

/-! ### Which entries give way (R161, log entry 17) -/

theorem Entry.removable_iff (e : Entry) : e.removable = true ↔ ¬(e.busy = true ∨ e.failedOnce = true) := by
  simp [Entry.removable]

theorem Entry.removable_eq_false_iff (e : Entry) : e.removable = false ↔ e.busy = true ∨ e.failedOnce = true := by
  rw [← Bool.not_eq_true, e.removable_iff, not_not]

theorem Entry.yields_iff (e : Entry) :
    e.yields = true ↔ e.kind = .checkpoint ∧ e.busy = false ∧ e.failedOnce = false := by
  simp [Entry.yields, Entry.removable, and_comm, and_assoc]

theorem Store.regionStopped_eq_false_iff (st : Store) (r : Region) :
    st.regionStopped r = false ↔ (st.region r).stopped = false ∧ 2 ≤ (st.usablePages r).length := by
  simp [Store.regionStopped, Nat.succ_le_iff]

theorem Store.regionStopped_iff (st : Store) (r : Region) :
    st.regionStopped r = true ↔ ¬((st.region r).stopped = false ∧ 2 ≤ (st.usablePages r).length) := by
  rw [← st.regionStopped_eq_false_iff, Bool.not_eq_false]

theorem Store.queueFull_iff (st : Store) : st.queueFull = true ↔ 16 ≤ st.queue.length := decide_eq_true_iff

theorem Store.queueFull_eq_false_iff (st : Store) : st.queueFull = false ↔ st.queue.length < 16 := by
  simp [Store.queueFull]

theorem Store.imageWaits_iff (st : Store) :
    st.imageWaits = true ↔ st.image.state = .filled ∧ ∀ e ∈ st.queue, e.kind.isImage = false := by
  simp [Store.imageWaits]

/-! ### The waiting image's place (R161) -/

theorem State.placeImage_of_room {s : State} (waits : s.store.imageWaits = true) (room : s.store.queue.length < 16) :
    s.placeImage = s.enqueue s.store.image.entryKind := by
  rw [State.placeImage, waits, s.store.queueFull_eq_false_iff.2 room]
  rfl

theorem State.placeImage_of_not_waiting {s : State} (placed : s.store.imageWaits = false) : s.placeImage = s := by
  rw [State.placeImage, placed]
  rfl

theorem State.placeImage_of_full {s : State} (full : 16 ≤ s.store.queue.length) : s.placeImage = s := by
  rw [State.placeImage, s.store.queueFull_iff.2 full, Bool.not_true, Bool.and_false]
  rfl

/-- A place is made for a power-fail checkpoint alone, and only in a full queue. -/
theorem State.placeFilled_of_ordinary {s : State} (ordinary : s.store.image.powerFail = false) :
    s.placeFilled = s.placeImage := by
  simp [State.placeFilled, ordinary]

theorem State.placeFilled_of_not_full {s : State} (room : s.store.queue.length < 16) :
    s.placeFilled = s.placeImage := by
  simp [State.placeFilled, s.store.queueFull_eq_false_iff.2 room]

theorem State.placeFilled_of_not_waiting {s : State} (placed : s.store.imageWaits = false) : s.placeFilled = s := by
  rw [State.placeFilled, placed]
  exact State.placeImage_of_not_waiting placed

/-- Entry `e` at place `i` gives way to a power-fail checkpoint (R161): of the entries that may be removed it is the
newest shift record, or with no shift record among them the newest archive record. -/
def Store.GivesPlace (st : Store) (i : Nat) (e : Entry) : Prop :=
  (e.kind.isShift = true ∧ ∀ j x, i < j → st.queue[j]? = some x → x.kind.isShift = true → x.removable = false)
    ∨ (e.kind.isArchive = true ∧ (∀ x ∈ st.queue, x.kind.isShift = true → x.removable = false)
      ∧ ∀ j x, i < j → st.queue[j]? = some x → x.kind.isArchive = true → x.removable = false)

theorem State.displaceNewest_eq {s : State} {i : Nat} {e : Entry} (held : s.store.queue[i]? = some e)
    (removable : e.removable = true) (gives : s.store.GivesPlace i e) :
    s.displaceNewest = { s with
      flags := { s.flags with archiveLoss := true }
      store := { s.store with queue := s.store.queue.eraseIdx i } } := by
  have newest : ∀ p : EntryKind → Bool, p e.kind = true →
      (∀ j x, i < j → s.store.queue[j]? = some x → p x.kind = true → x.removable = false) →
      dropLastWhere (fun x : Entry => x.removable && p x.kind) s.store.queue = s.store.queue.eraseIdx i := by
    intro p kind later
    refine dropLastWhere_of_last held (by simp [removable, kind]) fun j x after at' => ?_
    cases px : p x.kind
    · exact Bool.and_false _
    · rw [later j x after at' px, Bool.false_and]
  rcases gives with ⟨shift, later⟩ | ⟨archive, noShift, later⟩
  · have any : (s.store.queue.any fun x => x.removable && x.kind.isShift) = true :=
      List.any_eq_true.2 ⟨e, List.mem_of_getElem? held, by rw [removable, shift]; rfl⟩
    simp only [State.displaceNewest, State.loseArchive, any, if_true, newest EntryKind.isShift shift later]
  · have none : (s.store.queue.any fun x => x.removable && x.kind.isShift) = false := by
      refine List.any_eq_false.2 fun x mem => ?_
      cases shift : x.kind.isShift
      · simp
      · simp [noShift x mem shift]
    simp only [State.displaceNewest, State.loseArchive, none, Bool.false_eq_true, if_false,
      newest EntryKind.isArchive archive later]

/-- A power-fail checkpoint takes the place of the entry that gives way (R161). -/
theorem State.placeFilled_displaces {s : State} {i : Nat} {e : Entry} (waits : s.store.imageWaits = true)
    (powerFail : s.store.image.powerFail = true) (full : s.store.queue.length = 16) (held : s.store.queue[i]? = some e)
    (removable : e.removable = true) (gives : s.store.GivesPlace i e) :
    s.placeFilled = { s with
      flags := { s.flags with archiveLoss := true }
      store := { s.store with queue := s.store.queue.eraseIdx i ++ [Entry.fresh .powerFail] } } := by
  have displaced : s.placeFilled = s.displaceNewest.placeImage := by
    rw [State.placeFilled, waits, s.store.queueFull_iff.2 full.ge, powerFail]
    rfl
  obtain ⟨filled, noImage⟩ := s.store.imageWaits_iff.1 waits
  obtain ⟨lt, -⟩ := List.getElem?_eq_some_iff.1 held
  rw [displaced, State.displaceNewest_eq held removable gives, State.placeImage_of_room, Image.entryKind,
    if_pos powerFail]
  · rfl
  · exact (Store.imageWaits_iff _).2 ⟨filled, fun x mem => noImage x (List.mem_of_mem_eraseIdx mem)⟩
  · dsimp only
    rw [List.length_eraseIdx_of_lt lt]
    omega

/-! ### A checkpoint requested (R161, R163, R164, R168) -/

theorem State.requestCheckpoint_of_stopped {s : State} (stopped : s.store.regionStopped .journal = true) (fail : Bool) :
    s.requestCheckpoint fail =
      { s with store := { s.store with dropped := min 65535 (s.store.dropped + 1) } } := by
  rw [State.requestCheckpoint, if_pos stopped, satInc_eq]

theorem State.requestCheckpoint_of_empty {s : State} (accepts : s.store.regionStopped .journal = false)
    (empty : s.store.image.state = .empty) (fail : Bool) :
    s.requestCheckpoint fail = (s.fillImage fail).placeFilled := by
  simp [State.requestCheckpoint, accepts, empty]

/-- A FILLED image filled anew keeps the priority of its entry. -/
theorem State.requestCheckpoint_of_filled {s : State} (accepts : s.store.regionStopped .journal = false)
    (filled : s.store.image.state = .filled) :
    s.requestCheckpoint false = s.fillImage s.store.image.powerFail := by
  simp [State.requestCheckpoint, accepts, filled]

/-- The state with every entry of the image raised to priority 1 (R164). -/
def State.raiseImageEntries (s : State) : State :=
  { s with store := { s.store with queue := s.store.queue.map raiseImageEntry } }

theorem State.requestCheckpoint_of_filled_warned {s : State} (accepts : s.store.regionStopped .journal = false)
    (filled : s.store.image.state = .filled) :
    s.requestCheckpoint true = (s.fillImage true).raiseImageEntries.placeFilled := by
  simp [State.requestCheckpoint, accepts, filled, State.raiseImageEntries]

theorem State.requestCheckpoint_of_writing {s : State} (accepts : s.store.regionStopped .journal = false)
    (writing : s.store.image.state = .writing) (fail : Bool) :
    s.requestCheckpoint fail = { s with store := { s.store with image := { s.store.image with
      pending := true, pendingFail := s.store.image.pendingFail || fail } } } := by
  simp [State.requestCheckpoint, accepts, writing]

theorem raiseImageEntry_isImage (e : Entry) : (raiseImageEntry e).kind.isImage = e.kind.isImage := by
  unfold raiseImageEntry
  split
  · rw [‹e.kind.isImage = true›]
    rfl
  · rfl

theorem State.raiseImageEntries_of_none {s : State} (noImage : ∀ e ∈ s.store.queue, e.kind.isImage = false) :
    s.raiseImageEntries = s := by
  have same : s.store.queue.map raiseImageEntry = s.store.queue := by
    refine (List.map_congr_left fun e mem => ?_).trans (List.map_id _)
    rw [raiseImageEntry, noImage e mem]
    rfl
  rw [State.raiseImageEntries, same]

/-- With an entry of it in the queue the image does not wait for one, raised or not. -/
theorem State.raiseImageEntries_not_waiting {s : State} (queued : ∃ e ∈ s.store.queue, e.kind.isImage = true) :
    s.raiseImageEntries.store.imageWaits = false := by
  obtain ⟨e, mem, isImage⟩ := queued
  refine Bool.eq_false_iff.2 fun waits => ?_
  obtain ⟨-, noImage⟩ := (Store.imageWaits_iff _).1 waits
  have raised := noImage _ (List.mem_map_of_mem mem)
  rw [raiseImageEntry_isImage, isImage] at raised
  cases raised

theorem State.fillImage_waits {s : State} (noImage : ∀ e ∈ s.store.queue, e.kind.isImage = false) (powerFail : Bool) :
    (s.fillImage powerFail).store.imageWaits = true :=
  (Store.imageWaits_iff _).2 ⟨rfl, noImage⟩

/-- An image that is not being written, with no entry in a full queue: at a supply warning it is filled and takes the
place of the entry that gives way. -/
theorem State.requestCheckpoint_displaces {s : State} {i : Nat} {e : Entry}
    (accepts : s.store.regionStopped .journal = false) (notWriting : s.store.image.state ≠ .writing)
    (noImage : ∀ e ∈ s.store.queue, e.kind.isImage = false) (full : s.store.queue.length = 16)
    (held : s.store.queue[i]? = some e) (removable : e.removable = true) (gives : s.store.GivesPlace i e) :
    s.requestCheckpoint true = { s.fillImage true with
      flags := { s.flags with archiveLoss := true }
      store := { (s.fillImage true).store with queue := s.store.queue.eraseIdx i ++ [Entry.fresh .powerFail] } } := by
  have asked : s.requestCheckpoint true = (s.fillImage true).placeFilled := by
    cases image : s.store.image.state with
    | empty => exact State.requestCheckpoint_of_empty accepts image true
    | filled =>
      rw [State.requestCheckpoint_of_filled_warned accepts image,
        State.raiseImageEntries_of_none (s := s.fillImage true) noImage]
    | writing => exact absurd image notWriting
  rw [asked, State.placeFilled_displaces (State.fillImage_waits noImage true) rfl full held removable gives]
  rfl

/-! ### A closed shift record queued (R140, R161, R168) -/

theorem State.queueShift_of_stopped {s : State} (stopped : s.store.regionStopped .shifts = true) (c : ClosedShift) :
    s.queueShift c = s.loseArchive := by
  rw [State.queueShift, if_pos stopped]

theorem State.queueShift_of_room {s : State} (accepts : s.store.regionStopped .shifts = false)
    (room : s.store.queue.length < 16) (c : ClosedShift) : s.queueShift c = s.enqueue (.shift c) := by
  simp [State.queueShift, accepts, s.store.queueFull_eq_false_iff.2 room]

theorem State.queueShift_of_full {s : State} (accepts : s.store.regionStopped .shifts = false)
    (full : 16 ≤ s.store.queue.length) (c : ClosedShift) :
    s.queueShift c = if s.store.queue.any Entry.yields then
        State.enqueue { s with store := { s.store with queue := s.store.queue.eraseP Entry.yields } } (.shift c)
      else s.loseArchive := by
  simp [State.queueShift, accepts, s.store.queueFull_iff.2 full]

/-! ### The checkpoint interval timer (R163) -/

theorem exec_checkpointIntervalExpiry_eq {s : State} {e : Nat} (running : s.phase = .running)
    (timer : s.store.timer = some e) :
    exec .checkpointIntervalExpiry s =
      .next (if e ≤ s.tb.elapsed then (s.requestCheckpoint false).restartTimer else s) := by
  change execCheckpointIntervalExpiry s = _
  simp [execCheckpointIntervalExpiry, s.isRunning_of running, State.reached, timer]

/-- Settles O49: the request by the image's state and the queue's fill, then the timer, the shift record and the waiting
image. -/
theorem checkpointIsRequested : Obligations.CheckpointIsRequested := by
  refine ⟨fun s => rfl, ?_, ?_, ?_, ?_⟩
  · intro s fail ahead filled accepts
    have open' : accepts → s.store.regionStopped .journal = false := (s.store.regionStopped_eq_false_iff .journal).2
    refine ⟨fun closed => ?_, fun opened empty noImage => ⟨fun room => ?_, fun full ordinary => ?_⟩,
      fun opened image _ ordinary => ?_, fun opened notWriting noImage full warned i e held => ?_,
      fun opened image queued => ⟨fun ordinary => ?_, fun warned => ?_⟩, fun opened writing => ?_⟩
    · exact State.requestCheckpoint_of_stopped ((s.store.regionStopped_iff _).2 closed) fail
    · rw [State.requestCheckpoint_of_empty (open' opened) empty,
        State.placeFilled_of_not_full (s := s.fillImage fail) room,
        State.placeImage_of_room (State.fillImage_waits noImage fail) room]
      rfl
    · rw [ordinary, State.requestCheckpoint_of_empty (open' opened) empty,
        State.placeFilled_of_ordinary (s := s.fillImage false) rfl,
        State.placeImage_of_full (s := s.fillImage false) full]
      rfl
    · rw [ordinary, State.requestCheckpoint_of_filled (open' opened) image]
      rfl
    · intro kept removable gives
      have gives' : s.store.GivesPlace i e := by
        simpa only [Store.GivesPlace, Entry.removable_eq_false_iff] using gives
      rw [warned, State.requestCheckpoint_displaces (open' opened) notWriting noImage full held
        (e.removable_iff.2 removable) gives']
      rfl
    · rw [ordinary, State.requestCheckpoint_of_filled (open' opened) image]
      rfl
    · rw [warned, State.requestCheckpoint_of_filled_warned (open' opened) image,
        State.placeFilled_of_not_waiting (State.raiseImageEntries_not_waiting (s := s.fillImage true) queued)]
      rfl
    · exact State.requestCheckpoint_of_writing (open' opened) writing fail
  · intro s e running timer t
    rw [exec_checkpointIntervalExpiry_eq running timer]
    refine ⟨fun due => ?_, fun ahead => ?_⟩
    · rw [if_pos due, State.restartTimer]
      simp [t]
    · rw [if_neg (Nat.not_le.2 ahead)]
  · intro s c accepts queued lost yields
    have open' : accepts → s.store.regionStopped .shifts = false := (s.store.regionStopped_eq_false_iff .shifts).2
    refine ⟨fun closed => ?_, fun opened room => ?_, fun opened full none => ?_,
      fun opened full i e held gives first => ?_⟩
    · exact State.queueShift_of_stopped ((s.store.regionStopped_iff _).2 closed) c
    · exact State.queueShift_of_room (open' opened) room c
    · have noneYields : s.store.queue.any Entry.yields = false :=
        List.any_eq_false.2 fun x mem => mt x.yields_iff.1 (none x mem)
      rw [State.queueShift_of_full (open' opened) full, noneYields]
      rfl
    · have some : s.store.queue.any Entry.yields = true :=
        List.any_eq_true.2 ⟨e, List.mem_of_getElem? held, e.yields_iff.2 gives⟩
      rw [State.queueShift_of_full (open' opened) full, if_pos some, eraseP_of_first held (e.yields_iff.2 gives)
        fun j x before at' => Bool.eq_false_iff.2 (mt x.yields_iff.1 (first j x before at'))]
      rfl
  · intro s waits kind
    refine ⟨fun waiting room => ?_, fun stays => ?_⟩
    · exact State.placeImage_of_room (s.store.imageWaits_iff.2 waiting) room
    · rcases stays with placed | full
      · exact State.placeImage_of_not_waiting (Bool.eq_false_iff.2 (mt s.store.imageWaits_iff.1 placed))
      · exact State.placeImage_of_full full

end Sys2Proof.Machine
end

section
/-! PROOFS. O54: the supply monitor (R169 to R171). -/

namespace Sys2Proof.Machine

/-! ### A warning taken (R169, R170) -/

/-- A running part whose supply has fallen below its warning threshold, with any erase in hand abandoned. -/
def State.warned (s : State) : State :=
  { s with
    supply := { s.supply with state := .warning, warnAt := s.tb.elapsed, holdEnd := none }
    store := match s.store.erase with
      | some e => { s.store with erase := none, abandoned := some e.page }
      | none => s.store }

theorem State.takeWarning_eq (s : State) : s.takeWarning = (s.warned.requestCheckpoint true).failRead := by
  rw [State.takeWarning, State.warnStore, State.warned]
  cases s.store.erase <;> rfl

theorem State.failRead_of_waiting {s : State} {r : Request} (waiting : s.req.service = some (.storeRead r)) :
    s.failRead = State.answer { s with req := { s.req with service := none } } r .storeFault [] := by
  rw [State.failRead, waiting]

theorem State.failRead_of_no_read {s : State} (noRead : ∀ r, s.req.service ≠ some (.storeRead r)) :
    s.failRead = s := by
  unfold State.failRead
  split
  · exact absurd ‹_› (noRead _)
  · rfl

/-! ### The monitor's commands (R169, R171) -/

theorem exec_supplyWarning_of {s : State} {mv : Nat} (running : s.phase = .running) (normal : s.supply.state = .normal)
    (low : mv < s.cfg.warningMv) : exec (.supplyWarning mv) s = .next s.takeWarning := by
  change execSupplyWarning mv s = _
  simp [execSupplyWarning, s.isRunning_of running, s.supplyNormal_iff.2 normal, low]

theorem exec_supplyWarning_of_not {s : State} {mv : Nat}
    (other : s.supply.state ≠ .normal ∨ s.cfg.warningMv ≤ mv) : exec (.supplyWarning mv) s = .next s := by
  have guard : ¬(s.isRunning && s.supplyNormal && decide (mv < s.cfg.warningMv)) = true := by
    simp only [Bool.and_eq_true, s.supplyNormal_iff, decide_eq_true_eq]
    rintro ⟨⟨-, normal⟩, low⟩
    exact other.elim (· normal) (Nat.not_le.2 low)
  change execSupplyWarning mv s = _
  rw [execSupplyWarning, if_neg guard]

theorem exec_supplyRise_of {s : State} {mv : Nat} (running : s.phase = .running) (warning : s.supply.state = .warning)
    (high : s.cfg.warningMv + 100 < mv) : exec (.supplyRise mv) s = .next { s with
      supply := { s.supply with
        state := .hold
        riseAt := s.tb.elapsed
        holdEnd := some (s.tb.elapsed + 50000) } } := by
  change execSupplyRise mv s = _
  simp [execSupplyRise, s.isRunning_of running, warning, high, State.setSupply]

theorem exec_supplyHoldFall_of {s : State} {mv : Nat} (running : s.phase = .running) (hold : s.supply.state = .hold)
    (low : mv ≤ s.cfg.warningMv + 100) : exec (.supplyHoldFall mv) s =
      .next { s with supply := { s.supply with state := .warning, holdEnd := none } } := by
  change execSupplyHoldFall mv s = _
  simp [execSupplyHoldFall, s.isRunning_of running, hold, low, State.setSupply]

/-- The state once the dip has ended, before its record is appended. -/
def State.dipEnded (s : State) : State :=
  { s with
    supply := { s.supply with state := .normal, holdEnd := none }
    store := s.store.requeueAbandoned }

theorem exec_powerDip_of {s : State} {e : Nat} (running : s.phase = .running) (hold : s.supply.state = .hold)
    (holdEnd : s.supply.holdEnd = some e) :
    exec .powerDip s = .next (if e ≤ s.tb.elapsed then
      s.dipEnded.appendNow (.powerDip ((s.supply.riseAt - s.supply.warnAt) / 1000) s.store.abandoned.isSome)
      else s) := by
  change execPowerDip s = _
  simp [execPowerDip, s.isRunning_of running, hold, State.reached, holdEnd, State.dipEnded]

/-- Settles O54: each command of the monitor by the state it is taken in. -/
theorem supplyDipIsRiddenOut : Obligations.SupplyDipIsRiddenOut := by
  intro s mv running warned asked
  refine ⟨fun normal low => ?_, exec_supplyWarning_of_not, exec_supplyRise_of running, exec_supplyHoldFall_of running,
    fun e hold holdEnd => ?_⟩
  · have service : asked.req.service = s.req.service := by simp [asked, warned]
    rw [exec_supplyWarning_of running normal low, s.takeWarning_eq]
    refine ⟨fun noRead => ?_, fun r waiting => ?_⟩
    · exact congrArg _ (State.failRead_of_no_read (s := asked) (service ▸ noRead))
    · exact congrArg _ (State.failRead_of_waiting (s := asked) (service.trans waiting))
  · rw [exec_powerDip_of running hold holdEnd]
    refine ⟨fun due => ?_, fun ahead => ?_⟩
    · rw [if_pos due]
      rfl
    · rw [if_neg (Nat.not_le.2 ahead)]

end Sys2Proof.Machine
end

section
/-! PROOFS. O50: the writing of a record (R157 to R160, R164). -/

namespace Sys2Proof.Machine

/-! ### The entry served next (R159, R160, log entry 16) -/

theorem EntryKind.priority_range (k : EntryKind) : 1 ≤ k.priority ∧ k.priority ≤ 4 := by
  cases k <;> simp [EntryKind.priority]

theorem Store.oldestOf_of_none {st : Store} {n : Nat}
    (others : ∀ (j : Nat) (x : Entry), st.queue[j]? = some x → st.servable x = true → x.kind.priority ≠ n) :
    st.oldestOf n = none := by
  refine List.findIdx?_eq_none_iff.2 fun x mem => ?_
  obtain ⟨j, held⟩ := List.mem_iff_getElem?.1 mem
  cases served : st.servable x
  · exact Bool.and_false _
  · rw [decide_eq_false (others j x held served), Bool.false_and]

/-- The oldest entry of the highest priority that can be served is the next of the queue. -/
theorem Store.oldestOf_of_first {st : Store} {i : Nat} {e : Entry} (held : st.queue[i]? = some e)
    (served : st.servable e = true)
    (first : ∀ j x, j < i → st.queue[j]? = some x → st.servable x = true → x.kind.priority ≠ e.kind.priority) :
    st.oldestOf e.kind.priority = some i := by
  refine findIdx?_of_first held (by simp [served]) fun j x before at' => ?_
  cases served' : st.servable x
  · exact Bool.and_false _
  · rw [decide_eq_false (first j x before at' served'), Bool.false_and]

theorem Store.nextEntry_of_retry {st : Store} {i : Nat} {e : Entry} (held : st.queue[i]? = some e)
    (served : st.servable e = true) (retry : e.retryNext = true)
    (first : ∀ j x, j < i → st.queue[j]? = some x → ¬(x.retryNext = true ∧ st.servable x = true)) :
    st.nextEntry = some i := by
  have due : (st.queue.findIdx? fun x => x.retryNext && st.servable x) = some i :=
    findIdx?_of_first held (by rw [retry, served]; rfl) fun j x before at' =>
      Bool.eq_false_iff.2 fun both => first j x before at' (Bool.and_eq_true_iff.1 both)
  rw [Store.nextEntry, due, Option.some_or]

theorem Store.nextEntry_of_priority {st : Store} {i : Nat} {e : Entry} (held : st.queue[i]? = some e)
    (served : st.servable e = true)
    (ranked : ∀ j x, st.queue[j]? = some x → st.servable x = true →
      x.retryNext = false ∧ e.kind.priority ≤ x.kind.priority ∧ (j < i → e.kind.priority < x.kind.priority)) :
    st.nextEntry = some i := by
  have noRetry : (st.queue.findIdx? fun x => x.retryNext && st.servable x) = none := by
    refine List.findIdx?_eq_none_iff.2 fun x mem => ?_
    obtain ⟨j, at'⟩ := List.mem_iff_getElem?.1 mem
    cases served' : st.servable x
    · exact Bool.and_false _
    · rw [(ranked j x at' served').1, Bool.false_and]
  have higher : ∀ n, n < e.kind.priority → st.oldestOf n = none := fun n lt =>
    Store.oldestOf_of_none fun j x at' served' => by
      obtain ⟨-, le, -⟩ := ranked j x at' served'
      omega
  have oldest : st.oldestOf e.kind.priority = some i :=
    Store.oldestOf_of_first held served fun j x before at' served' => by
      obtain ⟨-, -, lt⟩ := ranked j x at' served'
      exact (lt before).ne'
  rw [Store.nextEntry, noRetry, Option.none_or]
  have range := e.kind.priority_range
  generalize e.kind.priority = n at *
  obtain rfl | rfl | rfl | rfl : n = 1 ∨ n = 2 ∨ n = 3 ∨ n = 4 := by omega
  all_goals simp [oldest, higher]

/-! ### A record begun (R158, R164) -/

/-- The controller may begin a record: nothing is being programmed, no read waits and no erase runs (R154, R158,
R174). -/
def State.mayBegin (s : State) : Prop :=
  s.store.programming = none ∧ s.readWaiting = false ∧ s.store.eraseRunning = false

theorem State.mayBegin_iff (s : State) :
    s.mayBegin ↔ (s.store.programming.isNone && !s.readWaiting && !s.store.eraseRunning) = true := by
  simp [State.mayBegin, and_assoc]

theorem exec_storeWriteBegin_of_not {s : State} (busy : ¬s.mayBegin) : exec .storeWriteBegin s = .next s := by
  have none : s.recordToBegin = none := by
    refine if_neg fun guard => busy (s.mayBegin_iff.2 ?_)
    simp only [Bool.and_eq_true] at guard ⊢
    obtain ⟨⟨⟨-, programming⟩, read⟩, erase⟩ := guard
    exact ⟨⟨programming, read⟩, erase⟩
  change execStoreWriteBegin s = _
  rw [execStoreWriteBegin, none]

theorem exec_storeWriteBegin_of {s : State} {i p k : Nat} {e : Entry} (running : s.phase = .running)
    (free : s.mayBegin) (next : s.store.nextEntry = some i) (held : s.store.queue[i]? = some e)
    (point : s.store.appendPoint e.kind.region = some (p, k)) :
    exec .storeWriteBegin s = .next { s with store := s.store.beginRecord i e p k } := by
  have begins : s.recordToBegin = some (i, e, p, k) := by
    obtain ⟨programming, read, erase⟩ := free
    simp [State.recordToBegin, s.isRunning_of running, programming, read, erase, next, held, point]
  change execStoreWriteBegin s = _
  rw [execStoreWriteBegin, begins]

theorem Store.beginRecord_eq {st : Store} {i : Nat} {e : Entry} (held : st.queue[i]? = some e) (p k : Nat) :
    st.beginRecord i e p k =
      { st.setRegion e.kind.region { st.region e.kind.region with
          nextSeq := ((st.region e.kind.region).nextSeq + 1) % 4294967296 } with
        queue := st.queue.set i { e with busy := true, retryNext := false }
        programming := some ⟨e.kind.region, p, k, (st.region e.kind.region).nextSeq⟩
        image := if e.kind.isImage = true then { st.image with state := .writing } else st.image } := by
  have queue := modifyAt_of_getElem? (fun x : Entry => { x with busy := true, retryNext := false }) held
  unfold Store.beginRecord
  cases e.kind.region <;> simp only [Store.setRegion, queue]

/-! ### The append point moved (R157) -/

theorem Region.slots_pos (r : Region) : 0 < r.slots := by
  cases r <;> decide

theorem Store.appendPoint_setRegion (st : Store) (r : Region) {v : RegionState} {a : Nat} (active : v.active = some a) :
    (st.setRegion r v).appendPoint r = if v.slot < r.slots then some (a, v.slot) else none := by
  simp only [Store.appendPoint, Store.region_setRegion_same, active]

/-- The append point one slot further on, where the page has one. -/
theorem Store.appendPoint_slot_succ {st : Store} {r : Region} {a : Nat} (active : (st.region r).active = some a) :
    (st.setRegion r { st.region r with slot := (st.region r).slot + 1 }).appendPoint r =
      if (st.region r).slot + 1 < r.slots then some (a, (st.region r).slot + 1) else none :=
  st.appendPoint_setRegion r active

theorem Store.queueOldest_region (st : Store) (r q : Region) : (st.queueOldest r).region q = st.region q := by
  rw [Store.queueOldest_eq]
  cases q <;> rfl

/-- Steps 2 and 3 of a page change leave the append point where it is. -/
theorem Store.prepareReady_appendPoint (st : Store) (r : Region) :
    (st.prepareReady r).appendPoint r = st.appendPoint r := by
  unfold Store.prepareReady
  split
  · simp only [Store.appendPoint, Store.region_setRegion_same]
  · simp only [Store.appendPoint, Store.queueOldest_region]

theorem Store.moveAppendPoint_of_room {st : Store} {r : Region} (room : (st.region r).slot + 1 < r.slots) :
    st.moveAppendPoint r = st.setRegion r { st.region r with slot := (st.region r).slot + 1 } := by
  simp only [Store.moveAppendPoint, Store.region_setRegion_same, if_pos room]

theorem Store.moveAppendPoint_of_last {st : Store} {r : Region} (last : (st.region r).slot + 1 = r.slots) :
    st.moveAppendPoint r = (st.setRegion r { st.region r with slot := (st.region r).slot + 1 }).pageChange r := by
  simp only [Store.moveAppendPoint, Store.region_setRegion_same, if_neg last.not_lt]

/-- A page change with a ready page moves the append point to its first slot. -/
theorem Store.pageChange_appendPoint_of_ready {st : Store} {r : Region} {q : Nat}
    (ready : (st.region r).ready = some q) :
    (st.pageChange r).appendPoint r = some (q, 0) := by
  simp only [Store.pageChange, ready, Store.prepareReady_appendPoint]
  rw [Store.appendPoint_setRegion _ _ rfl, if_pos r.slots_pos]

theorem Store.pageChange_appendPoint_of_none {st : Store} {r : Region} (none : (st.region r).ready = none) :
    (st.pageChange r).appendPoint r = st.appendPoint r := by
  simp only [Store.pageChange, none, Store.prepareReady_appendPoint]

/-! ### The end of a record (R158, R164) -/

theorem State.recordInHand_of {s : State} {i : Nat} {e : Entry} {p : Programming} (running : s.phase = .running)
    (programming : s.store.programming = some p) (held : s.store.queue[i]? = some e) (busy : e.busy = true)
    (first : ∀ j y, j < i → s.store.queue[j]? = some y → y.busy = false) : s.recordInHand = some (p, i, e) := by
  have place : s.store.queue.findIdx? (·.busy) = some i := findIdx?_of_first held busy first
  simp [State.recordInHand, s.isRunning_of running, programming, place, held]

theorem exec_storeWriteEnd_of {s : State} {i : Nat} {e : Entry} {p : Programming}
    (hand : s.recordInHand = some (p, i, e)) (verified : Bool) :
    exec (.storeWriteEnd verified) s =
      .next (if verified then s.recordWritten p i e else s.recordFailed p i e) := by
  change execStoreWriteEnd verified s = _
  rw [execStoreWriteEnd, hand]

theorem Store.recordDone_of_content {st : Store} {e : Entry} {x : StoredRecord} (content : st.contentOf e = some x)
    (p : Programming) (i : Nat) :
    st.recordDone p i e = Store.moveAppendPoint { st.setSlot p.page p.slot (.valid p.seq x) with
      queue := st.queue.eraseIdx i, programming := none } p.region := by
  rw [Store.recordDone, content]
  rfl

@[simp] theorem Store.setRegion_image (st : Store) (r : Region) (v : RegionState) :
    (st.setRegion r v).image = st.image := by
  cases r <;> rfl

@[simp] theorem Store.prepareReady_image (st : Store) (r : Region) : (st.prepareReady r).image = st.image := by
  unfold Store.prepareReady
  split
  · simp
  · rw [Store.queueOldest_eq]

@[simp] theorem Store.pageChange_image (st : Store) (r : Region) : (st.pageChange r).image = st.image := by
  unfold Store.pageChange
  split <;> simp

@[simp] theorem Store.moveAppendPoint_image (st : Store) (r : Region) : (st.moveAppendPoint r).image = st.image := by
  unfold Store.moveAppendPoint
  dsimp only
  split <;> simp

@[simp] theorem Store.recordDone_image (st : Store) (p : Programming) (i : Nat) (e : Entry) :
    (st.recordDone p i e).image = st.image := by
  unfold Store.recordDone
  dsimp only
  split <;> simp [Store.setSlot]

theorem State.endImageWrite_of_pending {s : State} (pending : s.store.image.pending = true) :
    s.endImageWrite = State.requestCheckpoint { s with store := { s.store with image := Image.empty } }
      s.store.image.pendingFail :=
  if_pos pending

theorem State.endImageWrite_of_not_pending {s : State} (none : s.store.image.pending = false) :
    s.endImageWrite = { s with store := { s.store with image := Image.empty } } :=
  if_neg (Bool.eq_false_iff.1 none)

/-- Settles O50: the entry begun by its retry or its priority, the record's end by its entry's kind and the image's
pending mark, the append point by the slot and the ready page. -/
theorem recordIsWritten : Obligations.RecordIsWritten := by
  refine ⟨?_, ?_, ?_⟩
  · intro s i p k e running free served st
    refine ⟨exec_storeWriteBegin_of_not, fun idle held point chosen => ?_⟩
    have served' : s.store.servable e = true := by rw [Store.servable, point]; rfl
    have next : s.store.nextEntry = some i := by
      rcases chosen with ⟨retry, first⟩ | ranked
      · exact Store.nextEntry_of_retry held served' retry first
      · exact Store.nextEntry_of_priority held served' ranked
    rw [exec_storeWriteBegin_of running idle next held point, Store.beginRecord_eq held]
  · intro s i e p x running programming held busy first content freed written emptied
    have content' : s.store.contentOf e = some x := by
      unfold Store.contentOf
      revert content
      cases e.kind with
      | archive r | shift c => exact fun same => congrArg some same.symm
      | powerFail | checkpoint => exact id
    have done : s.store.recordDone p i e = freed.moveAppendPoint p.region :=
      Store.recordDone_of_content content' p i
    have image : written.store.image = s.store.image := by
      rw [← s.store.recordDone_image p i e, done]
    rw [exec_storeWriteEnd_of (State.recordInHand_of running programming held busy first), if_pos rfl,
      State.recordWritten_eq, done]
    refine ⟨fun record => ?_, fun isImage none => ?_, fun isImage pending => ?_⟩
    · rw [if_neg (Bool.eq_false_iff.1 record)]
    · rw [if_pos isImage, State.endImageWrite_of_not_pending (s := written) (by rw [image, none])]
    · rw [if_pos isImage, State.endImageWrite_of_pending (s := written) (by rw [image, pending]), image]
  · intro st r a active k
    refine ⟨fun room => ?_, fun last none => ?_, fun last q ready => ?_⟩
    · rw [Store.moveAppendPoint_of_room room, Store.appendPoint_slot_succ active, if_pos room]
    · rw [Store.moveAppendPoint_of_last last,
        Store.pageChange_appendPoint_of_none (by rwa [Store.region_setRegion_same]),
        Store.appendPoint_slot_succ active, if_neg last.not_lt]
    · rw [Store.moveAppendPoint_of_last last,
        Store.pageChange_appendPoint_of_ready (by rwa [Store.region_setRegion_same])]

end Sys2Proof.Machine
end

section
/-! PROOFS. O51: a record whose word fails verification (R159), and what a region's stopping removes (R168). -/

namespace Sys2Proof.Machine

/-! ### A record failed (R159) -/

/-- The store once a record has failed: its slot left partial, the append point moved past it. -/
def Store.recordLost (st : Store) (p : Programming) : Store :=
  Store.moveAppendPoint { st.setSlot p.page p.slot .incomplete with programming := none } p.region

theorem State.recordFailed_first {s : State} {i : Nat} {e : Entry} (p : Programming)
    (held : s.store.queue[i]? = some e) (first : e.failedOnce = false) :
    s.recordFailed p i e = { s with store := { s.store.recordLost p with
      queue := s.store.queue.set i ⟨e.kind, false, true, ((s.store.recordLost p).appendPoint p.region).isSome⟩ } } := by
  have queue : (s.store.recordLost p).queue = s.store.queue := by simp [Store.recordLost]
  rw [State.recordFailed, first, if_neg Bool.false_ne_true]
  change ({ s with store := { s.store.recordLost p with
    queue := modifyAt _ (s.store.recordLost p).queue i } } : State) = _
  rw [modifyAt_of_getElem? _ (queue ▸ held), queue]
  rfl

theorem State.recordFailed_second {s : State} {e : Entry} (p : Programming) (i : Nat) (second : e.failedOnce = true) :
    s.recordFailed p i e = (State.append
      { s with
        store := (s.store.recordLost p).setRegion p.region
          { (s.store.recordLost p).region p.region with stopped := true }
        flags := { s.flags with programFault := true } }
      ⟨s.tb.time, s.tb.g, s.quality⟩ (.storeFault p.region .program p.page)).stopWrites p.region := by
  rw [State.recordFailed, if_pos second]
  rfl

/-! ### The entries of a region (R160, R168) -/

theorem EntryKind.isImage_iff (k : EntryKind) : k.isImage = true ↔ k.region = .journal := by
  cases k <;> simp [EntryKind.isImage, EntryKind.region]

/-- The entries of the other regions, which a region's stopping leaves. -/
def Store.keptWithout (st : Store) (r : Region) : List Entry := st.queue.filter fun e => decide (e.kind.region ≠ r)

/-- How many entries a region has in the queue. -/
def Store.goneWith (st : Store) (r : Region) : Nat := st.queue.length - (st.keptWithout r).length

theorem Store.length_gone (st : Store) (r : Region) :
    (st.queue.filter fun e => decide (e.kind.region = r)).length = st.goneWith r := by
  have all := List.length_eq_length_filter_add (l := st.queue) fun e => decide (e.kind.region = r)
  simp only [Store.goneWith, Store.keptWithout, ne_eq, decide_not]
  omega

theorem Store.goneWith_eq_zero_iff (st : Store) (r : Region) :
    st.goneWith r = 0 ↔ ∀ e ∈ st.queue, e.kind.region ≠ r := by
  rw [← st.length_gone, List.length_eq_zero_iff, List.filter_eq_nil_iff]
  simp only [decide_eq_true_eq]

theorem Store.keptWithout_of_none {st : Store} {r : Region} (none : ∀ e ∈ st.queue, e.kind.region ≠ r) :
    st.keptWithout r = st.queue :=
  List.filter_eq_self.2 fun e mem => decide_eq_true (none e mem)

theorem Store.region_of_mem_keptWithout {st : Store} {r : Region} {e : Entry} (mem : e ∈ st.keptWithout r) :
    e.kind.region ≠ r :=
  of_decide_eq_true (List.mem_filter.1 mem).2

/-- A waiting image has no entry of the journal beside it. -/
theorem Store.goneWith_of_waiting {st : Store} (waits : st.imageWaits = true) : st.goneWith .journal = 0 := by
  obtain ⟨-, noImage⟩ := st.imageWaits_iff.1 waits
  refine (st.goneWith_eq_zero_iff .journal).2 fun e mem journal => ?_
  have isImage := e.kind.isImage_iff.2 journal
  rw [noImage e mem] at isImage
  cases isImage

/-! ### A region stopped (R168) -/

/-- The state with a region's entries removed, each with the effect of its kind. -/
def State.withoutEntries (s : State) (r : Region) : State :=
  (s.store.queue.filter fun e => decide (e.kind.region = r)).foldl (fun u e => u.dropEntry e.kind)
    { s with store := { s.store with queue := s.store.keptWithout r } }

theorem State.stopWrites_eq (s : State) (r : Region) :
    s.stopWrites r = State.placeImage (if decide (r = .journal) && s.store.imageWaits then
      (s.withoutEntries r).dropCheckpoint else s.withoutEntries r) := by
  simp only [State.stopWrites, State.withoutEntries, Store.keptWithout, ne_eq, decide_not]

theorem State.withoutEntries_records (s : State) {r : Region} (records : r ≠ .journal) :
    s.withoutEntries r = { s with
      store := { s.store with queue := s.store.keptWithout r }
      flags := { s.flags with archiveLoss := s.flags.archiveLoss || decide (0 < s.store.goneWith r) } } := by
  rw [State.withoutEntries, State.dropEntries_records, s.store.length_gone]
  intro e mem
  refine Bool.eq_false_iff.2 fun isImage => records ?_
  rw [← of_decide_eq_true (List.mem_filter.1 mem).2, e.kind.isImage_iff.1 isImage]

theorem State.withoutEntries_journal (s : State) :
    s.withoutEntries .journal = { s with store := { s.store with
      queue := s.store.keptWithout .journal
      image := if s.store.goneWith .journal = 0 then s.store.image else Image.empty
      dropped := if s.store.goneWith .journal = 0 then s.store.dropped
        else min 65535 (s.store.dropped + s.store.goneWith .journal) } } := by
  rw [State.withoutEntries, State.dropEntries_checkpoints, s.store.length_gone]
  exact fun e mem => e.kind.isImage_iff.2 (of_decide_eq_true (List.mem_filter.1 mem).2)

/-- The stopping of the shift record store or the trip archive: its records lost, and a waiting image takes a place that
this frees. -/
theorem State.stopWrites_records (s : State) {r : Region} (records : r ≠ .journal) :
    s.stopWrites r = State.placeImage { s with
      store := { s.store with queue := s.store.keptWithout r }
      flags := { s.flags with archiveLoss := s.flags.archiveLoss || decide (0 < s.store.goneWith r) } } := by
  rw [s.stopWrites_eq, decide_eq_false records, Bool.false_and, if_neg Bool.false_ne_true,
    s.withoutEntries_records records]

/-- How many checkpoints the journal's stopping drops: its entries, and the image where it waits for a place (log entry
36). -/
def Store.checkpointsGone (st : Store) : Nat :=
  if st.imageWaits = true then st.goneWith .journal + 1 else st.goneWith .journal

/-- The stopping of the journal: its checkpoints dropped, and with one dropped no image is left that could wait. -/
theorem State.stopWrites_journal (s : State) :
    s.stopWrites .journal = { s with store := { s.store with
      queue := s.store.keptWithout .journal
      image := if s.store.checkpointsGone = 0 then s.store.image else Image.empty
      dropped := if s.store.checkpointsGone = 0 then s.store.dropped
        else min 65535 (s.store.dropped + s.store.checkpointsGone) } } := by
  rw [s.stopWrites_eq, s.withoutEntries_journal, Store.checkpointsGone]
  cases waits : s.store.imageWaits with
  | true =>
    have none := Store.goneWith_of_waiting waits
    simp only [none, decide_true, Bool.and_self, if_true]
    rw [State.placeImage_of_not_waiting (by simp [State.dropCheckpoint, Store.imageWaits, Image.empty])]
    simp [State.dropCheckpoint, satInc_eq]
  | false =>
    simp only [Bool.and_false, Bool.false_eq_true, if_false]
    refine State.placeImage_of_not_waiting (Bool.eq_false_iff.2 fun waits' => ?_)
    obtain ⟨filled, noImage⟩ := (Store.imageWaits_iff _).1 waits'
    by_cases none : s.store.goneWith .journal = 0
    · simp only [none, if_true, Store.keptWithout_of_none ((s.store.goneWith_eq_zero_iff _).1 none)] at filled noImage
      exact Bool.eq_false_iff.1 waits (s.store.imageWaits_iff.2 ⟨filled, noImage⟩)
    · simp [none, Image.empty] at filled

/-- A waiting image joins the queue as an entry of the journal. -/
theorem State.mem_placeImage_queue {s : State} {e : Entry} (mem : e ∈ s.placeImage.store.queue) :
    e ∈ s.store.queue ∨ e.kind.region = .journal := by
  unfold State.placeImage at mem
  split at mem
  · refine (List.mem_append.1 mem).imp id fun last => ?_
    rw [List.mem_singleton.1 last]
    unfold Entry.fresh Image.entryKind
    split <;> rfl
  · exact .inl mem

/-- Settles O51: the two failures of a record, and a region's stopping by whether it is the journal. -/
theorem failedRecordIsRetriedOnce : Obligations.FailedRecordIsRetriedOnce := by
  refine ⟨?_, ?_⟩
  · intro s i e p running programming held busy first st due
    rw [exec_storeWriteEnd_of (State.recordInHand_of running programming held busy first), if_neg Bool.false_ne_true]
    exact ⟨fun first => congrArg _ (State.recordFailed_first p held first),
      fun second => congrArg _ (State.recordFailed_second p i second)⟩
  · intro s r t
    have some_gone : (∃ e ∈ s.store.queue, e.kind.region = r) → 0 < s.store.goneWith r := by
      rintro ⟨e, mem, region⟩
      exact Nat.pos_of_ne_zero fun none => (s.store.goneWith_eq_zero_iff r).1 none e mem region
    by_cases journal : r = .journal
    · subst journal
      have stopped : t = _ := s.stopWrites_journal
      have gone_le : s.store.goneWith .journal ≤ s.store.checkpointsGone := by
        unfold Store.checkpointsGone
        split <;> omega
      refine ⟨?_, fun some => ⟨fun other => absurd rfl other, fun _ => ?_⟩, fun none placed => ?_,
        fun other => absurd rfl other, fun _ => ?_⟩
      · rw [stopped]
        exact fun e mem => Store.region_of_mem_keptWithout mem
      · have pos := some_gone some
        have drops : s.store.checkpointsGone ≠ 0 := by omega
        rw [stopped]
        simp only [if_neg drops]
        exact ⟨trivial, fun below => by omega⟩
      · have zero : s.store.checkpointsGone = 0 := by
          rw [Store.checkpointsGone, placed, (s.store.goneWith_eq_zero_iff _).2 none]
          rfl
        rw [stopped, zero, Store.keptWithout_of_none none]
        rfl
      · have same : s.store.checkpointsGone = _ := if_congr s.store.imageWaits_iff rfl rfl
        rw [same] at stopped
        exact stopped
    · have stopped : t = _ := s.stopWrites_records journal
      refine ⟨fun e mem => ?_, fun some => ⟨fun _ => ?_, fun isJournal => absurd isJournal journal⟩,
        fun none placed => ?_, fun _ => stopped, fun isJournal => absurd isJournal journal⟩
      · rw [stopped] at mem
        rcases State.mem_placeImage_queue mem with kept | image
        · exact Store.region_of_mem_keptWithout kept
        · exact fun region => journal (region.symm.trans image)
      · rw [stopped]
        simp [some_gone some]
      · have zero := (s.store.goneWith_eq_zero_iff _).2 none
        rw [stopped, zero, Store.keptWithout_of_none none]
        simp [State.placeImage_of_not_waiting placed]

end Sys2Proof.Machine
end

section
/-! PROOFS. O52: erases (R157, R165 to R168). -/

namespace Sys2Proof.Machine

/-! ### What waits for the store (R158, R166, R174) -/

theorem Store.nextEntry_isSome_iff (st : Store) :
    st.nextEntry.isSome = true ↔ ∃ x ∈ st.queue, st.servable x = true := by
  simp only [Store.nextEntry, Store.oldestOf, Option.isSome_or, List.findIdx?_isSome, Bool.or_eq_true, List.any_eq_true,
    Bool.and_eq_true, decide_eq_true_eq]
  refine ⟨?_, fun ⟨x, mem, served⟩ => .inr ?_⟩
  · rintro (⟨x, mem, -, served⟩ | ⟨x, mem, -, served⟩ | ⟨x, mem, -, served⟩ | ⟨x, mem, -, served⟩ | ⟨x, mem, -, served⟩)
    all_goals exact ⟨x, mem, served⟩
  · have priority : x.kind.priority = 1 ∨ x.kind.priority = 2 ∨ x.kind.priority = 3 ∨ x.kind.priority = 4 := by
      have range := x.kind.priority_range
      omega
    exact priority.imp (⟨x, mem, ·, served⟩) (.imp (⟨x, mem, ·, served⟩)
      (.imp (⟨x, mem, ·, served⟩) (⟨x, mem, ·, served⟩)))

/-- A read or a record waits for the store. -/
def State.storeWanted (s : State) : Prop :=
  s.readWaiting = true ∨ ∃ x ∈ s.store.queue, (s.store.appendPoint x.kind.region).isSome = true

theorem State.storeWanted_iff (s : State) : s.storeWanted ↔ s.readWaiting = true ∨ s.store.nextEntry.isSome = true :=
  or_congr_right s.store.nextEntry_isSome_iff.symm

/-! ### An erase begun, suspended and resumed (R165, R166) -/

/-- An erase may begin: none is in hand, no record is being programmed, no read waits and the supply is NORMAL. -/
def State.mayErase (s : State) : Prop :=
  s.store.erase = none ∧ s.store.programming = none ∧ s.readWaiting = false ∧ s.supply.state = .normal

theorem exec_eraseBegin_of {s : State} {p : Nat} {rest : List Nat} (running : s.phase = .running)
    (listed : s.store.eraseList = p :: rest) (free : s.mayErase) :
    exec .eraseBegin s = .next { s with store := s.store.beginErase p rest s.tb.elapsed } := by
  obtain ⟨erase, programming, read, normal⟩ := free
  change execEraseBegin s = _
  simp [execEraseBegin, listed, s.isRunning_of running, erase, programming, read, s.supplyNormal_iff.2 normal]

theorem exec_eraseBegin_of_not {s : State} (busy : ¬s.mayErase) : exec .eraseBegin s = .next s := by
  change execEraseBegin s = _
  unfold execEraseBegin
  split
  · refine congrArg _ (if_neg fun guard => busy ?_)
    simp only [Bool.and_eq_true, Bool.not_eq_true', Option.isNone_iff_eq_none, s.supplyNormal_iff] at guard
    obtain ⟨⟨⟨⟨-, erase⟩, programming⟩, read⟩, normal⟩ := guard
    exact ⟨erase, programming, read, normal⟩
  · rfl

theorem State.runningErase_of {s : State} {e : EraseInHand} (running : s.phase = .running)
    (erase : s.store.erase = some e) (runs : e.running = true) : s.runningErase = some e := by
  simp [State.runningErase, s.isRunning_of running, erase, runs]

theorem EraseInHand.runningTime_of_running {e : EraseInHand} (runs : e.running = true) (now : Nat) :
    e.runningTime now = e.ran + (now - e.since) := by
  rw [EraseInHand.runningTime, if_pos runs]

theorem exec_eraseSuspend_of {s : State} {e : EraseInHand} (inHand : s.runningErase = some e) (runs : e.running = true)
    (wanted : s.storeWanted) (due : e.since + 10000 ≤ s.tb.elapsed) :
    exec .eraseSuspend s = .next { s with store := { s.store with
      erase := some { e with running := false, ran := e.ran + (s.tb.elapsed - e.since) } } } := by
  change execEraseSuspend s = _
  simp only [execEraseSuspend, inHand, if_pos (And.intro due (s.storeWanted_iff.1 wanted)),
    EraseInHand.runningTime_of_running runs]

theorem exec_eraseSuspend_of_not {s : State} {e : EraseInHand} (inHand : s.runningErase = some e)
    (not : ¬s.storeWanted ∨ s.tb.elapsed < e.since + 10000) : exec .eraseSuspend s = .next s := by
  have guard : ¬(e.since + 10000 ≤ s.tb.elapsed ∧ (s.readWaiting = true ∨ s.store.nextEntry.isSome = true)) := by
    rintro ⟨due, wanted⟩
    exact not.elim (· (s.storeWanted_iff.2 wanted)) (Nat.not_lt.2 due)
  change execEraseSuspend s = _
  simp only [execEraseSuspend, inHand, if_neg guard]

theorem exec_eraseResume_of {s : State} {e : EraseInHand} (running : s.phase = .running)
    (erase : s.store.erase = some e) (suspended : e.running = false) (programming : s.store.programming = none)
    (idle : ¬s.storeWanted) : exec .eraseResume s = .next { s with store := { s.store with
      erase := some { e with running := true, since := s.tb.elapsed } } } := by
  have noNext : s.store.nextEntry = none :=
    Option.not_isSome_iff_eq_none.1 fun next => idle (s.storeWanted_iff.2 (.inr next))
  have noRead : s.readWaiting = false := Bool.eq_false_iff.2 fun read => idle (s.storeWanted_iff.2 (.inl read))
  change execEraseResume s = _
  simp [execEraseResume, erase, s.isRunning_of running, suspended, programming, noRead, noNext]

theorem exec_eraseResume_of_wanted {s : State} (wanted : s.storeWanted) : exec .eraseResume s = .next s := by
  change execEraseResume s = _
  unfold execEraseResume
  split
  · refine congrArg _ (if_neg fun guard => ?_)
    simp only [Bool.and_eq_true, Bool.not_eq_true', Option.isNone_iff_eq_none] at guard
    obtain ⟨⟨-, noRead⟩, noNext⟩ := guard
    have wanted' := s.storeWanted_iff.1 wanted
    rw [noRead, noNext] at wanted'
    simp at wanted'
  · rfl

/-! ### An erase completed (R154, R157) -/

theorem exec_eraseComplete_of {s : State} {e : EraseInHand} (inHand : s.runningErase = some e)
    (runs : e.running = true) :
    exec .eraseComplete s = .next
      (if 40000 ≤ e.ran + (s.tb.elapsed - e.since) ∧ e.ran + (s.tb.elapsed - e.since) ≤ 120000 then
        { s with store := s.store.completeErase e.page } else s) := by
  change execEraseComplete s = _
  simp only [execEraseComplete, inHand, EraseInHand.runningTime_of_running runs]

/-- The store with no erase in hand and page `p` blank. -/
def Store.blanked (st : Store) (p : Nat) : Store :=
  { st with erase := none, pages := st.pages.set p (Page.blankOf (regionOfPage p)) }

@[simp] theorem Store.blanked_region (st : Store) (p : Nat) (r : Region) : (st.blanked p).region r = st.region r := by
  cases r <;> rfl

@[simp] theorem Store.blanked_appendPoint (st : Store) (p : Nat) (r : Region) :
    (st.blanked p).appendPoint r = st.appendPoint r := by
  simp only [Store.appendPoint, Store.blanked_region]

theorem Store.blanked_page_same {st : Store} {p : Nat} (lt : p < st.pages.length) :
    (st.blanked p).page p = Page.blankOf (regionOfPage p) := by
  simp [Store.page, Store.blanked, List.getD_eq_getElem?_getD, lt]

theorem Store.blanked_page_other (st : Store) {p q : Nat} (other : q ≠ p) : (st.blanked p).page q = st.page q := by
  simp [Store.page, Store.blanked, List.getD_eq_getElem?_getD, other.symm]

/-- The store whose region has page `p`, blank again, as its active page. -/
def Store.reopened (st : Store) (p : Nat) : Store :=
  (st.blanked p).setRegion (regionOfPage p) { st.region (regionOfPage p) with active := some p, slot := 0 }

theorem Store.completeErase_eq {st : Store} {p : Nat} (lt : p < st.pages.length) :
    st.completeErase p =
      if (st.appendPoint (regionOfPage p)).isNone then (st.reopened p).prepareReady (regionOfPage p)
      else if (st.region (regionOfPage p)).ready.isNone then
        (st.blanked p).setRegion (regionOfPage p) { st.region (regionOfPage p) with ready := some p }
      else st.blanked p := by
  have blanked : { st with erase := none, pages := modifyAt (fun _ => Page.blankOf (regionOfPage p)) st.pages p } =
      st.blanked p := by
    rw [modifyAt_of_getElem? _ (List.getElem?_eq_getElem lt), Store.blanked]
  simp only [Store.completeErase, blanked, Store.blanked_appendPoint, Store.blanked_region, Store.reopened]

theorem Store.completeErase_of_full {st : Store} {p : Nat} (lt : p < st.pages.length)
    (full : st.appendPoint (regionOfPage p) = none) :
    st.completeErase p = (st.reopened p).prepareReady (regionOfPage p) := by
  rw [Store.completeErase_eq lt, full]
  rfl

theorem Store.completeErase_of_unready {st : Store} {p : Nat} (lt : p < st.pages.length)
    (open' : st.appendPoint (regionOfPage p) ≠ none) (unready : (st.region (regionOfPage p)).ready = none) :
    st.completeErase p =
      (st.blanked p).setRegion (regionOfPage p) { st.region (regionOfPage p) with ready := some p } := by
  rw [Store.completeErase_eq lt, if_neg (by simpa using open'), unready]
  rfl

theorem Store.completeErase_of_ready {st : Store} {p : Nat} (lt : p < st.pages.length)
    (open' : st.appendPoint (regionOfPage p) ≠ none) (ready : (st.region (regionOfPage p)).ready ≠ none) :
    st.completeErase p = st.blanked p := by
  rw [Store.completeErase_eq lt, if_neg (by simpa using open'), if_neg (by simpa using ready)]

theorem Store.completeErase_appendPoint_of_full {st : Store} {p : Nat} (lt : p < st.pages.length)
    (full : st.appendPoint (regionOfPage p) = none) :
    (st.completeErase p).appendPoint (regionOfPage p) = some (p, 0) := by
  rw [Store.completeErase_of_full lt full, Store.prepareReady_appendPoint, Store.reopened,
    Store.appendPoint_setRegion _ _ rfl, if_pos (regionOfPage p).slots_pos]

/-- A region with an append point keeps it, and has a ready page from then on. -/
theorem Store.completeErase_of_open {st : Store} {p : Nat} (lt : p < st.pages.length)
    (open' : st.appendPoint (regionOfPage p) ≠ none) :
    (st.completeErase p).appendPoint (regionOfPage p) = st.appendPoint (regionOfPage p)
      ∧ ((st.completeErase p).region (regionOfPage p)).ready =
        some ((st.region (regionOfPage p)).ready.getD p) := by
  cases ready : (st.region (regionOfPage p)).ready with
  | none =>
    rw [Store.completeErase_of_unready lt open' ready]
    simp [Store.appendPoint, Store.region_setRegion_same]
  | some q =>
    rw [Store.completeErase_of_ready lt open' (by simp [ready])]
    simp [ready]

/-- The array and the erase in hand, which steps 2 and 3 of a page change leave alone. -/
@[simp] theorem Store.prepareReady_pages_erase (st : Store) (r : Region) :
    (st.prepareReady r).pages = st.pages ∧ (st.prepareReady r).erase = st.erase := by
  unfold Store.prepareReady
  split
  · simp
  · rw [Store.queueOldest_eq]
    exact ⟨rfl, rfl⟩

theorem Store.completeErase_pages_erase {st : Store} {p : Nat} (lt : p < st.pages.length) :
    (st.completeErase p).pages = (st.blanked p).pages ∧ (st.completeErase p).erase = none := by
  rw [Store.completeErase_eq lt]
  split
  · simp [Store.reopened, Store.blanked]
  · split <;> simp [Store.blanked]

theorem Store.page_congr {st t : Store} (pages : t.pages = st.pages) (q : Nat) : t.page q = st.page q := by
  rw [Store.page, Store.page, pages]

/-- A page beside the one that has been erased that is neither ready nor out of use. -/
def Store.idleBeside (st : Store) (r : Region) (q : Nat) : Bool :=
  decide ((st.region r).ready ≠ some q ∧ st.abandoned ≠ some q) && !st.eraseList.contains q && !st.leftOut.contains q

theorem Store.reopened_region (st : Store) (p : Nat) : (st.reopened p).region (regionOfPage p) =
    { st.region (regionOfPage p) with active := some p, slot := 0 } :=
  Store.region_setRegion_same ..

theorem Store.reopened_idlePage (st : Store) {p q : Nat} (other : q ≠ p) :
    (st.reopened p).idlePage (regionOfPage p) q = st.idleBeside (regionOfPage p) q := by
  simp only [Store.idlePage, Store.outOfUse, Store.reopened_region, Store.idleBeside]
  rw [Bool.eq_iff_iff]
  simp [Store.reopened, Store.blanked, other.symm]
  tauto

theorem Store.reopened_page (st : Store) {p q : Nat} (other : q ≠ p) : (st.reopened p).page q = st.page q := by
  rw [Store.page_congr (st := st.blanked p) (by simp [Store.reopened]) q, st.blanked_page_other other]

theorem Store.reopened_eraseList (st : Store) (p : Nat) : (st.reopened p).eraseList = st.eraseList := by
  simp [Store.reopened, Store.blanked]

theorem Store.reopened_ringAfter (st : Store) (p : Nat) :
    (st.reopened p).ringAfter (regionOfPage p) = (regionOfPage p).ring p := by
  simp only [Store.ringAfter, Store.reopened_region, Region.ring]

theorem Store.reopened_nextBlank (st : Store) (p : Nat) :
    (st.reopened p).nextBlank (regionOfPage p) = ((regionOfPage p).ring p).find? fun q =>
      st.idleBeside (regionOfPage p) q && (st.page q).slots.all fun x => decide (x = .blank) := by
  rw [Store.nextBlank, st.reopened_ringAfter]
  refine List.find?_congr fun q mem => ?_
  obtain ⟨-, other⟩ := Region.mem_ring _ _ _ mem
  rw [st.reopened_idlePage other, st.reopened_page other, Page.isBlank_eq]

theorem Store.reopened_oldestUsed (st : Store) (p : Nat) :
    (st.reopened p).oldestUsed (regionOfPage p) = ((regionOfPage p).ring p).find? fun q =>
      st.idleBeside (regionOfPage p) q && !(st.page q).slots.all fun x => decide (x = .blank) := by
  rw [Store.oldestUsed, st.reopened_ringAfter]
  refine List.find?_congr fun q mem => ?_
  obtain ⟨-, other⟩ := Region.mem_ring _ _ _ mem
  rw [st.reopened_idlePage other, st.reopened_page other, Page.isBlank_eq]

theorem Store.prepareReady_of_blank {st : Store} {r : Region} {q : Nat} (blank : st.nextBlank r = some q) :
    st.prepareReady r = st.setRegion r { st.region r with ready := some q } := by
  rw [Store.prepareReady, blank]

theorem Store.prepareReady_of_none {st : Store} {r : Region} (none : st.nextBlank r = none) :
    st.prepareReady r = { st with eraseList := st.eraseList ++ (st.oldestUsed r).toList } := by
  rw [Store.prepareReady, none, Store.queueOldest_eq]

/-! ### An erase failed (R167, log entry 38) -/

theorem exec_eraseFail_of {s : State} {e : EraseInHand} (inHand : s.runningErase = some e) (runs : e.running = true) :
    exec .eraseFail s = .next (if 120000 ≤ e.ran + (s.tb.elapsed - e.since) then s.failErase e.page else s) := by
  change execEraseFail s = _
  simp only [execEraseFail, inHand, EraseInHand.runningTime_of_running runs]

/-- The state once page `p` is left out and its STORE_FAULT is appended. -/
def State.pageFailed (s : State) (p : Nat) : State :=
  State.append
    { s with
      store := { s.store with erase := none, leftOut := s.store.leftOut ++ [p] }
      flags := { s.flags with eraseFault := true } }
    ⟨s.tb.time, s.tb.g, s.quality⟩ (.storeFault (regionOfPage p) .erase p)

theorem State.pageFailed_region (s : State) (p : Nat) (r : Region) :
    (s.pageFailed p).store.region r = s.store.region r := by
  cases r <;> simp [State.pageFailed, Store.region]

theorem State.failErase_eq (s : State) (p : Nat) :
    s.failErase p =
      if ((s.pageFailed p).store.usablePages (regionOfPage p)).length < 2 then
        (s.pageFailed p).stopWrites (regionOfPage p)
      else if (s.store.region (regionOfPage p)).ready.isNone then
        { s.pageFailed p with store := (s.pageFailed p).store.queueOldest (regionOfPage p) }
      else s.pageFailed p := by
  rw [← s.pageFailed_region p (regionOfPage p)]
  rfl

theorem State.failErase_of_ready {s : State} {p : Nat}
    (enough : 2 ≤ ((s.pageFailed p).store.usablePages (regionOfPage p)).length)
    (ready : (s.store.region (regionOfPage p)).ready ≠ none) : s.failErase p = s.pageFailed p := by
  rw [s.failErase_eq, if_neg (Nat.not_lt.2 enough), if_neg (by simpa using ready)]

theorem State.failErase_of_unready {s : State} {p : Nat}
    (enough : 2 ≤ ((s.pageFailed p).store.usablePages (regionOfPage p)).length)
    (unready : (s.store.region (regionOfPage p)).ready = none) :
    s.failErase p = { s.pageFailed p with store := (s.pageFailed p).store.queueOldest (regionOfPage p) } := by
  rw [s.failErase_eq, if_neg (Nat.not_lt.2 enough), unready]
  rfl

/-- A region left with fewer than two pages is stopped (R168). -/
theorem State.failErase_of_few {s : State} {p : Nat}
    (few : ((s.pageFailed p).store.usablePages (regionOfPage p)).length < 2) :
    s.failErase p = (s.pageFailed p).stopWrites (regionOfPage p) := by
  rw [s.failErase_eq, if_pos few]

/-! ### The oldest used page (R157, R167) -/

theorem Store.idleUsed_eq (st : Store) (r : Region) (p : Nat) :
    (st.idlePage r p && !(st.page p).isBlank) =
      (decide ((st.region r).active ≠ some p ∧ (st.region r).ready ≠ some p ∧ st.erase.map (·.page) ≠ some p
          ∧ st.abandoned ≠ some p)
        && !st.eraseList.contains p && !st.leftOut.contains p
        && (st.page p).slots.any fun x => decide (x ≠ .blank)) := by
  rw [Bool.eq_iff_iff, Page.isBlank_eq]
  simp [Store.idlePage, Store.outOfUse]
  tauto

theorem Store.queueOldest_eq_find (st : Store) (r : Region) :
    st.queueOldest r = { st with eraseList := st.eraseList ++ ((st.ringAfter r).find? fun p =>
      decide ((st.region r).active ≠ some p ∧ (st.region r).ready ≠ some p ∧ st.erase.map (·.page) ≠ some p
          ∧ st.abandoned ≠ some p)
        && !st.eraseList.contains p && !st.leftOut.contains p
        && (st.page p).slots.any fun x => decide (x ≠ .blank)).toList } := by
  rw [Store.queueOldest_eq, Store.oldestUsed]
  simp only [Store.idleUsed_eq]

/-- Settles O52: each command by its conditions, a completed erase by what its region had, and the oldest used page by
the ring. -/
theorem erasesRunTheirCourse : Obligations.ErasesRunTheirCourse := by
  refine ⟨?_, ?_, ?_⟩
  · intro s p rest running listed ready
    exact ⟨exec_eraseBegin_of running listed, exec_eraseBegin_of_not⟩
  · intro s e running erase wanted ran
    refine ⟨fun runs => ?_, exec_eraseResume_of running erase, fun _ => exec_eraseResume_of_wanted⟩
    have inHand := State.runningErase_of running erase runs
    refine ⟨exec_eraseSuspend_of inHand runs, exec_eraseSuspend_of_not inHand, fun le le' lt => ?_, fun early => ?_,
      fun early => ?_, fun late => ?_⟩
    · obtain ⟨pages, noErase⟩ := Store.completeErase_pages_erase lt
      refine ⟨s.store.completeErase e.page, ?_, noErase, ?_, fun q other => ?_,
        Store.completeErase_appendPoint_of_full lt, Store.completeErase_of_open lt, ?_⟩
      · rw [exec_eraseComplete_of inHand runs, if_pos ⟨le, le'⟩]
      · rw [Store.page_congr pages, Store.blanked_page_same lt]
      · rw [Store.page_congr pages, Store.blanked_page_other _ other]
      · intro r now blanked begun ring blank idle
        refine ⟨Store.completeErase_of_ready lt, Store.completeErase_of_unready lt, fun full q found => ?_,
          fun full none => ?_⟩
        · rw [Store.completeErase_of_full lt full,
            Store.prepareReady_of_blank ((s.store.reopened_nextBlank e.page).trans found), Store.reopened_region]
          exact Store.setRegion_twice ..
        · rw [Store.completeErase_of_full lt full,
            Store.prepareReady_of_none ((s.store.reopened_nextBlank e.page).trans none), Store.reopened_oldestUsed,
            Store.reopened_eraseList]
          rfl
    · rw [exec_eraseComplete_of inHand runs, if_neg fun due => Nat.not_le.2 early due.1]
    · rw [exec_eraseFail_of inHand runs, if_neg (Nat.not_le.2 early)]
    · intro r failed left
      rw [exec_eraseFail_of inHand runs, if_pos late]
      exact ⟨fun enough ready => congrArg _ (State.failErase_of_ready enough ready),
        fun enough unready => congrArg _ (State.failErase_of_unready enough unready),
        fun few => congrArg _ (State.failErase_of_few few)⟩
  · exact Store.queueOldest_eq_find

end Sys2Proof.Machine
end

section
/-! PROOFS. O2: every command answers a next state, keeps the queue of waiting commands, and takes back nothing driven
out (log entries 1 and 22). -/

namespace Sys2Proof.Machine

/-! ### Driving out (log entry 22) -/

/-- The waiting commands stay, and what has been driven out is only added to. -/
structure State.DrivesOn (s t : State) : Prop where
  pending : t.pending = s.pending
  out : s.out <+: t.out

theorem State.DrivesOn.of_kept {s t : State} (kept : t.pending = s.pending ∧ t.out = s.out) : s.DrivesOn t :=
  ⟨kept.1, kept.2 ▸ List.prefix_rfl⟩

theorem State.DrivesOn.refl (s : State) : s.DrivesOn s := .of_kept ⟨rfl, rfl⟩

theorem State.DrivesOn.trans {s t u : State} (h : s.DrivesOn t) (k : t.DrivesOn u) : s.DrivesOn u :=
  ⟨k.pending.trans h.pending, h.out.trans k.out⟩

theorem State.DrivesOn.then_kept {s t u : State} (h : s.DrivesOn t) (kept : u.pending = t.pending ∧ u.out = t.out) :
    s.DrivesOn u :=
  h.trans (.of_kept kept)

theorem State.emit_drivesOn (s : State) (o : Output) : s.DrivesOn (s.emit o) := ⟨rfl, List.prefix_append _ _⟩

theorem State.answer_drivesOn (s : State) (r : Request) (st : Status) (c : List Byte) :
    s.DrivesOn (s.answer r st c) := by
  unfold State.answer
  dsimp only
  split
  · exact .trans (.of_kept (by simp)) (State.emit_drivesOn _ _)
  · exact .of_kept (by simp)

/-- An answer given from a state that has driven out what `s` has. -/
theorem State.DrivesOn.answered {s t : State} (kept : t.pending = s.pending ∧ t.out = s.out) (r : Request) (st : Status)
    (c : List Byte) : s.DrivesOn (t.answer r st c) :=
  .trans (.of_kept kept) (t.answer_drivesOn r st c)

/-! ### Receptions (R32, R33) -/

theorem State.takeBeacon_drivesOn (s : State) (ch : Channel) (r : Received) (p : Stamp) :
    s.DrivesOn (s.takeBeacon ch r p) := by
  unfold State.takeBeacon
  dsimp only
  split
  · exact .trans (.of_kept (by simp)) (State.emit_drivesOn _ _)
  · exact .of_kept ⟨rfl, rfl⟩

theorem State.route_drivesOn (s : State) (ch : Channel) (r : Received) (p : Stamp) : s.DrivesOn (s.route ch r p) := by
  unfold State.route
  split
  · exact s.takeBeacon_drivesOn ch r p
  · exact .of_kept (by simp)
  · exact .of_kept (by simp)
  · split <;> exact .of_kept (by simp)
  · split
    · exact s.emit_drivesOn _
    · exact .refl s
  · exact .refl s

theorem State.receive_drivesOn (s : State) (ch : Channel) (r : Received) (p : Stamp) :
    s.DrivesOn (s.receive ch r p) := by
  unfold State.receive
  dsimp only
  split
  · exact .trans (.of_kept (by simp)) (State.route_drivesOn ..)
  · split <;> exact .of_kept ⟨rfl, rfl⟩

/-! ### Services that end without a request command (R170, R174, R184) -/

theorem State.failRead_drivesOn (s : State) : s.DrivesOn s.failRead := by
  unfold State.failRead
  split
  · exact .answered (by simp) ..
  · exact .refl s

theorem State.takeWarning_drivesOn (s : State) : s.DrivesOn s.takeWarning :=
  .trans (.of_kept (by simp)) (State.failRead_drivesOn _)

theorem State.endClearFlags_drivesOn (s : State) : s.DrivesOn s.endClearFlags := by
  unfold State.endClearFlags
  split
  · exact .answered (by simp) ..
  · exact .refl s

theorem State.microsecond_drivesOn (s : State) (p : MicroPart) (o : SecondOrder) : s.DrivesOn (s.microsecond p o) := by
  have ended : s.DrivesOn (s.endMicrosecond o) := .trans (.of_kept (by simp)) (State.endClearFlags_drivesOn _)
  cases p with
  | whole => exact ended.then_kept (by simp [State.microsecond])
  | advance => exact ended.then_kept (by simp [State.microsecond])
  | signal => exact .of_kept (by simp [State.microsecond])

/-! ### The owners of requests (R86, R93, R108, R127 to R129, R176, R181 to R185) -/

/-- Serving a request drives on where its owner does. -/
theorem State.serve_drivesOn (s : State) (code : Nat) (owner : State → Request → State)
    (owned : ∀ (u : State) (r : Request), u.DrivesOn (owner u r)) : s.DrivesOn (s.serve code owner) := by
  rcases s.serve_cases code owner with e | ⟨r, e⟩ | ⟨r, e⟩ <;> rw [e]
  · exact .refl s
  · exact .answered (by simp) ..
  · exact .trans (.of_kept (by simp)) (owned s.popRequest r)

theorem State.beginRead_drivesOn (s : State) (r : Request) : s.DrivesOn (s.beginRead r) := by
  unfold State.beginRead
  split
  · exact .of_kept ⟨rfl, rfl⟩
  · exact s.answer_drivesOn ..

theorem State.serveFetchLog_drivesOn (s : State) (r : Request) : s.DrivesOn (s.serveFetchLog r) := by
  unfold State.serveFetchLog
  dsimp only
  split <;> exact .answered (by simp) ..

theorem State.serveFetchNotices_drivesOn (s : State) (r : Request) : s.DrivesOn (s.serveFetchNotices r) := by
  unfold State.serveFetchNotices
  dsimp only
  split <;> exact .answered (by simp) ..

theorem State.serveReadShift_drivesOn (s : State) (r : Request) : s.DrivesOn (s.serveReadShift r) := by
  unfold State.serveReadShift
  split
  · exact s.answer_drivesOn ..
  · exact s.beginRead_drivesOn r

theorem State.serveAckGroup_drivesOn (s : State) (r : Request) : s.DrivesOn (s.serveAckGroup r) := by
  unfold State.serveAckGroup
  split <;> exact .answered (by simp) ..

theorem State.servePreset_drivesOn (s : State) (r : Request) : s.DrivesOn (s.servePreset r) := by
  unfold State.servePreset
  dsimp only
  repeat' split
  all_goals exact .answered (by simp) ..

theorem State.serveProtect_drivesOn (s : State) (r : Request) : s.DrivesOn (s.serveProtect r) := by
  unfold State.serveProtect
  dsimp only
  repeat' split
  all_goals exact .answered (by simp) ..

theorem State.serveLockDown_drivesOn (s : State) (r : Request) : s.DrivesOn (s.serveLockDown r) := by
  unfold State.serveLockDown
  dsimp only
  split <;> exact .answered (by simp) ..

theorem State.serveSetTime_drivesOn (gs : List Nat) (s : State) (r : Request) : s.DrivesOn (s.serveSetTime gs r) := by
  unfold State.serveSetTime
  dsimp only
  split <;> exact .answered (by simp) ..

/-! ### Every command -/

theorem State.runStart_drivesOn (s : State) (k : ResetCause) (i : StartInputs) : s.DrivesOn (s.runStart k i) := by
  obtain ⟨-, pending, out, -⟩ := s.started_blocks k i
  have started : s.DrivesOn (s.started k i) := .of_kept ⟨pending, out⟩
  rw [s.runStart_eq]
  split
  · exact started.trans (State.takeWarning_drivesOn _)
  · exact started

theorem exec_drivesOn (c : Instr) (s t : State) (h : exec c s = .next t) : s.DrivesOn t := by
  cases c with
  | elapsedMicrosecond p o =>
    obtain rfl := Host.Outcome.next.inj h
    split
    · exact s.microsecond_drivesOn p o
    · exact .refl s
  | reception ch data odd =>
    obtain rfl := Host.Outcome.next.inj h
    split
    · have ended : s.DrivesOn (s.setLine ch { (s.line ch).active s.tb.elapsed with stamp := none }) :=
        .of_kept (by simp)
      dsimp only
      split
      · exact ended.then_kept (by simp)
      · split
        · exact ended.then_kept ⟨rfl, rfl⟩
        · exact ended.trans (State.receive_drivesOn ..)
    · exact .refl s
  | sendingComplete ch =>
    obtain rfl := Host.Outcome.next.inj h
    split
    · dsimp only
      split
      · split
        · exact .trans (.of_kept (by simp)) (State.emit_drivesOn _ _)
        · exact .refl s
      · exact .refl s
    · exact .refl s
  | collision ch =>
    obtain rfl := Host.Outcome.next.inj h
    split
    · dsimp only
      split
      · split <;> exact .of_kept (by simp)
      · exact .refl s
    · exact .refl s
  | storeRead =>
    obtain rfl := Host.Outcome.next.inj h
    split
    · split
      · exact .answered (by simp) ..
      · exact .refl s
    · exact .refl s
  | supplyWarning mv =>
    obtain rfl := Host.Outcome.next.inj h
    split
    · exact s.takeWarning_drivesOn
    · exact .refl s
  | unknownRequest =>
    obtain rfl := Host.Outcome.next.inj h
    split
    · split
      · exact .refl s
      · exact .answered (by simp) ..
    · exact .refl s
  | clearFlags =>
    obtain rfl := Host.Outcome.next.inj h
    split
    · exact s.endClearFlags_drivesOn
    · exact s.serve_drivesOn _ _ fun u r => .of_kept (by simp)
  | restart =>
    obtain rfl := Host.Outcome.next.inj h
    exact s.serve_drivesOn _ _ fun u r => (u.answer_drivesOn r .ok []).then_kept ⟨rfl, rfl⟩
  | status | readTime | readPeers | readGroup | readTallies =>
    obtain rfl := Host.Outcome.next.inj h
    exact s.serve_drivesOn _ _ fun u r => u.answer_drivesOn r .ok _
  | fetchLog => obtain rfl := Host.Outcome.next.inj h; exact s.serve_drivesOn _ _ State.serveFetchLog_drivesOn
  | readArchive => obtain rfl := Host.Outcome.next.inj h; exact s.serve_drivesOn _ _ State.beginRead_drivesOn
  | fetchNotices => obtain rfl := Host.Outcome.next.inj h; exact s.serve_drivesOn _ _ State.serveFetchNotices_drivesOn
  | readShift => obtain rfl := Host.Outcome.next.inj h; exact s.serve_drivesOn _ _ State.serveReadShift_drivesOn
  | ackGroup => obtain rfl := Host.Outcome.next.inj h; exact s.serve_drivesOn _ _ State.serveAckGroup_drivesOn
  | presetTally => obtain rfl := Host.Outcome.next.inj h; exact s.serve_drivesOn _ _ State.servePreset_drivesOn
  | protectTally => obtain rfl := Host.Outcome.next.inj h; exact s.serve_drivesOn _ _ State.serveProtect_drivesOn
  | lockDownTally => obtain rfl := Host.Outcome.next.inj h; exact s.serve_drivesOn _ _ State.serveLockDown_drivesOn
  | setTime gs => obtain rfl := Host.Outcome.next.inj h; exact s.serve_drivesOn _ _ (State.serveSetTime_drivesOn gs)
  | powerOn | resetLine => obtain rfl := Host.Outcome.next.inj h; exact .of_kept ⟨rfl, rfl⟩
  | supplyReset mv =>
    obtain rfl := Host.Outcome.next.inj h
    split <;> exact .of_kept ⟨rfl, rfl⟩
  | restartReset =>
    obtain rfl := Host.Outcome.next.inj h
    split
    · split <;> exact .of_kept ⟨rfl, rfl⟩
    · exact .refl s
  | start i =>
    obtain rfl := Host.Outcome.next.inj h
    split
    · split
      · exact s.runStart_drivesOn _ i
      · exact .refl s
    · exact .refl s
  | _ =>
    obtain rfl := Host.Outcome.next.inj h
    repeat' split
    all_goals exact .of_kept (by simp)

/-- Each arm of `exec` is a next state. -/
theorem exec_next (c : Instr) (s : State) : ∃ t, exec c s = .next t := by
  cases c <;> exact ⟨_, rfl⟩

/-- Settles O2: every command answers a next state, and drives on to it. -/
theorem everyCommandAnswersNext : Obligations.EveryCommandAnswersNext := by
  intro c s
  obtain ⟨t, h⟩ := exec_next c s
  obtain ⟨pending, out⟩ := exec_drivesOn c s t h
  exact ⟨t, h, pending, out⟩

end Sys2Proof.Machine
end

section
/-! PROOFS. O3: in reset every command but START and the resets leaves the part as it stands (R186, R187, R189). -/

namespace Sys2Proof.Machine

/-! ### What a part that does not run finds in hand -/

theorem State.isRunning_eq_false {s : State} (held : s.phase ≠ .running) : s.isRunning = false :=
  decide_eq_false held

/-- No answer of a CLEAR FLAGS is due in reset (log entry 42). -/
theorem State.clearingHeld_eq_false {s : State} (held : s.phase ≠ .running) : s.clearingHeld = false := by
  unfold State.clearingHeld
  split
  · exact absurd ‹_› held
  · rfl

theorem State.recordToBegin_eq_none {s : State} (held : s.phase ≠ .running) : s.recordToBegin = none := by
  simp [State.recordToBegin, State.isRunning_eq_false held]

theorem State.recordInHand_eq_none {s : State} (held : s.phase ≠ .running) : s.recordInHand = none := by
  simp [State.recordInHand, State.isRunning_eq_false held]

theorem State.runningErase_eq_none {s : State} (held : s.phase ≠ .running) : s.runningErase = none := by
  simp [State.runningErase, State.isRunning_eq_false held]

/-! ### The commands of a part that does not run -/

/-- A command whose guard fails has no effect. -/
theorem next_of_guard_eq_false {s t : State} {guard : Bool} (fails : guard = false) :
    (Host.Outcome.next (if guard then t else s) : Host.Outcome State Fault Refusal) = .next s := by
  rw [fails]
  rfl

/-- Settles O3: each command but START and the resets asks for a running part: through the oldest request, through the
record or the erase in hand, or in its own guard. -/
theorem onlyStartAndResetsActInReset : Obligations.OnlyStartAndResetsActInReset := by
  intro c s k inReset
  have held : s.phase ≠ .running := by simp [inReset]
  have idle := State.isRunning_eq_false held
  have unserved : s.oldestRequest = none := State.oldestRequest_eq_none (.inl held)
  cases c with
  | start | powerOn | supplyReset | resetLine => trivial
  | restartReset => exact exec_restartReset_of_not (.inl held)
  | status | readTime | readPeers | fetchLog | readArchive | fetchNotices | readGroup | ackGroup | readTallies | readShift
  | presetTally | protectTally | lockDownTally | setTime | restart =>
    exact exec_of_oldestRequest_eq_none unserved rfl nofun
  | clearFlags => exact exec_of_oldestRequest_eq_none unserved rfl fun _ => State.clearingHeld_eq_false held
  | unknownRequest => exact exec_unknownRequest_of_none unserved
  | deferralEnd | beaconStamp | collision | sendingComplete | reception | dwellEnd =>
    simp [exec, execDeferralEnd, execBeaconStamp, execCollision, execSendingComplete, execReception, execDwellEnd, idle]
  | storeWriteBegin | storeWriteEnd | eraseSuspend | eraseComplete | eraseFail =>
    simp [exec, execStoreWriteBegin, execStoreWriteEnd, execEraseSuspend, execEraseComplete, execEraseFail,
      State.recordToBegin_eq_none held, State.recordInHand_eq_none held, State.runningErase_eq_none held]
  | eraseBegin | eraseResume | storeRead =>
    simp only [exec, execEraseBegin, execEraseResume, execStoreRead, idle, Bool.false_and]
    split <;> rfl
  | elapsedMicrosecond | secondMarkPulseEnd | mark | markTimeout | channelQuiet | channelActivity | timingMark
  | consoleRequest | consoleHandoverNotice | inputSample | chatterWindowEnd | chatterEnd | groupClose | groupHoldEnd
  | statusSample | elapsedMillisecondTick | checkpointIntervalExpiry | supplyWarning | supplyRise | supplyHoldFall
  | powerDip =>
    exact next_of_guard_eq_false (by simp [idle])

end Sys2Proof.Machine
end

section
/-! PROOFS. O1: a step runs the command at the front of the queue, and idles where none waits (log entry 2). -/

namespace Sys2Proof.Machine

/-- With no command waiting the block idles (log entry 2). -/
theorem step_of_pending_eq_nil {s : State} (empty : s.pending = []) : step s = .next s := by
  simp only [step, empty]

/-- The command at the front of the queue is executed with the queue's rest. -/
theorem step_of_pending_eq_cons {s : State} {c : Instr} {rest : List Instr} (front : s.pending = c :: rest) :
    step s = exec c (s.withPending rest) := by
  simp only [step, front]

/-- Settles O1: the two shapes of the queue are the two cases of a step. -/
theorem stepRunsTheFrontCommand : Obligations.StepRunsTheFrontCommand :=
  ⟨fun _ _ _ front => step_of_pending_eq_cons front, fun _ empty => step_of_pending_eq_nil empty⟩

end Sys2Proof.Machine
end
